-- ==== Sys2Proof/Word.lean ====
section
/-! DEFINITION. The plainest words of the model: the byte of the part's links, the signed 32-bit range of a slot
value (section 3.2 of 00_scope.md), and three total helpers on numbers and on fixed-size tables. -/

namespace Sys2Proof

/-- One byte of a record on CL or of a frame on VA, VB or WS. -/
abbrev Byte := BitVec 8

/-- The index of a slot of the signal store, 0 to 255 (section 3.6). -/
abbrev Slot := Fin 256

/-- The least slot value: every slot value is a signed 32-bit integer (section 3.2). -/
def i32Min : Int := -2147483648

/-- The greatest slot value. -/
def i32Max : Int := 2147483647

/-- `v` limited into `lo..hi`. -/
def clampInt (lo hi v : Int) : Int :=
  if v < lo then lo else if hi < v then hi else v

/-- A count that gains 1 and stops at `top` (the saturating counters of R9, R25, R126, R138, R152, R158). -/
def satSucc (top n : Nat) : Nat :=
  if n < top then n + 1 else top

/-- Every element of a fixed-size table changed by `f`. -/
def mapTable {α β : Type} {n : Nat} (f : α → β) (t : Vector α n) : Vector β n :=
  ⟨⟨t.toList.map f⟩, by simp⟩

/-- The indices of a table of `n` entries, ascending. -/
def indices (n : Nat) : List (Fin n) := List.finRange n

/-- The entries of a table with their indices, ascending. -/
def entries {α : Type} {n : Nat} (t : Vector α n) : List (Fin n × α) :=
  (indices n).zip t.toList

end Sys2Proof
end

