-- ==== Sys2Proof/Syntax.lean ====
section
/-! DEFINITION. The commands of the part: one constructor of `Instr` for each row of spec/opcode_table.json, with the
operands the row's rule gives it. A command is one whole and indivisible step of the part (95_what_each_step_holds.md):
a management record on CL, a request frame on WS, a byte, a frame or an edge arriving at a pin, the expiry of one of the
part's timers, or one block's taking of a notification or report made by another. -/

namespace Sys2Proof

/-- The two vehicle CAN ports (R18). -/
inductive VehiclePort where
  | va
  | vb
deriving DecidableEq, Repr

/-- The three CAN ports, for the settings that take effect at the next idle of a segment (R19, R184). -/
inductive CanPort where
  | va
  | vb
  | ws
deriving DecidableEq, Repr

/-- Failure types of a sense line (R149). -/
inductive LineFailure where
  | shortGnd
  | shortSupply
  | openCircuit
deriving DecidableEq, Repr

/-- Failure types of a frame table entry (R149). -/
inductive FrameFailure where
  | timeout
  | sequence
  | length
  | senderError
deriving DecidableEq, Repr

/-- Failure types of a door leaf (R149). -/
inductive DoorFailure where
  | transit
  | inconsistent
deriving DecidableEq, Repr

/-- A valid fault code: source kind, object index and failure type (R149). The type has exactly the 417 valid codes. -/
inductive FaultCode where
  | line (index : Fin 48) (failure : LineFailure)
  | frame (index : Fin 64) (failure : FrameFailure)
  | speed
  | door (leaf : Fin 8) (failure : DoorFailure)
deriving DecidableEq, Repr

/-- The 102 requesters of the chime generator (R122). -/
inductive Requester where
  | warning (entry : Fin 96)
  | portal (portal : Fin 4)
  | display
  | workshop
deriving DecidableEq, Repr

/-- The head of a data frame on WS (R184): its format, its identifier and its data length code. -/
structure FrameHead where
  extended : Bool
  ident : BitVec 29
  dlc : BitVec 4
deriving DecidableEq, Repr

/-- A request frame on WS: its head, and its data bytes behind the service code of the row (of UNKNOWN_SERVICE_REQUEST, all
of them). -/
structure WsRequest where
  head : FrameHead
  bytes : List Byte
deriving DecidableEq, Repr

/-- The commands, one constructor per row of spec/opcode_table.json, in the table's order.
`body` is the body of a CL record (R196), `rest` the body of a TABLE_WRITE behind its table code (R197), `request`
the frame on WS (R184, R198), each as sent: a malformed one is a command too, and its meaning is the answer the spec
gives it. -/
inductive Instr where
  | powerOnReset
  | frameTableWrite (rest : List Byte)
  | signalTableWrite (rest : List Byte)
  | linkTableWrite (rest : List Byte)
  | lineTableWrite (rest : List Byte)
  | curveTableWrite (rest : List Byte)
  | scanTableWrite (rest : List Byte)
  | doorTableWrite (rest : List Byte)
  | gaugeTableWrite (rest : List Byte)
  | warningTableWrite (rest : List Byte)
  | patternTableWrite (rest : List Byte)
  | faultClassTableWrite (rest : List Byte)
  | calibrationTableWrite (rest : List Byte)
  | tableRead (body : List Byte)
  | signalRead (body : List Byte)
  | listRead (body : List Byte)
  | start (body : List Byte)
  | sweep (body : List Byte)
  | park (body : List Byte)
  | reset (body : List Byte)
  | warningAck (body : List Byte)
  | observedReadClear (body : List Byte)
  | chimePlay (body : List Byte)
  | chimeStop (body : List Byte)
  | tripReset (body : List Byte)
  | odometerLoad (body : List Byte)
  | calClose (body : List Byte)
  | faultRestore (body : List Byte)
  | faultRead (body : List Byte)
  | stopRequestClear (body : List Byte)
  | identRead (body : List Byte)
  | unknownKindRecord (kind : Byte) (body : List Byte)
  | clRecordDiscard
  | receiveGapExpiry
  | lrdyAsserted
  | lrdyDeasserted
  | recordTransmitEnd
  | heartbeat (slot : Slot)
  | minimumIntervalReached (slot : Slot)
  | portRateTakesEffect (port : CanPort)
  | frameReceived (port : VehiclePort) (extended : Bool) (ident : BitVec 29) (dlc : BitVec 4) (data : List Byte)
  | frameTimerExpiry (entry : Fin 64)
  | scanSlotExpiry (code : BitVec 10)
  | parkedPassStart
  | piEdge
  | boundCheck
  | standstillTimerExpiry
  | plausibilityTimerExpiry
  | frameSpeedNotification
  | gaugeInterval
  | homingEnd
  | sweepComplete
  | evaluation (slot : Slot)
  | warningTimerExpiry (entry : Fin 96)
  | requestPlacing (who : Requester) (pattern : Fin 8)
  | requestWithdrawal (who : Requester)
  | onTimeEnd
  | burstEnd
  | doorInputNotification (slot : Slot)
  | transitTimerExpiry (leaf : Fin 8)
  | faultConditionStart (code : FaultCode) (cls : Fin 16)
  | faultConditionEnd (code : FaultCode) (cls : Fin 16)
  | agingPass
  | cliNotification (slot : Slot)
  | parkDelayExpiry
  | wspSpeedNotification
  | readIdent (request : WsRequest)
  | readFaultCount (request : WsRequest)
  | readFaultRecord (request : WsRequest)
  | clearFaults (request : WsRequest)
  | readSignal (request : WsRequest)
  | readLine (request : WsRequest)
  | readDoor (request : WsRequest)
  | clearDoorCounters (request : WsRequest)
  | readSpeed (request : WsRequest)
  | writeCal (request : WsRequest)
  | testTelltale (request : WsRequest)
  | testGauge (request : WsRequest)
  | testChime (request : WsRequest)
  | testEnd (request : WsRequest)
  | unknownServiceRequest (request : WsRequest)
  | testTimerExpiry
  | pacingExpiry
  | segmentSent
  | segmentFailed
  | busOffRecovery
  | receivedByte (byte : Byte) (framingError : Bool)
  | flashClock
deriving DecidableEq, Repr

end Sys2Proof
end

