-- ==== Sys2Proof/Decode.lean ====
section
/-! DEFINITION. The command a word spells by the bits of spec/opcode_table.json. The part has no instruction words:
no row of the table gives fixed bits or fields ("n_rows_with_fixed" and "n_rows_with_fields" of 98_reader.md are 0),
so no word spells a command. The bytes of records and frames are read by `Machine/Operands.lean` and its users. -/

namespace Sys2Proof

/-- No row of the opcode table gives bits, so no word spells a command. -/
def decodeTableWord (_nbits _w : Nat) : Option Instr := none

end Sys2Proof
end

