-- ==== Sys2Proof/Config.lean ====
section
/-! DEFINITION. What the spec leaves open, as constants without a body: nothing can be proved of their values. Each is
applied to the counter `State.freeCount`, which the step that uses it advances, or to the operands it depends on.
The log entries are named at each. -/

namespace Sys2Proof

/-- The order in which the speed unit, the warning unit and the door monitor act when CLI tells the blocks of an entry
into RUN (R178, R181: "tells every block", no order given); one of the six orders. Log entry 5. -/
opaque Config.tellOrder : Nat → Fin 6

/-- Which of the arrivals that stand ready is taken next when the part runs by itself (R11, R153: either may come
first). Log entry 3. -/
opaque Config.pick : Nat → Nat

/-- The code the converter gives at a scan slot that the part runs by itself: the voltage of the line is an input of
the world outside (R39). Log entry 4. -/
opaque Config.lineCode : Nat → BitVec 10

/-- Whether the transmission of a segment handed to the WS port had already started when its response is abandoned
(R188); the start of a transmission on WS is no command of the table. Log entry 8. -/
opaque Config.segmentStarted : Nat → Bool

/-- Whether a time left that is no whole multiple of its 10 ms unit is reported rounded up (true) or down (R117, R148
give the unit, not the rounding). A function of the microseconds left. Log entry 9. -/
opaque Config.timeLeftRoundsUp : Nat → Bool

/-- The two bytes READ_SPEED carries for a period count above 65,535 (R198 gives the count 2 bytes). Log entry 10. -/
opaque Config.wideCount : Nat → BitVec 16

/-- The bytes that an unloaded signal table entry reads back in the fields whose unloaded readback R3 does not give
(producer index, the extraction flags and fields), by their position in the entry body. Log entry 11. -/
opaque Config.unloadedSignalByte : Nat → Byte

/-- The levels of a channel's four phase outputs at a pointer position ("the pattern that belongs to p", chapter 5, which
gives no pattern). Log entry 34. -/
opaque Config.phasePattern : Nat → BitVec 4

/-- The levels of the phase outputs after so many microsteps of the homing drive (R91). Log entry 34. -/
opaque Config.homingPattern : Nat → BitVec 4

end Sys2Proof
end

