-- ==== Sys2Proof/Machine/State.lean ====
section
/-! DEFINITION. Everything the spec gives the part to hold, as plain data, and its values after power-on reset.
Each type names the rule of spec/ that gives it. A time is a reading of the free-running 1 MHz reference, in
microseconds (`State.now`); a timer is held as the time it ends, an age or a clock as the time it started. -/

namespace Sys2Proof.Machine

/-! ### Stops -/

/-- The reasons the part could stop with a fault. The spec gives it none: a fault of the vehicle is a CONDITION that the
fault memory records (R153), and a bad record or frame is answered (R167, R186). -/
inductive Fault where
  /-- Raised by no meaning (log entry 36). Safe: nothing ends a run. -/
  | neverRaised
deriving DecidableEq, Repr

/-- The reasons a command has no meaning. -/
inductive Refusal where
  /-- Raised by `exec`'s own arm of a command that has no meaning yet, never by a meaning. Safe: the run ends there. -/
  | notModelled (mnemonic : String)
deriving DecidableEq, Repr

/-! ### Names -/

/-- The qualities of a slot's value (section 3.4, R6). -/
inductive Quality where
  | neverReceived
  | valid
  | limited
  | substituted
  | stale
  | notAvailable
  | senderError
  | lineFault
deriving DecidableEq, Repr

/-- The operating states (section 1.3, R183). -/
inductive OpState where
  | config
  | run
  | sweep
  | parked
deriving DecidableEq, Repr

/-- The result codes of responses (section 3.8). -/
inductive Result where
  | ok
  | format
  | unknown
  | range
  | state
  | locked
  | inconsistent
  | moving
  | full
deriving DecidableEq, Repr

/-- The causes a STATE event carries (section 10.9, R35). -/
inductive StateCause where
  | powerOn
  | start
  | sweepRequest
  | sweepComplete
  | abort
  | parkRequest
  | parkDelay
  | ignition
  | reset
  | wakeFrame
deriving DecidableEq, Repr

/-- The bit rates of a CAN port (R19, R184). -/
inductive Rate where
  | off
  | k125
  | k250
  | k500
  | k1000
deriving DecidableEq, Repr

/-! ### Signal store (chapter 1) -/

/-- The producer kinds of a signal table entry (R2). `unused` is the spec's NONE. -/
inductive ProducerKind where
  | unused
  | frame
  | line
  | internal
deriving DecidableEq, Repr

/-- One entry of the signal table: the fields of R1 and the extraction fields of R27, as loaded. Fields an entry does
not use are held as written (R27). -/
structure SignalEntry where
  kind : ProducerKind
  /-- the producer index byte: a frame entry or a line -/
  index : Nat
  fallback : Option Slot
  report : Bool
  min : Int
  max : Int
  deadband : Nat
  /-- in 10 ms units -/
  minInterval : Nat
  /-- in 100 ms units, 0 for none -/
  heartbeat : Nat
  msbFirst : Bool
  signed : Bool
  naCheck : Bool
  startBit : Nat
  length : Nat
  mult : Int
  shift : Nat
  offset : Int
  mux : Option Nat
deriving DecidableEq, Repr

/-- The run-time record of a slot (R1): value, quality, and the time of the last producer write, from which its age is
computed; `none` is an age of 65,535 (R9). -/
structure SlotRecord where
  value : Int
  quality : Quality
  writtenAt : Option Nat
deriving DecidableEq, Repr

/-- The signal store. -/
structure Sst where
  slots : Vector SlotRecord 256
  table : Vector (Option SignalEntry) 256
deriving DecidableEq, Repr

/-! ### Frame path (chapter 2) -/

/-- One entry of the frame table (R20), as loaded. Times in 10 ms units. -/
structure FrameEntry where
  enabled : Bool
  onVa : Bool
  onVb : Bool
  extended : Bool
  wake : Bool
  ident : BitVec 32
  mask : BitVec 32
  minLength : Nat
  timeout : Nat
  firstTimeout : Nat
  /-- the byte of the alive counter, and whether it is the high nibble -/
  alive : Option (Nat × Bool)
  /-- start bit and length of the multiplex selector -/
  selector : Option (Nat × Nat)
  faultClass : Fin 16
deriving DecidableEq, Repr

/-- The states of an entry's timer, with the time of expiry (R33). -/
inductive FrameTimer where
  | stopped
  | firstWait (due : Nat)
  | timed (due : Nat)
  | untimed
  | lapsed
deriving DecidableEq, Repr

/-- The run-time state of a frame entry: timer (R33), alive reference (R24), sequence-error run (R25) and the condition
flags LENGTH, SEQUENCE and TIMEOUT (R36). -/
structure FrameRun where
  timer : FrameTimer
  aliveRef : Option (BitVec 4)
  seqRun : Nat
  lengthFlag : Bool
  sequenceFlag : Bool
  timeoutFlag : Bool
deriving DecidableEq, Repr

/-- The frame path: its table, run-time state, sender-error flags of the slots (R31) and the port rates in force. -/
structure Frp where
  table : Vector (Option FrameEntry) 64
  run : Vector FrameRun 64
  senderErr : Vector Bool 256
  vaRate : Rate
  vbRate : Rate
deriving DecidableEq, Repr

/-! ### Line scanner (chapter 3) -/

/-- The classes of a sense line (R42). -/
inductive LineClass where
  | switchGnd
  | switchSupply
  | analog
  | pulseSense
deriving DecidableEq, Repr

/-- The readings of a sample (section 3.3, R44). -/
inductive Reading where
  | shortGnd
  | active
  | inactive
  | openCircuit
  | shortSupply
  | value
  | senderOk
deriving DecidableEq, Repr

/-- One entry of the line table (R42), as loaded. Debounce times in 10 ms units. -/
structure LineEntry where
  cls : LineClass
  t1 : Nat
  t2 : Nat
  t3 : Nat
  t4 : Nat
  debounce : Nat
  faultDebounce : Nat
  curve : Fin 16
  inverted : Bool
  parked : Bool
  faultClass : Fin 16
deriving DecidableEq, Repr

/-- One curve: its points, code and value (R50). -/
structure Curve where
  points : List (Nat × Int)
deriving DecidableEq, Repr

/-- The run-time state of a line (R39, R46, R47, R49). -/
structure LineRun where
  lastCode : Option (BitVec 10)
  accepted : Option Reading
  /-- the candidate reading with its run -/
  candidate : Option (Reading × Nat)
  /-- the switch state: true is 1 -/
  state : Option Bool
  curveValue : Option (Int × Quality)
deriving DecidableEq, Repr

/-- The line scanner: its tables, lines, the scan slot being played and when it ends, the next PARKED pass, and the
sender-fault indication (R52). `scanDue` is `none` when no scan slot is running. -/
structure Lsc where
  table : Vector (Option LineEntry) 48
  curves : Vector (Option Curve) 16
  scan : Option (List (Fin 48))
  lines : Vector LineRun 48
  scanPos : Nat
  scanDue : Option Nat
  passDue : Option Nat
  senderFault : Bool
deriving DecidableEq, Repr

/-! ### Speed and distance unit (chapter 4) -/

/-- The calibration table's entry (R59). Measurement window, standstill timeout and plausibility time in 10 ms units,
filter width in microseconds. -/
structure CalEntry where
  kd : Nat
  filter : Nat
  window : Nat
  standstill : Nat
  frameSlot : Option Slot
  tolerance : Nat
  plausTime : Nat
deriving DecidableEq, Repr

/-- The measurement states (R65): an open window holds its start t0 and its period count n. -/
inductive Measurement where
  | stopped
  | waiting
  | opened (t0 n : Nat)
deriving DecidableEq, Repr

/-- The speed and distance unit. -/
structure Sdu where
  cal : Option CalEntry
  windowOpen : Bool
  meas : Measurement
  /-- filter reference (R64) -/
  filterRef : Option Nat
  /-- the last accepted edge while the standstill timer runs (R68) -/
  standFrom : Option Nat
  /-- the next bound check (R67) -/
  boundDue : Option Nat
  residue : Nat
  preload : Nat
  loadUsed : Bool
  /-- reported plausibility state: true is PRESENT (R72) -/
  plausPresent : Bool
  plausFrom : Option Nat
  implausible : Bool
deriving DecidableEq, Repr

/-! ### Gauge drive (chapter 5) -/

/-- One entry of the gauge table (R83). Hold time in 10 ms units. -/
structure GaugeEntry where
  enabled : Bool
  source : Slot
  vmin : Int
  vmax : Int
  span : Nat
  damping : Nat
  rate : Nat
  hold : Nat
deriving DecidableEq, Repr

/-- The run-time state of a channel (R86 to R89). -/
structure GaugeRun where
  p : Nat
  f : Nat
  target : Nat
  prevTarget : Nat
  /-- hold timer in milliseconds; `none` is cleared -/
  holdTimer : Option Nat
deriving DecidableEq, Repr

/-- The phases of the sweep (R93); `complete` is the report made and not yet taken. -/
inductive SweepPhase where
  | rise
  | hold (intervals : Nat)
  | fall
  | complete
deriving DecidableEq, Repr

/-- The gauge drive. -/
structure Gdr where
  table : Vector (Option GaugeEntry) 6
  run : Vector GaugeRun 6
  homingIntervals : Nat
  homingDone : Bool
  sweepPhase : Option SweepPhase
  intervalDue : Nat
deriving DecidableEq, Repr

/-! ### Warning unit (chapter 6) -/

/-- The source kinds of a warning entry (R97). -/
inductive SourceKind where
  | signalAbove
  | signalBelow
  | signalMask
  | signalLost
  | faultClass
deriving DecidableEq, Repr

/-- The loss policies (R102). -/
inductive LossPolicy where
  | hold
  | assert
  | release
deriving DecidableEq, Repr

/-- The severities (R97). -/
inductive Severity where
  | red
  | amber
  | white
deriving DecidableEq, Repr

/-- The gate of a warning entry (R103); `below` is the sense BELOW. -/
structure Gate where
  slot : Slot
  threshold : Int
  below : Bool
deriving DecidableEq, Repr

/-- One entry of the warning table (R97), as loaded. Delays in 10 ms units, reminder in seconds. -/
structure WarnEntry where
  enabled : Bool
  kind : SourceKind
  source : Slot
  sourceClass : Nat
  setThr : Int
  clearThr : Int
  mask : BitVec 32
  pattern : BitVec 32
  gate : Option Gate
  onDelay : Nat
  offDelay : Nat
  /-- the loss policy's code as written: the kinds without a loss policy store any (R97, R102) -/
  lossCode : Byte
  severity : Severity
  rank : Nat
  ackRequired : Bool
  latch : Bool
  reminder : Nat
  telltale : Option (Fin 32)
  flash : Bool
  chime : Option (Fin 8)
deriving DecidableEq, Repr

/-- The states of a warning entry; the acknowledged memory of OFF_DELAY is written out (R104). -/
inductive WarnState where
  | off
  | onDelay
  | onUnack
  | onAck
  | offDelayUnacked
  | offDelayAcked
  | latchedUnack
deriving DecidableEq, Repr

/-- The run-time state of a warning entry. -/
structure WarnRun where
  state : WarnState
  truth : Option Bool
  unknown : Bool
  /-- the condition as last formed (R103) -/
  cond : Bool
  timer : Option Nat
  observed : Bool
  join : Nat
deriving DecidableEq, Repr

/-- The warning unit, with its flash clock (R114). -/
structure Wrn where
  table : Vector (Option WarnEntry) 96
  run : Vector WarnRun 96
  joinCounter : Nat
  reportedTop : Option (Fin 96)
  flashLit : Bool
  flashDue : Nat
deriving DecidableEq, Repr

/-! ### Chime generator (chapter 7) -/

/-- One pattern (R119). On-time and off-time in 10 ms units. -/
structure PatternEntry where
  prescale : Nat
  divider : Nat
  onTime : Nat
  offTime : Nat
  repeats : Nat
  priority : Nat
  level : Nat
deriving DecidableEq, Repr

/-- A request held (R122). -/
structure ChimeRequest where
  who : Requester
  pattern : Fin 8
  stamp : Nat
  count : Nat
deriving DecidableEq, Repr

/-- The burst of the playing request: its on-time or its off-time, and when that ends (R121). -/
structure Playing where
  who : Requester
  inTone : Bool
  due : Nat
deriving DecidableEq, Repr

/-- The chime generator. Requests stand in the order of their stamps. -/
structure Chg where
  table : Vector (Option PatternEntry) 8
  requests : List ChimeRequest
  seq : Nat
  playing : Option Playing
deriving DecidableEq, Repr

/-! ### Door monitor (chapter 8) -/

/-- One entry of the door table (R130), as loaded. Transit limit in 10 ms units. -/
structure DoorEntry where
  fitted : Bool
  closedSlot : Slot
  openSlot : Slot
  lockedSlot : Option Slot
  edgeSlot : Slot
  transitLimit : Nat
  lockFitted : Bool
  chime : Option (Fin 8)
  releaseSlot : Option Slot
  requestSlot : Option Slot
  faultClass : Fin 16
deriving DecidableEq, Repr

/-- The states of a leaf (R133, R145). -/
inductive LeafState where
  | notEvaluated
  | locked
  | closed
  | opening
  | opened
  | closing
  | ajar
  | fault
deriving DecidableEq, Repr

/-- The states of a portal (R139). -/
inductive PortalState where
  | notEvaluated
  | secured
  | opened
  | fault
deriving DecidableEq, Repr

/-- The run-time state of a leaf (R133 to R138). -/
structure LeafRun where
  state : LeafState
  transitDue : Option Nat
  transitStart : Option Nat
  inconsistent : Bool
  transitFlag : Bool
  edge : Bool
  cycles : Nat
  obstructions : Nat
  maxTransit : Nat
deriving DecidableEq, Repr

/-- The run-time state of a portal (R139, R142, R143). -/
structure PortalRun where
  state : PortalState
  released : Bool
  requested : Bool
  reading : Bool
  held : Bool
deriving DecidableEq, Repr

/-- The door monitor. Leaves are numbered portal x 2 + leaf. -/
structure Drm where
  table : Vector (Option DoorEntry) 8
  leaves : Vector LeafRun 8
  portals : Vector PortalRun 4
  latch : Bool
deriving DecidableEq, Repr

/-! ### Fault memory (chapter 9) -/

/-- One fault class (R150). -/
structure ClassEntry where
  priority : Nat
  agingLimit : Nat
  freeze : List Slot
deriving DecidableEq, Repr

/-- One element of a freeze frame (R152). -/
structure FreezeElement where
  slot : Slot
  value : Int
  quality : Quality
deriving DecidableEq, Repr

/-- One fault record (R152). `active` is status ACTIVE, else STORED; an odometer stamp of `none` is unknown. -/
structure FaultRecord where
  code : FaultCode
  cls : Fin 16
  active : Bool
  occurrence : Nat
  firstOdo : Option Nat
  lastOdo : Option Nat
  aging : Nat
  freeze : List FreezeElement
deriving DecidableEq, Repr

/-- The fault memory: records in creation order, the oldest first. -/
structure Flt where
  table : Vector (Option ClassEntry) 16
  records : List FaultRecord
  overflow : Bool
  firstStart : Bool
deriving DecidableEq, Repr

/-! ### Cluster link interface (chapter 10) -/

/-- The link table's entry (R19, R176, R184). Park delay in seconds, default heartbeat in 100 ms units. -/
structure LinkEntry where
  va : Rate
  vb : Rate
  ws : Rate
  wsExtended : Bool
  requestId : Nat
  responseId : Nat
  pacing : Nat
  parkDelay : Nat
  heartbeat : Nat
deriving DecidableEq, Repr

/-- A record on CL behind its envelope (R196). -/
structure ClRecord where
  kind : Byte
  body : List Byte
deriving DecidableEq, Repr

/-- The receiver (R167): in BODY and CHECK it holds LEN, the bytes taken and the sum. -/
inductive Receiver where
  | hunt
  | length
  | body (len : Nat) (taken : List Byte) (sum : Byte)
  | check (taken : List Byte) (sum : Byte)
deriving DecidableEq, Repr

/-- A response waiting to be sent (R170). -/
structure Response where
  kind : Byte
  result : Result
  data : List Byte
  discard : Bool
deriving DecidableEq, Repr

/-- The status a FAULT event carries (R159). -/
inductive FaultStatus where
  | active
  | stored
  | removed
deriving DecidableEq, Repr

/-- The origin of a calibration write or a clear (section 12.2). -/
inductive Origin where
  | management
  | workshop
deriving DecidableEq, Repr

/-- The events of section 3.9 with the fields of R196. -/
inductive Event where
  | warning (entry : Fin 96) (state : WarnState) (unknown top : Bool)
  | doorLeaf (leaf : Fin 8) (state : LeafState)
  | doorPortal (portal : Fin 4) (state : PortalState) (released : Bool)
  | obstruction (leaf : Fin 8)
  | stopRequest (latch : Bool) (source : Option (Fin 4))
  | fault (code : FaultCode) (status : FaultStatus) (occurrence : Nat)
  | faultsCleared (origin : Origin)
  | state (state : OpState) (cause : StateCause)
  | configChanged (table index : Nat)
  | calChanged (field : Nat) (origin : Origin)
  | windowClosed (bySpeed : Bool)
deriving DecidableEq, Repr

/-- What CLI keeps of a slot's reporting (section 10.7): the last report, and when the report clock restarted. -/
structure SlotReport where
  last : Option (Int × Quality)
  clockFrom : Nat
deriving DecidableEq, Repr

/-- The cluster link interface. `inbound` holds the records waiting for execution; an executed record keeps its place
through its response in `responses` (R168). -/
structure Cli where
  link : Option LinkEntry
  rx : Receiver
  gapFrom : Nat
  inbound : List ClRecord
  responses : List Response
  events : List Event
  overrun : Bool
  updates : List Slot
  reports : Vector SlotReport 256
  parkDue : Option Nat
  tx : Option (List Byte)
  lrdy : Bool
  wake : Bool
deriving DecidableEq, Repr

/-! ### Workshop port (chapter 11) -/

/-- The settings the WS port runs with (R184). -/
structure WsSettings where
  rate : Rate
  extended : Bool
  requestId : Nat
  responseId : Nat
  pacing : Nat
deriving DecidableEq, Repr

/-- The response in flight: the segments not yet sent, the first of them handed to the port or waiting for the pacing
time (R187). -/
structure WsResponse where
  segments : List (List Byte)
  pacingDue : Option Nat
deriving DecidableEq, Repr

/-- The output test that runs (R192); a gauge test holds its clamped position (R95). -/
inductive OutputTest where
  | telltale (output : Fin 32) (lit : Bool)
  | gauge (channel : Fin 6) (position : Nat)
  | chime
deriving DecidableEq, Repr

/-- The workshop port. -/
structure Wsp where
  settings : WsSettings
  txErrors : Nat
  busOffUntil : Option Nat
  response : Option WsResponse
  /-- a segment of an abandoned response whose transmission had started (R188) -/
  orphan : Option (List Byte)
  test : Option OutputTest
  testDue : Option Nat
deriving DecidableEq, Repr

/-! ### The part -/

/-- The state of the part. -/
structure State where
  now : Nat
  freeCount : Nat
  opState : OpState
  sst : Sst
  frp : Frp
  lsc : Lsc
  sdu : Sdu
  gdr : Gdr
  wrn : Wrn
  chg : Chg
  drm : Drm
  flt : Flt
  cli : Cli
  wsp : Wsp
  /-- arrivals that one block has made and another has not yet taken (R10, R122, R153), each as the command that
  takes it -/
  inFlight : List Instr
  /-- the commands waiting, first in first out -/
  pending : List Instr
deriving DecidableEq, Repr

/-! ### Power-on reset -/

/-- A slot that was never written (R16). -/
def SlotRecord.unwritten : SlotRecord := ⟨0, .neverReceived, none⟩

/-- A slot written 0 at power-on with the quality given (R16), at time 0. -/
def SlotRecord.firstWrite (q : Quality) : SlotRecord := ⟨0, q, some 0⟩

/-- The signal store after power-on reset: R16's values and the first writes of the producers. -/
def Sst.reset : Sst where
  slots := ⟨⟨[.firstWrite .notAvailable, .firstWrite .notAvailable, .firstWrite .notAvailable, .firstWrite .valid,
      .firstWrite .valid, .firstWrite .valid, .firstWrite .valid, .unwritten, .firstWrite .valid, .firstWrite .valid,
      .firstWrite .valid, .firstWrite .valid] ++ List.replicate 244 .unwritten⟩,
    by rw [List.size_toArray, List.length_append, List.length_replicate]; rfl⟩
  table := Vector.replicate 256 none

/-- A frame entry's run-time state after a reset (R38). -/
def FrameRun.reset : FrameRun := ⟨.stopped, none, 0, false, false, false⟩

/-- The frame path after power-on reset (R19, R21, R38). -/
def Frp.reset : Frp where
  table := Vector.replicate 64 none
  run := Vector.replicate 64 .reset
  senderErr := Vector.replicate 256 false
  vaRate := .off
  vbRate := .off

/-- The scanner after power-on reset (R58): SL0 alone, sampled each millisecond (R40), first 1 ms after power-on by the
model's choice (log entry 42). -/
def Lsc.reset : Lsc where
  table := Vector.replicate 48 none
  curves := Vector.replicate 16 none
  scan := none
  lines := Vector.replicate 48 ⟨none, none, none, none, none⟩
  scanPos := 0
  scanDue := some 1000
  passDue := none
  senderFault := false

/-- The speed and distance unit after power-on reset (R80). -/
def Sdu.reset : Sdu where
  cal := none
  windowOpen := true
  meas := .stopped
  filterRef := none
  standFrom := none
  boundDue := none
  residue := 0
  preload := 0
  loadUsed := false
  plausPresent := false
  plausFrom := none
  implausible := false

/-- The gauge drive after power-on reset (R96): homing starts, the first interval ends at 10 ms (R91). -/
def Gdr.reset : Gdr where
  table := Vector.replicate 6 none
  run := Vector.replicate 6 ⟨0, 0, 0, 0, none⟩
  homingIntervals := 0
  homingDone := false
  sweepPhase := none
  intervalDue := 10000

/-- A warning entry's run-time state after power-on reset (R118). -/
def WarnRun.reset : WarnRun := ⟨.off, none, false, false, none, false, 0⟩

/-- The warning unit after power-on reset (R118): the flash clock starts lit (R114). -/
def Wrn.reset : Wrn where
  table := Vector.replicate 96 none
  run := Vector.replicate 96 .reset
  joinCounter := 0
  reportedTop := none
  flashLit := true
  flashDue := 500000

/-- The chime generator after power-on reset (R129). -/
def Chg.reset : Chg where
  table := Vector.replicate 8 none
  requests := []
  seq := 0
  playing := none

/-- A leaf after power-on reset (R147). -/
def LeafRun.reset : LeafRun := ⟨.notEvaluated, none, none, false, false, false, 0, 0, 0⟩

/-- A portal after a reset (R147). -/
def PortalRun.reset : PortalRun := ⟨.notEvaluated, false, false, false, false⟩

/-- The door monitor after power-on reset (R147). -/
def Drm.reset : Drm where
  table := Vector.replicate 8 none
  leaves := Vector.replicate 8 .reset
  portals := Vector.replicate 4 .reset
  latch := false

/-- The fault memory after power-on reset (R164). -/
def Flt.reset : Flt where
  table := Vector.replicate 16 none
  records := []
  overflow := false
  firstStart := false

/-- The cluster link interface after power-on reset (R183): one STATE event is queued. LRDY: log entry 13. -/
def Cli.reset : Cli where
  link := none
  rx := .hunt
  gapFrom := 0
  inbound := []
  responses := []
  events := [.state .config .powerOn]
  overrun := false
  updates := []
  reports := Vector.replicate 256 ⟨none, 0⟩
  parkDue := none
  tx := none
  lrdy := false
  wake := false

/-- The WS settings of an unloaded link table (R184). -/
def WsSettings.reset : WsSettings := ⟨.off, false, 0x6A0, 0x6A8, 5⟩

/-- The workshop port after power-on reset (R194). -/
def Wsp.reset : Wsp where
  settings := .reset
  txErrors := 0
  busOffUntil := none
  response := none
  orphan := none
  test := none
  testDue := none

/-- The part right after power-on reset. The first write of VEHICLE_SPEED changed its quality, and CLI and WSP are
notified of it (R11, R16); no other first write has a consumer while every table is unloaded. -/
def State.reset : State where
  now := 0
  freeCount := 0
  opState := .config
  sst := .reset
  frp := .reset
  lsc := .reset
  sdu := .reset
  gdr := .reset
  wrn := .reset
  chg := .reset
  drm := .reset
  flt := .reset
  cli := .reset
  wsp := .reset
  inFlight := [.cliNotification 1, .wspSpeedNotification]
  pending := []

end Sys2Proof.Machine
end

