-- ==== Sys2Proof/Machine/Operands.lean ====
section
/-! DEFINITION. The operands of the commands as bytes (chapter 12): field encodings (R195), codes (section 12.2), the
entry bodies of the twelve tables in both directions with their range checks (R197 and each table's own rule), and the
bit positions of a frame signal (R29). A reader answers `none` where the spec refuses the entry with RANGE. -/

namespace Sys2Proof.Machine

/-! ### Fields (R195) -/

/-- The byte at `i`, as a number. -/
def u8 (b : List Byte) (i : Nat) : Nat := (b.getD i 0).toNat

/-- The 2-byte field at `i`, least-significant byte first. -/
def u16 (b : List Byte) (i : Nat) : Nat := u8 b i + 256 * u8 b (i + 1)

/-- The 4-byte field at `i`, least-significant byte first. -/
def u32 (b : List Byte) (i : Nat) : Nat := u16 b i + 65536 * u16 b (i + 2)

/-- The signed 2-byte field at `i`. -/
def s16 (b : List Byte) (i : Nat) : Int := (BitVec.ofNat 16 (u16 b i)).toInt

/-- The signed 4-byte field at `i`. -/
def s32 (b : List Byte) (i : Nat) : Int := (BitVec.ofNat 32 (u32 b i)).toInt

/-- Bit `k` of the flags byte at `i`. -/
def flagAt (b : List Byte) (i k : Nat) : Bool := (b.getD i 0).getLsbD k

/-- A number below 256 as one byte. -/
def e8 (n : Nat) : List Byte := [BitVec.ofNat 8 n]

/-- A number as two bytes. -/
def e16 (n : Nat) : List Byte := e8 n ++ e8 (n / 256)

/-- A number as four bytes. -/
def e32 (n : Nat) : List Byte := e16 n ++ e16 (n / 65536)

/-- A signed number as two bytes, two's complement. -/
def eInt16 (v : Int) : List Byte := e16 (BitVec.ofInt 16 v).toNat

/-- A signed number as four bytes, two's complement. -/
def eInt32 (v : Int) : List Byte := e32 (BitVec.ofInt 32 v).toNat

/-- The value of a flag as a number. -/
def bitNat (b : Bool) : Nat := if b then 1 else 0

/-- A flags byte from its bits, bit 0 first. -/
def flagsNat : List Bool → Nat
  | [] => 0
  | b :: bs => bitNat b + 2 * flagsNat bs

/-- A flags byte from its bits, bit 0 first. -/
def eFlags (bits : List Bool) : List Byte := e8 (flagsNat bits)

/-- A list of byte fields cut or filled with 0 to `n` places ("places beyond the length are sent 0"). -/
def places (n : Nat) (b : List Byte) : List Byte := (b ++ List.replicate n 0).take n

/-- A number as an index below `n`, or nothing. -/
def toFin? (n x : Nat) : Option (Fin n) := if h : x < n then some ⟨x, h⟩ else none

/-- A byte that is an index below `n`, absent when FFh; the outer `none` is a value out of range. -/
def absentFF (n x : Nat) : Option (Option (Fin n)) :=
  if x = 255 then some none else (toFin? n x).map some

/-- A byte as a slot. -/
def slotAt (b : List Byte) (i : Nat) : Slot := ⟨u8 b i, (b.getD i 0).isLt⟩

/-- An optional slot with a presence flag. -/
def slotIf (present : Bool) (b : List Byte) (i : Nat) : Option Slot := if present then some (slotAt b i) else none

/-- The byte of an optional index with a presence flag: 0 when absent. -/
def eOpt {n : Nat} (x : Option (Fin n)) : List Byte := e8 (x.elim 0 Fin.val)

/-- The byte of an optional index without a presence flag: FFh when absent. -/
def eOptFF {n : Nat} (x : Option (Fin n)) : List Byte := e8 (x.elim 255 Fin.val)

/-! ### Codes (section 12.2) -/

def Result.code : Result → Nat
  | .ok => 0 | .format => 1 | .unknown => 2 | .range => 3 | .state => 4 | .locked => 5 | .inconsistent => 6
  | .moving => 7 | .full => 8

def Quality.code : Quality → Nat
  | .neverReceived => 0 | .valid => 1 | .limited => 2 | .substituted => 3 | .stale => 4 | .notAvailable => 5
  | .senderError => 6 | .lineFault => 7

def Quality.ofCode? : Nat → Option Quality
  | 0 => some .neverReceived | 1 => some .valid | 2 => some .limited | 3 => some .substituted | 4 => some .stale
  | 5 => some .notAvailable | 6 => some .senderError | 7 => some .lineFault | _ => none

def OpState.code : OpState → Nat
  | .config => 0 | .run => 1 | .sweep => 2 | .parked => 3

def StateCause.code : StateCause → Nat
  | .powerOn => 0 | .start => 1 | .sweepRequest => 2 | .sweepComplete => 3 | .abort => 4 | .parkRequest => 5
  | .parkDelay => 6 | .ignition => 7 | .reset => 8 | .wakeFrame => 9

def ProducerKind.code : ProducerKind → Nat
  | .unused => 0 | .frame => 1 | .line => 2 | .internal => 3

def ProducerKind.ofCode? : Nat → Option ProducerKind
  | 0 => some .unused | 1 => some .frame | 2 => some .line | 3 => some .internal | _ => none

def Rate.code : Rate → Nat
  | .off => 0 | .k125 => 1 | .k250 => 2 | .k500 => 3 | .k1000 => 4

def Rate.ofCode? : Nat → Option Rate
  | 0 => some .off | 1 => some .k125 | 2 => some .k250 | 3 => some .k500 | 4 => some .k1000 | _ => none

def LineClass.code : LineClass → Nat
  | .switchGnd => 0 | .switchSupply => 1 | .analog => 2 | .pulseSense => 3

def LineClass.ofCode? : Nat → Option LineClass
  | 0 => some .switchGnd | 1 => some .switchSupply | 2 => some .analog | 3 => some .pulseSense | _ => none

def Reading.code : Reading → Nat
  | .shortGnd => 0 | .active => 1 | .inactive => 2 | .openCircuit => 3 | .shortSupply => 4 | .value => 5
  | .senderOk => 6

def SourceKind.code : SourceKind → Nat
  | .signalAbove => 0 | .signalBelow => 1 | .signalMask => 2 | .signalLost => 3 | .faultClass => 4

def SourceKind.ofCode? : Nat → Option SourceKind
  | 0 => some .signalAbove | 1 => some .signalBelow | 2 => some .signalMask | 3 => some .signalLost
  | 4 => some .faultClass | _ => none

def LossPolicy.ofCode? : Nat → Option LossPolicy
  | 0 => some .hold | 1 => some .assert | 2 => some .release | _ => none

def Severity.code : Severity → Nat
  | .red => 0 | .amber => 1 | .white => 2

def Severity.ofCode? : Nat → Option Severity
  | 0 => some .red | 1 => some .amber | 2 => some .white | _ => none

def WarnState.code : WarnState → Nat
  | .off => 0 | .onDelay => 1 | .onUnack => 2 | .onAck => 3 | .offDelayUnacked => 4 | .offDelayAcked => 5
  | .latchedUnack => 6

def LeafState.code : LeafState → Nat
  | .notEvaluated => 0 | .locked => 1 | .closed => 2 | .opening => 3 | .opened => 4 | .closing => 5 | .ajar => 6
  | .fault => 7

def PortalState.code : PortalState → Nat
  | .notEvaluated => 0 | .secured => 1 | .opened => 2 | .fault => 3

def FaultStatus.code : FaultStatus → Nat
  | .active => 0 | .stored => 1 | .removed => 2

def Origin.code : Origin → Nat
  | .management => 0 | .workshop => 1

/-- Measurement state codes. -/
def Measurement.code : Measurement → Nat
  | .stopped => 0 | .waiting => 1 | .opened _ _ => 2

/-- Source kind, object index and failure type of a fault code. -/
def faultCodes : FaultCode → Nat × Nat × Nat
  | .line i .shortGnd => (0, i, 0)
  | .line i .shortSupply => (0, i, 1)
  | .line i .openCircuit => (0, i, 2)
  | .frame i .timeout => (1, i, 3)
  | .frame i .sequence => (1, i, 4)
  | .frame i .length => (1, i, 5)
  | .frame i .senderError => (1, i, 6)
  | .speed => (2, 0, 7)
  | .door i .transit => (3, i, 8)
  | .door i .inconsistent => (3, i, 9)

/-- The valid fault code of three bytes (R149), or nothing. -/
def faultOfCodes? (kind object failure : Nat) : Option FaultCode :=
  match kind, failure with
  | 0, 0 => (toFin? 48 object).map (.line · .shortGnd)
  | 0, 1 => (toFin? 48 object).map (.line · .shortSupply)
  | 0, 2 => (toFin? 48 object).map (.line · .openCircuit)
  | 1, 3 => (toFin? 64 object).map (.frame · .timeout)
  | 1, 4 => (toFin? 64 object).map (.frame · .sequence)
  | 1, 5 => (toFin? 64 object).map (.frame · .length)
  | 1, 6 => (toFin? 64 object).map (.frame · .senderError)
  | 2, 7 => if object = 0 then some .speed else none
  | 3, 8 => (toFin? 8 object).map (.door · .transit)
  | 3, 9 => (toFin? 8 object).map (.door · .inconsistent)
  | _, _ => none

/-- The three bytes of a fault code. -/
def faultBytes (c : FaultCode) : List Byte := e8 (faultCodes c).1 ++ e8 (faultCodes c).2.1 ++ e8 (faultCodes c).2.2

/-! ### Signals of a frame (R29) -/

/-- The data bit after `k` of an MSB-first signal: the next lower bit of the byte, and after bit 0 bit 7 of the next
byte. -/
def msbNext (k : Nat) : Nat := if k % 8 = 0 then k + 15 else k - 1

/-- The data bits of an MSB-first signal, most significant first. -/
def msbBits : (start length : Nat) → List Nat
  | _, 0 => []
  | k, n + 1 => k :: msbBits (msbNext k) n

/-- The data bits of an LSB-first signal, most significant first. -/
def lsbBits (start : Nat) : (length : Nat) → List Nat
  | 0 => []
  | n + 1 => (start + n) :: lsbBits start n

/-- The data bits of a signal, most significant first (R29). -/
def signalBits (msbFirst : Bool) (start length : Nat) : List Nat :=
  if msbFirst then msbBits start length else lsbBits start length

/-- The highest data bit of a signal (its footprint, R29, R37). -/
def topBit (msbFirst : Bool) (start length : Nat) : Nat := (signalBits msbFirst start length).foldl max 0

/-- Bit `k` of the data: bit k mod 8 of byte k / 8. -/
def dataBit (data : List Byte) (k : Nat) : Bool := (data.getD (k / 8) 0).getLsbD (k % 8)

/-- The unsigned number of the named bits, most significant first. -/
def rawUnsigned (data : List Byte) (bits : List Nat) : Nat :=
  bits.foldl (fun acc k => 2 * acc + bitNat (dataBit data k)) 0

/-! ### Frame table (R20) -/

/-- The readback of an unloaded frame entry (R21). -/
def FrameEntry.unloaded : FrameEntry :=
  ⟨false, true, true, false, false, 0, 0, 0, 0, 10, none, none, 0⟩

/-- A frame entry from its 18 bytes. -/
def readFrameEntry (b : List Byte) : Option FrameEntry :=
  let extended := flagAt b 0 3
  let top := if extended then 0x1FFFFFFF else 0x7FF
  let minLength := u8 b 9
  let timeout := u16 b 10
  let first := u16 b 12
  let start := u8 b 15
  let len := u8 b 16
  if (flagAt b 0 1 || flagAt b 0 2) && u32 b 1 ≤ top && u32 b 5 ≤ top && minLength ≤ 8 && timeout ≤ 1000
      && 10 ≤ first && first ≤ 3000
      && (!flagAt b 0 5 || (u8 b 14 ≤ 7 && u8 b 14 < minLength))
      && (!flagAt b 0 7 || (start ≤ 63 && 1 ≤ len && len ≤ 8 && start + len - 1 < 8 * minLength
            && start + len - 1 ≤ 63)) then
    (toFin? 16 (u8 b 17)).map fun cls =>
      { enabled := flagAt b 0 0, onVa := flagAt b 0 1, onVb := flagAt b 0 2, extended, wake := flagAt b 0 4,
        ident := BitVec.ofNat 32 (u32 b 1), mask := BitVec.ofNat 32 (u32 b 5), minLength, timeout,
        firstTimeout := first,
        alive := if flagAt b 0 5 then some (u8 b 14, flagAt b 0 6) else none,
        selector := if flagAt b 0 7 then some (start, len) else none, faultClass := cls }
  else none

/-- The 18 bytes of a frame entry. -/
def FrameEntry.bytes (e : FrameEntry) : List Byte :=
  eFlags [e.enabled, e.onVa, e.onVb, e.extended, e.wake, e.alive.isSome, e.alive.elim false Prod.snd,
    e.selector.isSome] ++ e32 e.ident.toNat ++ e32 e.mask.toNat ++ e8 e.minLength ++ e16 e.timeout
    ++ e16 e.firstTimeout ++ e8 (e.alive.elim 0 Prod.fst) ++ e8 (e.selector.elim 0 Prod.fst)
    ++ e8 (e.selector.elim 0 Prod.snd) ++ e8 e.faultClass

/-! ### Signal table (R2, R27) -/

/-- The producer of an entry, for R4's comparison: the index counts for FRAME and LINE alone (R2). -/
def SignalEntry.producer (e : SignalEntry) : ProducerKind × Nat :=
  match e.kind with
  | .unused => (.unused, 0)
  | .internal => (.internal, 0)
  | .frame => (.frame, e.index)
  | .line => (.line, e.index)

/-- R27's checks of the extraction fields of a FRAME entry. -/
def extractionFits (start length : Nat) (msbFirst : Bool) (mult : Int) (shift : Nat) : Bool :=
  start ≤ 63 && 1 ≤ length && length ≤ 32 && decide (mult ≠ 0) && shift ≤ 15 && topBit msbFirst start length ≤ 63

/-- A signal entry for slot `i` from its 28 bytes (R2, R27). -/
def readSignalEntry (i : Slot) (b : List Byte) : Option SignalEntry :=
  (ProducerKind.ofCode? (u8 b 0)).bind fun kind =>
    let internal := decide (kind = .internal)
    let index := u8 b 1
    if (internal == decide (i.val < 12))
        && (decide (kind ≠ .frame) || index < 64) && (decide (kind ≠ .line) || index < 48)
        && (internal || decide (s32 b 4 ≤ s32 b 8))
        && u32 b 12 ≤ 2147483647 && 1 ≤ u8 b 16
        && (decide (kind ≠ .frame) || extractionFits (u8 b 18) (u8 b 19) (flagAt b 2 2) (s16 b 20) (u8 b 22)) then
      some { kind, index, fallback := slotIf (flagAt b 2 0) b 3, report := flagAt b 2 1, min := s32 b 4,
             max := s32 b 8, deadband := u32 b 12, minInterval := u8 b 16, heartbeat := u8 b 17,
             msbFirst := flagAt b 2 2, signed := flagAt b 2 3, naCheck := flagAt b 2 4, startBit := u8 b 18,
             length := u8 b 19, mult := s16 b 20, shift := u8 b 22, offset := s32 b 23,
             mux := if flagAt b 2 5 then some (u8 b 27) else none }
    else none

/-- The 28 bytes of a signal entry. -/
def SignalEntry.bytes (e : SignalEntry) : List Byte :=
  e8 e.kind.code ++ e8 e.index
    ++ eFlags [e.fallback.isSome, e.report, e.msbFirst, e.signed, e.naCheck, e.mux.isSome] ++ eOpt e.fallback
    ++ eInt32 e.min ++ eInt32 e.max ++ e32 e.deadband ++ e8 e.minInterval ++ e8 e.heartbeat ++ e8 e.startBit
    ++ e8 e.length ++ eInt16 e.mult ++ e8 e.shift ++ eInt32 e.offset ++ e8 (e.mux.getD 0)

/-- The readback of an unloaded signal entry of slot `i` (R3); the producer index and the extraction fields, which R3
does not give, read as free bytes. For slots 0 to 11 R3 gives the producer kind and the report settings only: that their
min, max and fallback read as those of an unloaded configurable slot is the model's choice (log entry 11). -/
def unloadedSignalBytes (i : Slot) : List Byte :=
  let free := Config.unloadedSignalByte
  let flags := free 2 &&& 0x3C
  e8 (if i.val < 12 then 3 else 0) ++ [free 1, flags, 0] ++ eInt32 i32Min ++ eInt32 i32Max ++ e32 0 ++ e8 1 ++ e8 0
    ++ [free 18, free 19, free 20, free 21, free 22, free 23, free 24, free 25, free 26]
    ++ [if flags.getLsbD 5 then free 27 else 0]

/-! ### Link table (R19, R176, R184) -/

/-- The unloaded readback of the link table (R176, R184). -/
def LinkEntry.unloaded : LinkEntry := ⟨.off, .off, .off, false, 0x6A0, 0x6A8, 5, 10, 0⟩

/-- The link entry from its 15 bytes. -/
def readLinkEntry (b : List Byte) : Option LinkEntry :=
  (Rate.ofCode? (u8 b 0)).bind fun va =>
    (Rate.ofCode? (u8 b 1)).bind fun vb =>
      (Rate.ofCode? (u8 b 2)).bind fun ws =>
        let top := if u8 b 3 = 1 then 0x1FFFFFFF else 0x7FF
        if u8 b 3 ≤ 1 && u32 b 4 ≤ top && u32 b 8 ≤ top && u32 b 4 != u32 b 8 && 1 ≤ u8 b 12 && u8 b 12 ≤ 20
            && u8 b 13 ≤ 60 then
          some ⟨va, vb, ws, u8 b 3 == 1, u32 b 4, u32 b 8, u8 b 12, u8 b 13, u8 b 14⟩
        else none

/-- The 15 bytes of the link entry. -/
def LinkEntry.bytes (e : LinkEntry) : List Byte :=
  e8 e.va.code ++ e8 e.vb.code ++ e8 e.ws.code ++ e8 (bitNat e.wsExtended) ++ e32 e.requestId ++ e32 e.responseId
    ++ e8 e.pacing ++ e8 e.parkDelay ++ e8 e.heartbeat

/-! ### Line table (R42) -/

/-- The unloaded readback of a line entry; SL0's class is SWITCH_SUPPLY (R42). -/
def LineEntry.unloaded (line : Fin 48) : LineEntry :=
  ⟨if line.val = 0 then .switchSupply else .switchGnd, 100, 300, 600, 1000, 0, 1, 0, false, false, 0⟩

/-- A line entry for `line` from its 14 bytes. -/
def readLineEntry (line : Fin 48) (b : List Byte) : Option LineEntry :=
  (LineClass.ofCode? (u8 b 0)).bind fun cls =>
    (toFin? 16 (u8 b 11)).bind fun curve =>
      (toFin? 16 (u8 b 13)).bind fun faultClass =>
        let t1 := u16 b 1
        let t2 := u16 b 3
        let t3 := u16 b 5
        let t4 := u16 b 7
        let analog := decide (cls = .analog)
        if t1 ≤ 1023 && t4 ≤ 1023
            && (if analog then decide (t1 < t4) else decide (t1 < t2) && decide (t2 < t3) && decide (t3 < t4))
            && 1 ≤ u8 b 10
            && (decide (line.val ≠ 0) || (decide (cls = .switchSupply) && !flagAt b 12 0)) then
          some ⟨cls, t1, t2, t3, t4, u8 b 9, u8 b 10, curve, flagAt b 12 0, flagAt b 12 1, faultClass⟩
        else none

/-- The 14 bytes of a line entry. -/
def LineEntry.bytes (e : LineEntry) : List Byte :=
  e8 e.cls.code ++ e16 e.t1 ++ e16 e.t2 ++ e16 e.t3 ++ e16 e.t4 ++ e8 e.debounce ++ e8 e.faultDebounce ++ e8 e.curve
    ++ eFlags [e.inverted, e.parked] ++ e8 e.faultClass

/-! ### Curve table (R50) -/

/-- The unloaded curve: the code passes through as the value. -/
def Curve.unloaded : Curve := ⟨[(0, 0), (1023, 1023)]⟩

/-- The first `n` points of the places at byte 1. -/
def readPoints (b : List Byte) : (n : Nat) → List (Nat × Int)
  | 0 => []
  | n + 1 => readPoints b n ++ [(u16 b (1 + 6 * n), s32 b (3 + 6 * n))]

/-- Codes strictly rising and not above 1023. -/
def codesRise : List (Nat × Int) → Bool
  | [] => true
  | [p] => p.1 ≤ 1023
  | p :: q :: r => decide (p.1 < q.1) && codesRise (q :: r)

/-- A curve from its 49 bytes. -/
def readCurve (b : List Byte) : Option Curve :=
  if 2 ≤ u8 b 0 && u8 b 0 ≤ 8 && codesRise (readPoints b (u8 b 0)) then some ⟨readPoints b (u8 b 0)⟩ else none

/-- The 49 bytes of a curve. -/
def Curve.bytes (c : Curve) : List Byte :=
  e8 c.points.length ++ places 48 (c.points.flatMap fun p => e16 p.1 ++ eInt32 p.2)

/-! ### Scan table (R40) -/

/-- The unloaded scan list: SL0 in scan slot 0. -/
def scanUnloaded : List (Fin 48) := [0]

/-- The line number in scan slot `i`: bits 6i to 6i + 5 of the packed field behind the length byte. -/
def scanPlace (b : List Byte) (i : Nat) : Nat :=
  rawUnsigned (b.drop 1) (lsbBits (6 * i) 6)

/-- The first `n` lines of the packed field, if all are lines. -/
def readLines (b : List Byte) : (n : Nat) → Option (List (Fin 48))
  | 0 => some []
  | n + 1 => (readLines b n).bind fun l => (toFin? 48 (scanPlace b n)).map fun x => l ++ [x]

/-- A scan list from its 49 bytes; SL0 is in it. -/
def readScan (b : List Byte) : Option (List (Fin 48)) :=
  if 1 ≤ u8 b 0 && u8 b 0 ≤ 64 then
    (readLines b (u8 b 0)).bind fun l => if l.contains 0 then some l else none
  else none

/-- Bit `k` of a packed scan list. -/
def scanBit (l : List (Fin 48)) (k : Nat) : Bool := ((l[k / 6]?).elim 0 Fin.val).testBit (k % 6)

/-- The 49 bytes of a scan list. -/
def scanBytes (l : List (Fin 48)) : List Byte :=
  e8 l.length ++ (List.range 48).flatMap fun j => eFlags ((List.range 8).map fun k => scanBit l (8 * j + k))

/-! ### Door table (R130) -/

/-- The unloaded readback of a door entry. -/
def DoorEntry.unloaded : DoorEntry := ⟨false, 0, 0, none, 0, 400, false, none, none, none, 0⟩

/-- A door entry from its 11 bytes. -/
def readDoorEntry (b : List Byte) : Option DoorEntry :=
  (toFin? 16 (u8 b 10)).bind fun cls =>
    let chime := if flagAt b 0 3 then (toFin? 8 (u8 b 7)).map some else some none
    chime.bind fun chime =>
      if 50 ≤ u16 b 5 && u16 b 5 ≤ 1000 then
        some { fitted := flagAt b 0 0, closedSlot := slotAt b 1, openSlot := slotAt b 2,
               lockedSlot := slotIf (flagAt b 0 2) b 3, edgeSlot := slotAt b 4, transitLimit := u16 b 5,
               lockFitted := flagAt b 0 1, chime, releaseSlot := slotIf (flagAt b 0 4) b 8,
               requestSlot := slotIf (flagAt b 0 5) b 9, faultClass := cls }
      else none

/-- The 11 bytes of a door entry. -/
def DoorEntry.bytes (e : DoorEntry) : List Byte :=
  eFlags [e.fitted, e.lockFitted, e.lockedSlot.isSome, e.chime.isSome, e.releaseSlot.isSome, e.requestSlot.isSome]
    ++ e8 e.closedSlot ++ e8 e.openSlot ++ eOpt e.lockedSlot ++ e8 e.edgeSlot ++ e16 e.transitLimit ++ eOpt e.chime
    ++ eOpt e.releaseSlot ++ eOpt e.requestSlot ++ e8 e.faultClass

/-! ### Gauge table (R83) -/

/-- The unloaded readback of a gauge entry. -/
def GaugeEntry.unloaded : GaugeEntry := ⟨false, 0, 0, 1, 100, 0, 64, 0⟩

/-- A gauge entry from its 16 bytes. -/
def readGaugeEntry (b : List Byte) : Option GaugeEntry :=
  if decide (s32 b 2 < s32 b 6) && 100 ≤ u16 b 10 && u16 b 10 ≤ 4000 && u8 b 12 ≤ 7 && 1 ≤ u8 b 13 && u8 b 13 ≤ 64
      && u16 b 14 ≤ 500 then
    some ⟨flagAt b 0 0, slotAt b 1, s32 b 2, s32 b 6, u16 b 10, u8 b 12, u8 b 13, u16 b 14⟩
  else none

/-- The 16 bytes of a gauge entry. -/
def GaugeEntry.bytes (e : GaugeEntry) : List Byte :=
  eFlags [e.enabled] ++ e8 e.source ++ eInt32 e.vmin ++ eInt32 e.vmax ++ e16 e.span ++ e8 e.damping ++ e8 e.rate
    ++ e16 e.hold

/-! ### Warning table (R97) -/

/-- The unloaded readback of a warning entry. -/
def WarnEntry.unloaded : WarnEntry :=
  ⟨false, .signalAbove, 0, 0, 1, 0, 0, 0, none, 0, 0, 0, .white, 255, false, false, 0, none, false, none⟩

/-- R97's checks that depend on the source kind. -/
def sourceFits (kind : SourceKind) (cls : Nat) (setThr clearThr : Int) (mask pattern : BitVec 32) : Bool :=
  match kind with
  | .signalAbove => decide (clearThr < setThr)
  | .signalBelow => decide (setThr < clearThr)
  | .signalMask => decide (pattern &&& mask = pattern)
  | .signalLost => true
  | .faultClass => cls < 16

/-- The loss policy of an entry (R102), of the kinds that have one. -/
def WarnEntry.loss (e : WarnEntry) : LossPolicy := (LossPolicy.ofCode? e.lossCode.toNat).getD .hold

/-- The loss policy code is one of the listed, in the kinds that have a loss policy; the others store any byte (R97,
R102). -/
def lossFits (kind : SourceKind) (code : Byte) : Bool :=
  match kind with
  | .signalAbove | .signalBelow | .signalMask => (LossPolicy.ofCode? code.toNat).isSome
  | .signalLost | .faultClass => true

/-- A warning entry from its 36 bytes. -/
def readWarnEntry (b : List Byte) : Option WarnEntry :=
  (SourceKind.ofCode? (u8 b 1)).bind fun kind =>
    (Severity.ofCode? (u8 b 30)).bind fun severity =>
      (absentFF 32 (u8 b 34)).bind fun telltale =>
        (absentFF 8 (u8 b 35)).bind fun chime =>
          let reminder := u16 b 32
          if sourceFits kind (u8 b 3) (s32 b 4) (s32 b 8) (BitVec.ofNat 32 (u32 b 12)) (BitVec.ofNat 32 (u32 b 16))
              && lossFits kind (b.getD 29 0) && u16 b 25 ≤ 6000 && u16 b 27 ≤ 6000
              && (reminder == 0 || (5 ≤ reminder && reminder ≤ 600)) then
            some { enabled := flagAt b 0 0, kind, source := slotAt b 2, sourceClass := u8 b 3, setThr := s32 b 4,
                   clearThr := s32 b 8, mask := BitVec.ofNat 32 (u32 b 12), pattern := BitVec.ofNat 32 (u32 b 16),
                   gate := if flagAt b 0 1 then some ⟨slotAt b 20, s32 b 21, flagAt b 0 2⟩ else none,
                   onDelay := u16 b 25, offDelay := u16 b 27, lossCode := b.getD 29 0, severity, rank := u8 b 31,
                   ackRequired := flagAt b 0 3, latch := flagAt b 0 4, reminder, telltale, flash := flagAt b 0 5,
                   chime }
          else none

/-- The 36 bytes of a warning entry. -/
def WarnEntry.bytes (e : WarnEntry) : List Byte :=
  eFlags [e.enabled, e.gate.isSome, e.gate.elim false Gate.below, e.ackRequired, e.latch, e.flash] ++ e8 e.kind.code
    ++ e8 e.source ++ e8 e.sourceClass ++ eInt32 e.setThr ++ eInt32 e.clearThr ++ e32 e.mask.toNat
    ++ e32 e.pattern.toNat ++ e8 (e.gate.elim 0 (·.slot.val)) ++ eInt32 (e.gate.elim 0 Gate.threshold)
    ++ e16 e.onDelay ++ e16 e.offDelay ++ [e.lossCode] ++ e8 e.severity.code ++ e8 e.rank ++ e16 e.reminder
    ++ eOptFF e.telltale ++ eOptFF e.chime

/-! ### Pattern table (R119) -/

/-- The unloaded readback of a pattern. -/
def PatternEntry.unloaded : PatternEntry := ⟨8, 125, 20, 20, 1, 0, 1⟩

/-- A pattern from its 8 bytes. -/
def readPattern (b : List Byte) : Option PatternEntry :=
  if 1 ≤ u8 b 0 && u8 b 0 ≤ 64 && 1 ≤ u16 b 1 && u16 b 1 ≤ 256 && 25 ≤ u8 b 0 * u16 b 1 && 1 ≤ u8 b 3 && 1 ≤ u8 b 4
      && u8 b 5 ≤ 15 && u8 b 6 ≤ 7 && 1 ≤ u8 b 7 && u8 b 7 ≤ 4 then
    some ⟨u8 b 0, u16 b 1, u8 b 3, u8 b 4, u8 b 5, u8 b 6, u8 b 7⟩
  else none

/-- The 8 bytes of a pattern. -/
def PatternEntry.bytes (e : PatternEntry) : List Byte :=
  e8 e.prescale ++ e16 e.divider ++ e8 e.onTime ++ e8 e.offTime ++ e8 e.repeats ++ e8 e.priority ++ e8 e.level

/-! ### Fault class table (R150) -/

/-- The unloaded readback of a fault class. -/
def ClassEntry.unloaded : ClassEntry := ⟨0, 0, []⟩

/-- A fault class from its 7 bytes. -/
def readClass (b : List Byte) : Option ClassEntry :=
  if u8 b 0 ≤ 3 && u8 b 1 ≤ 63 && u8 b 2 ≤ 4 then
    some ⟨u8 b 0, u8 b 1, (List.range (u8 b 2)).map fun k => slotAt b (3 + k)⟩
  else none

/-- The 7 bytes of a fault class. -/
def ClassEntry.bytes (e : ClassEntry) : List Byte :=
  e8 e.priority ++ e8 e.agingLimit ++ e8 e.freeze.length ++ places 4 (e.freeze.flatMap fun x => e8 x)

/-! ### Calibration table (R59) -/

/-- The unloaded readback of the calibration table. -/
def CalEntry.unloaded : CalEntry := ⟨8000, 20, 10, 100, none, 300, 200⟩

/-- The frame speed slot byte: 0 is absent, 12 to 255 a slot. The outer `none` is out of range. -/
def frameSlotOf (x : Nat) : Option (Option Slot) :=
  if x = 0 then some none else if 12 ≤ x then (toFin? 256 x).map some else none

/-- The seven fields of the calibration table (R59, section 12.2). -/
inductive CalField where
  | distance
  | filter
  | window
  | standstill
  | frameSlot
  | tolerance
  | plausTime
deriving DecidableEq, Repr

/-- The calibration field of a code. -/
def CalField.ofCode? : Nat → Option CalField
  | 0 => some .distance | 1 => some .filter | 2 => some .window | 3 => some .standstill | 4 => some .frameSlot
  | 5 => some .tolerance | 6 => some .plausTime | _ => none

/-- The entry with one field replaced by a value in its held unit, if the value is in the field's range (R59, R61). -/
def CalEntry.setField (e : CalEntry) (field : CalField) (v : Nat) : Option CalEntry :=
  match field with
  | .distance => if 2000 ≤ v ∧ v ≤ 25000 then some { e with kd := v } else none
  | .filter => if v ≤ 255 then some { e with filter := v } else none
  | .window => if 5 ≤ v ∧ v ≤ 50 then some { e with window := v } else none
  | .standstill => if 25 ≤ v ∧ v ≤ 400 then some { e with standstill := v } else none
  | .frameSlot => (frameSlotOf v).map fun slot => { e with frameSlot := slot }
  | .tolerance => if 50 ≤ v ∧ v ≤ 2000 then some { e with tolerance := v } else none
  | .plausTime => if 50 ≤ v ∧ v ≤ 1000 then some { e with plausTime := v } else none

/-- The calibration entry from its 11 bytes: each field in its range. -/
def readCal (b : List Byte) : Option CalEntry :=
  (CalEntry.unloaded.setField .distance (u16 b 0)).bind fun e =>
    (e.setField .filter (u8 b 2)).bind fun e =>
      (e.setField .window (u8 b 3)).bind fun e =>
        (e.setField .standstill (u16 b 4)).bind fun e =>
          (e.setField .frameSlot (u8 b 6)).bind fun e =>
            (e.setField .tolerance (u16 b 7)).bind fun e => e.setField .plausTime (u16 b 9)

/-- The 11 bytes of the calibration entry. -/
def CalEntry.bytes (e : CalEntry) : List Byte :=
  e16 e.kd ++ e8 e.filter ++ e8 e.window ++ e16 e.standstill ++ eOpt e.frameSlot ++ e16 e.tolerance
    ++ e16 e.plausTime

end Sys2Proof.Machine
end

