-- ==== Sys2Proof/Machine/Flags.lean ====
section
/-! DEFINITION. What the part reads off its own names: usable qualities (R6), fault readings (R44, R48), list states of
a warning (R112), the states in which a block runs, and the load state of each table. -/

namespace Sys2Proof.Machine

/-- A quality that lets the value be used: VALID, LIMITED or SUBSTITUTED (R6). -/
def Quality.usable : Quality → Bool
  | .valid | .limited | .substituted => true
  | .neverReceived | .stale | .notAvailable | .senderError | .lineFault => false

/-- RUN or SWEEP: the states in which frames, edges and warnings are taken in full. -/
def OpState.live : OpState → Bool
  | .run | .sweep => true
  | .config | .parked => false

/-- The failure type of a fault reading; `none` for a reading that is no fault (R44). -/
def Reading.failure? : Reading → Option LineFailure
  | .shortGnd => some .shortGnd
  | .openCircuit => some .openCircuit
  | .shortSupply => some .shortSupply
  | .active | .inactive | .value | .senderOk => none

/-- A fault reading. -/
def Reading.isFault (r : Reading) : Bool := r.failure?.isSome

/-- The states whose entries stand in the active list (R112). -/
def WarnState.inList : WarnState → Bool
  | .onUnack | .onAck | .offDelayUnacked | .offDelayAcked | .latchedUnack => true
  | .off | .onDelay => false

/-- The unacknowledged states, which come first within a severity (R112). -/
def WarnState.unacked : WarnState → Bool
  | .onUnack | .offDelayUnacked | .latchedUnack => true
  | .off | .onDelay | .onAck | .offDelayAcked => false

/-- A leaf in one of its end positions. -/
def LeafState.atEnd : LeafState → Bool
  | .locked | .closed | .opened => true
  | .notEvaluated | .opening | .closing | .ajar | .fault => false

/-- A leaf in a timed movement. -/
def LeafState.moving : LeafState → Bool
  | .opening | .closing => true
  | .notEvaluated | .locked | .closed | .opened | .ajar | .fault => false

/-- A table is loaded when an entry of it is: entries are loaded by an accepted write and unloaded by power-on reset
alone (R3 and the like sentence of each table). -/
def anyLoaded {α : Type} {n : Nat} (t : Vector (Option α) n) : Bool := t.toList.any Option.isSome

/-- The load states of the twelve tables in the order of their codes (section 12.2). -/
def loadStates (s : State) : List Bool :=
  [anyLoaded s.frp.table, anyLoaded s.sst.table, s.cli.link.isSome, anyLoaded s.lsc.table, anyLoaded s.lsc.curves,
   s.lsc.scan.isSome, anyLoaded s.drm.table, anyLoaded s.gdr.table, anyLoaded s.wrn.table, anyLoaded s.chg.table,
   anyLoaded s.flt.table, s.sdu.cal.isSome]

end Sys2Proof.Machine
end

