-- ==== Sys2Proof/Machine/Ops.lean ====
section
/-! DEFINITION. The operations the blocks share: reading and writing slots with the notifications of a change
(chapter 1), arrivals in flight, time, and the sending side of CL: responses, events, updates (sections 10.4 to 10.7). -/

namespace Sys2Proof.Machine

/-! ### Time -/

/-- The reading of the reference `ms` milliseconds from now. -/
def dueIn (ms : Nat) (s : State) : Nat := s.now + 1000 * ms

/-- A timer has come to its time. -/
def isDue (t : Option Nat) (s : State) : Bool := t.elim false fun d => decide (d ≤ s.now)

/-- A time left in 10 ms units, 2 bytes, FFFFh for none (R195); the rounding is open (log entry 9). -/
def timeLeftBytes (t : Option Nat) (s : State) : List Byte :=
  match t with
  | none => e16 0xFFFF
  | some d =>
    let left := d - s.now
    e16 (if left % 10000 ≠ 0 ∧ Config.timeLeftRoundsUp left = true then left / 10000 + 1 else left / 10000)

/-- The counter of free values, used once more. -/
def bumpFree (s : State) : State := { s with freeCount := s.freeCount + 1 }

/-! ### Arrivals in flight -/

/-- Arrivals made, not yet taken. -/
def post (cs : List Instr) (s : State) : State := { s with inFlight := s.inFlight ++ cs }

/-- The arrival `c` is taken by the block it is addressed to. -/
def takeArrival (c : Instr) (s : State) : State := { s with inFlight := s.inFlight.erase c }

/-! ### Slots: reading -/

/-- The record of a slot. -/
def State.slot (s : State) (i : Slot) : SlotRecord := s.sst.slots[i]

/-- The signal table entry of a slot. -/
def State.signal (s : State) (i : Slot) : Option SignalEntry := s.sst.table[i]

/-- The age of a record in milliseconds (R9). -/
def SlotRecord.age (r : SlotRecord) (now : Nat) : Nat :=
  r.writtenAt.elim 65535 fun t => min 65535 ((now - t) / 1000)

/-- An internal slot, 0 to 11 (section 3.5). -/
def isInternal (i : Slot) : Bool := i.val < 12

/-- A slot's fallback; internal slots have none (R2, R13). -/
def fallbackOf (i : Slot) (s : State) : Option Slot :=
  if isInternal i then none else (s.signal i).bind SignalEntry.fallback

/-- The effective read (R13). -/
def effRead (i : Slot) (s : State) : Int × Quality :=
  let own := s.slot i
  if own.quality.usable then (own.value, own.quality)
  else
    match fallbackOf i s with
    | none => (own.value, own.quality)
    | some f =>
      if (s.slot f).quality.usable then ((s.slot f).value, .substituted) else (own.value, own.quality)

/-- VEHICLE_SPEED. -/
def vehicleSpeed : Slot := 1

/-- IGNITION. -/
def ignition : Slot := 7

/-- Standstill: VEHICLE_SPEED's own record usable and below 0.50 km/h (R179, R190). -/
def standstill (s : State) : Bool :=
  (s.slot vehicleSpeed).quality.usable && decide ((s.slot vehicleSpeed).value < 50)

/-- Moving at 3.00 km/h or more: VEHICLE_SPEED's own record usable and at or above 300 (R179, R193). -/
def atThreeKmh (s : State) : Bool :=
  (s.slot vehicleSpeed).quality.usable && decide (300 ≤ (s.slot vehicleSpeed).value)

/-! ### Who uses a slot (R11) -/

/-- The entry uses the slot as source or gate slot; FAULT_CLASS does not use its source slot (R97). -/
def WarnEntry.uses (e : WarnEntry) (i : Slot) : Bool :=
  (decide (e.kind ≠ .faultClass) && decide (e.source = i)) || e.gate.elim false fun g => decide (g.slot = i)

/-- Some loaded warning entry uses the slot. -/
def wrnUses (i : Slot) (s : State) : Bool :=
  s.wrn.table.toList.any fun e => e.elim false (·.uses i)

/-- The portal of a leaf. -/
def portalOf (l : Fin 8) : Fin 4 := ⟨l.val / 2, by omega⟩

/-- The leaf 0, the leader, of a portal. -/
def leaderLeaf (p : Fin 4) : Fin 8 := ⟨2 * p.val, by omega⟩

/-- The leaf 1 of a portal. -/
def secondLeaf (p : Fin 4) : Fin 8 := ⟨2 * p.val + 1, by omega⟩

/-- The door entry of a leaf, its unloaded readback while unloaded. -/
def doorEntry (l : Fin 8) (s : State) : DoorEntry := s.drm.table[l].getD .unloaded

/-- The leader entry of a portal. -/
def leader (p : Fin 4) (s : State) : DoorEntry := doorEntry (leaderLeaf p) s

/-- A portal exists when its leaf 0 is fitted (R131). -/
def portalExists (p : Fin 4) (s : State) : Bool := (leader p s).fitted

/-- A leaf is fitted when its entry says so and its portal exists (R131). -/
def leafFitted (l : Fin 8) (s : State) : Bool := (doorEntry l s).fitted && portalExists (portalOf l) s

/-- The input slots of a leaf: closed, open, edge, and locked when the portal's lock is fitted (section 8.2). -/
def leafInputs (l : Fin 8) (s : State) : List Slot :=
  let e := doorEntry l s
  e.closedSlot :: e.openSlot :: e.edgeSlot ::
    (if (leader (portalOf l) s).lockFitted then e.lockedSlot.toList else [])

/-- The door monitor uses the slot (R11). -/
def drmUses (i : Slot) (s : State) : Bool :=
  (indices 8).any (fun l => leafFitted l s && (leafInputs l s).contains i)
    || (indices 4).any fun p => portalExists p s
      && (decide ((leader p s).releaseSlot = some i) || decide ((leader p s).requestSlot = some i))

/-- The frame speed slot in force (R59). -/
def frameSpeedSlot (s : State) : Option Slot := s.sdu.cal.bind CalEntry.frameSlot

/-- The report flag of a slot (R1). -/
def reportFlag (i : Slot) (s : State) : Bool := (s.signal i).elim false SignalEntry.report

/-- The notifications of WRN, DRM and SDU about a slot, made for a change of its own and on behalf of a dependant
(R11, R12). -/
def useNotices (i : Slot) (s : State) : List Instr :=
  (if wrnUses i s then [.evaluation i] else []) ++ (if drmUses i s then [.doorInputNotification i] else [])
    ++ (if frameSpeedSlot s = some i then [.frameSpeedNotification] else [])

/-- The further notifications of a slot's own change: CLI and WSP (R11). -/
def ownNotices (i : Slot) (s : State) : List Instr :=
  (if i = ignition ∨ i = vehicleSpeed ∨ reportFlag i s = true then [.cliNotification i] else [])
    ++ if i = vehicleSpeed then [.wspSpeedNotification] else []

/-- The configurable slots, other than `i` itself, that name `i` as their fallback (R12). -/
def dependants (i : Slot) (s : State) : List Slot :=
  (entries s.sst.table).filterMap fun (d, e) =>
    if e.elim false (fun e => decide (e.fallback = some i)) && decide (d ≠ i) && !isInternal d then some d else none

/-- The notifications on behalf of the dependants of `i` (R12): at a change of quality for each of them, at a change of
value for those whose own quality is unusable. -/
def dependantNotices (i : Slot) (qualityChanged : Bool) (s : State) : List Instr :=
  (dependants i s).flatMap fun d =>
    if qualityChanged || !(s.slot d).quality.usable then useNotices d s else []

/-! ### Producers -/

/-- The configurable slots whose entry passes the test, ascending. -/
def slotsWith (test : SignalEntry → Bool) (s : State) : List Slot :=
  (entries s.sst.table).filterMap fun (i, e) => if !isInternal i && e.elim false test then some i else none

/-- The slots a frame entry produces (R28), ascending. -/
def frameSlots (entry : Fin 64) (s : State) : List Slot :=
  slotsWith (fun e => decide (e.kind = .frame) && decide (e.index = entry.val)) s

/-- The slots a line produces: slot 7 for SL0, and the configurable slots that name the line (R54), ascending. They are
written in this order: the model's choice (log entry 47). -/
def lineSlots (line : Fin 48) (s : State) : List Slot :=
  (if line.val = 0 then [ignition] else [])
    ++ slotsWith (fun e => decide (e.kind = .line) && decide (e.index = line.val)) s

/-- The settings a line is classified with: its loaded entry; for SL0 the built-in settings while its entry is unloaded
(R43, R53). -/
def lineInForce (line : Fin 48) (s : State) : Option LineEntry :=
  match s.lsc.table[line] with
  | some e => some e
  | none => if line.val = 0 then some (.unloaded line) else none

/-- The fault condition present on a line: its accepted reading while that is a fault reading (R48), with the class of
its entry. -/
def lineFault (line : Fin 48) (s : State) : Option (FaultCode × Fin 16) :=
  (s.lsc.lines[line].accepted.bind Reading.failure?).map fun f =>
    (.line line f, (lineInForce line s).elim 0 LineEntry.faultClass)

/-- The calibration in force: the unloaded readback while the table is unloaded (R59). -/
def calOf (s : State) : CalEntry := s.sdu.cal.getD .unloaded

/-! ### Slots: writing (R7 to R10) -/

/-- The record of slot `i` becomes `r`; a change of value or quality notifies (R10 to R12). -/
def putRecord (i : Slot) (r : SlotRecord) (s : State) : State :=
  let old := s.slot i
  let s' := { s with sst := { s.sst with slots := s.sst.slots.set i r } }
  if old.value = r.value ∧ old.quality = r.quality then s'
  else post (useNotices i s' ++ ownNotices i s' ++ dependantNotices i (decide (old.quality ≠ r.quality)) s') s'

/-- What a value write stores: clamped into the limits of a configurable slot (R8), as it is in an internal one. -/
def clamped (i : Slot) (v : Int) (q : Quality) (s : State) : Int × Quality :=
  if isInternal i then (v, q)
  else
    let lo := (s.signal i).elim i32Min SignalEntry.min
    let hi := (s.signal i).elim i32Max SignalEntry.max
    if v < lo then (lo, .limited) else if hi < v then (hi, .limited) else (v, q)

/-- A value write (R7, R8). -/
def valueWrite (i : Slot) (v : Int) (q : Quality) (s : State) : State :=
  putRecord i ⟨(clamped i v q s).1, (clamped i v q s).2, some s.now⟩ s

/-- A quality-only write keeps the value (R7). -/
def qualityWrite (i : Slot) (q : Quality) (s : State) : State :=
  putRecord i ⟨(s.slot i).value, q, some s.now⟩ s

/-- A slot returned to its never-received record without a producer write (R4, R17). -/
def clearRecord (i : Slot) (s : State) : State := putRecord i .unwritten s

/-! ### Sending on CL (sections 10.4 to 10.7) -/

/-- A record on CL with its envelope: sync, LEN, kind, body and check byte (section 10.2). -/
def clEnvelope (kind : Byte) (body : List Byte) : List Byte :=
  let inner := BitVec.ofNat 8 (body.length + 1) :: kind :: body
  0xA5#8 :: inner ++ [0 - inner.foldl (· + ·) 0]

/-- The bytes of a response (R196). -/
def Response.bytes (r : Response) : List Byte :=
  clEnvelope 0x80 (r.kind :: e8 r.result.code ++ r.data)

/-- Event code and fields (R196). -/
def Event.fields : Event → Nat × List Byte
  | .warning i st unknown top => (0x01, e8 i ++ e8 st.code ++ eFlags [unknown, top])
  | .doorLeaf l st => (0x02, e8 (portalOf l) ++ e8 (l.val % 2) ++ e8 st.code)
  | .doorPortal p st released => (0x03, e8 p ++ e8 st.code ++ e8 (bitNat released))
  | .obstruction l => (0x04, e8 (portalOf l) ++ e8 (l.val % 2))
  | .stopRequest latch source => (0x05, e8 (bitNat latch) ++ eOptFF source)
  | .fault code status n => (0x06, faultBytes code ++ e8 status.code ++ e8 n)
  | .faultsCleared origin => (0x07, e8 origin.code)
  | .state st cause => (0x08, e8 st.code ++ e8 cause.code)
  | .configChanged table index => (0x09, e8 table ++ e8 index)
  | .calChanged field origin => (0x0A, e8 field ++ e8 origin.code)
  | .windowClosed bySpeed => (0x0B, e8 (bitNat bySpeed))

/-- The bytes of an event record, with its overrun mark (R172, R196). -/
def Event.bytes (e : Event) (overrun : Bool) : List Byte :=
  clEnvelope 0x81 (e8 e.fields.1 ++ e8 (bitNat overrun) ++ e.fields.2)

/-- The bytes of an update record: the slot's own record as it stands (R171). -/
def updateBytes (i : Slot) (s : State) : List Byte :=
  clEnvelope 0x82 (e8 i ++ eInt32 (s.slot i).value ++ e8 (s.slot i).quality.code ++ e16 ((s.slot i).age s.now))

/-- A pending slot is eligible when it has no last report or its clock has reached its minimum interval (R174). -/
def eligible (s : State) (i : Slot) : Bool :=
  s.cli.reports[i].last.isNone
    || decide (10000 * (s.signal i).elim 1 SignalEntry.minInterval ≤ s.now - s.cli.reports[i].clockFrom)

/-- A record starts transmission: WAKE is deasserted (R166). -/
def startRecord (bytes : List Byte) (s : State) : State :=
  { s with cli := { s.cli with tx := some bytes, wake := false } }

/-- The transmitter chooses, when it is free and LRDY is asserted: the oldest response, else the oldest event, else the
eligible slot pending longest (R171). -/
def transmit (s : State) : State :=
  if s.cli.tx.isSome || !s.cli.lrdy then s
  else
    match s.cli.responses with
    | r :: rest => startRecord r.bytes { s with cli := { s.cli with responses := rest } }
    | [] =>
      match s.cli.events with
      | e :: rest =>
        startRecord (e.bytes s.cli.overrun) { s with cli := { s.cli with events := rest, overrun := false } }
      | [] =>
        match s.cli.updates.find? (eligible s) with
        | none => s
        | some i =>
          startRecord (updateBytes i s)
            { s with cli := { s.cli with
                updates := s.cli.updates.erase i
                reports := s.cli.reports.set i ⟨some ((s.slot i).value, (s.slot i).quality), s.now⟩ } }

/-- An event reaches the queue; with 64 queued it is dropped and the overrun mark set (R172). -/
def queueEvent (e : Event) (s : State) : State :=
  transmit
    (if s.cli.events.length < 64 then { s with cli := { s.cli with events := s.cli.events ++ [e] } }
     else { s with cli := { s.cli with overrun := true } })

/-- The response to an executed record (R170). -/
def respond (kind : Byte) (result : Result) (data : List Byte) (s : State) : State :=
  transmit { s with cli := { s.cli with responses := s.cli.responses ++ [⟨kind, result, data, false⟩] } }

/-- A discard response, unless four of them wait (R170). -/
def respondDiscard (kind : Byte) (s : State) : State :=
  if 4 ≤ s.cli.responses.countP Response.discard then s
  else transmit { s with cli := { s.cli with responses := s.cli.responses ++ [⟨kind, .format, [], true⟩] } }

/-- The places of the inbound buffer that are held: records waiting, and executed records whose responses wait (R168,
R170). -/
def placesHeld (s : State) : Nat :=
  s.cli.inbound.length + s.cli.responses.countP fun r => !r.discard

/-- PRDY is asserted while a place is free (R168). -/
def prdy (s : State) : Bool := placesHeld s < 4

/-- A slot joins the pending-update set at its end, unless it is in it (R173). -/
def joinUpdates (i : Slot) (s : State) : State :=
  if s.cli.updates.contains i then s
  else transmit { s with cli := { s.cli with updates := s.cli.updates ++ [i] } }

/-- A request to assert WAKE (R35, R141, R166). -/
def assertWake (s : State) : State := { s with cli := { s.cli with wake := true } }

end Sys2Proof.Machine
end

