-- ==== Sys2Proof/Machine/Chime.lean ====
section
/-! DEFINITION. The chime generator (chapter 7): requests, arbitration, bursts, and its four commands. -/

namespace Sys2Proof.Machine

/-- The pattern in force at an index: the unloaded readback plays while it is unloaded (R119). -/
def patternOf (p : Fin 8) (s : State) : PatternEntry := s.chg.table[p].getD .unloaded

/-- The request a requester holds. -/
def requestOf (who : Requester) (s : State) : Option ChimeRequest :=
  s.chg.requests.find? fun r => r.who = who

/-- The better of the leader so far and the next request by placing stamp: a strictly higher priority takes the lead
(R124). -/
def betterRequest (s : State) (best : Option ChimeRequest) (r : ChimeRequest) : Option ChimeRequest :=
  match best with
  | none => some r
  | some b => if (patternOf b.pattern s).priority < (patternOf r.pattern s).priority then some r else some b

/-- The winner of the arbitration (R124). -/
def winner (s : State) : Option ChimeRequest := s.chg.requests.foldl (betterRequest s) none

/-- Nothing plays: TONE low, level 1 (R121). -/
def silence (s : State) : State := { s with chg := { s.chg with playing := none } }

/-- A request starts to play at the beginning of a burst (R121). -/
def startBurst (r : ChimeRequest) (s : State) : State :=
  { s with chg := { s.chg with
      playing := some ⟨r.who, true, s.now + 10000 * (patternOf r.pattern s).onTime⟩ } }

/-- The requester whose request plays. -/
def playingWho (s : State) : Option Requester := s.chg.playing.map Playing.who

/-- Arbitration (R124): the winner plays on if it plays already, and else starts a fresh burst; a loser is cut
(R125). -/
def arbitrate (s : State) : State :=
  match winner s with
  | none => silence s
  | some w => if playingWho s = some w.who then s else startBurst w s

/-- The request of `who` is removed; if it was playing it stops at once (R121, R123). -/
def removeRequest (who : Requester) (s : State) : State :=
  let s' := { s with chg := { s.chg with requests := s.chg.requests.filter fun r => r.who ≠ who } }
  if playingWho s = some who then silence s' else s'

/-- A withdrawal (R123): without effect for a requester that holds no request. -/
def withdraw (who : Requester) (s : State) : State :=
  if (requestOf who s).isSome then arbitrate (removeRequest who s) else s

/-- The request-held mark of a portal (R142). -/
def setHeld (p : Fin 4) (b : Bool) (s : State) : State :=
  { s with drm := { s.drm with portals := s.drm.portals.set p { s.drm.portals[p] with held := b } } }

/-- A portal's mark follows a placing taken, a withdrawal and a finished pattern (R142); other requesters keep none. -/
def markHeld (who : Requester) (b : Bool) (s : State) : State :=
  match who with
  | .portal p => setHeld p b s
  | .warning _ | .display | .workshop => s

/-- A warning entry is the one kind of requester heard in PARKED (R128). -/
def fromWarning : Requester → Bool
  | .warning _ => true
  | .portal _ | .display | .workshop => false

/-- CHG takes placings in RUN and SWEEP from every requester, in PARKED from warning entries alone, in CONFIG from none
(R122, R128). -/
def takesPlacing (who : Requester) (s : State) : Bool :=
  match s.opState with
  | .run | .sweep => true
  | .parked => fromWarning who
  | .config => false

/-- A placing (R122): the requester's old request is replaced, the placing sequence advances and stamps the new one, and
CHG arbitrates once. A placing not taken leaves the requester holding no request. -/
def place (who : Requester) (pattern : Fin 8) (s : State) : State :=
  if takesPlacing who s then
    let s' := removeRequest who s
    markHeld who true
      (arbitrate { s' with chg := { s'.chg with
          seq := s'.chg.seq + 1
          requests := s'.chg.requests ++ [⟨who, pattern, s'.chg.seq + 1, 0⟩] } })
  else withdraw who s

/-- A request is complete when its pattern is finite and its count has reached the repeat (R120, R126). -/
def complete (s : State) (r : ChimeRequest) : Bool :=
  let n := (patternOf r.pattern s).repeats
  decide (n ≠ 0) && decide (n ≤ r.count)

/-- A completed request is removed and its requester told that the pattern finished (R126). -/
def finish (s : State) (r : ChimeRequest) : State := markHeld r.who false (removeRequest r.who s)

/-- The end of a burst (R126): the count of the playing request gains 1, a complete request is removed, and CHG
arbitrates; the winner starts a fresh burst. -/
def endBurst (who : Requester) (s : State) : State :=
  let counted := s.chg.requests.map fun r => if r.who = who then { r with count := satSucc 255 r.count } else r
  let s' := silence { s with chg := { s.chg with requests := counted } }
  arbitrate ((s'.chg.requests.filter fun r => decide (r.who = who) && complete s' r).foldl finish s')

/-- An accepted pattern write (R120): in RUN the playing request of the pattern is cut, complete requests of the pattern
are removed, and CHG arbitrates. In CONFIG the write has no further effect. -/
def writePattern (p : Fin 8) (e : PatternEntry) (s : State) : State :=
  let s' := { s with chg := { s.chg with table := s.chg.table.set p (some e) } }
  if s.opState = .config then s'
  else
    let cut := (playingWho s').bind fun who => requestOf who s'
    let s'' := if cut.any fun r => r.pattern = p then silence s' else s'
    arbitrate ((s''.chg.requests.filter fun r => decide (r.pattern = p) && complete s'' r).foldl finish s'')

/-- Every request is removed and the output silenced, without a finished report (R128, R129). -/
def clearRequests (s : State) : State := { s with chg := { s.chg with requests := [], playing := none } }

/-! ### Outputs -/

/-- The pattern that plays, if one does. -/
def playingPattern (s : State) : Option PatternEntry :=
  ((playingWho s).bind fun who => requestOf who s).map fun r => patternOf r.pattern s

/-- TONE: the half-period of the square wave in microseconds during an on-time, `none` while it is held low (R119,
R121). -/
def toneHalfPeriod (s : State) : Option Nat :=
  if s.chg.playing.any Playing.inTone then (playingPattern s).map fun e => e.prescale * e.divider else none

/-- TONE at this instant: high in every other half-period of an on-time, the first of them included (R121). -/
def tonePin (s : State) : Bool :=
  match s.chg.playing, playingPattern s with
  | some ⟨_, true, due⟩, some e =>
    decide (s.now < due) && (s.now + 10000 * e.onTime - due) / (e.prescale * e.divider) % 2 == 0
  | _, _ => false

/-- TLVL1 and TLVL0: the code of the level minus one, the code of level 1 while nothing plays (R121). -/
def levelCode (s : State) : BitVec 2 := BitVec.ofNat 2 ((playingPattern s).elim 0 fun e => e.level - 1)

/-! ### Commands -/

/-- REQUEST_PLACING (R122). -/
def execRequestPlacing (who : Requester) (pattern : Fin 8) (s : State) : Host.Outcome State Fault Refusal :=
  .next (place who pattern (takeArrival (.requestPlacing who pattern) s))

/-- REQUEST_WITHDRAWAL (R123). -/
def execRequestWithdrawal (who : Requester) (s : State) : Host.Outcome State Fault Refusal :=
  .next (markHeld who false (withdraw who (takeArrival (.requestWithdrawal who) s)))

/-- ON_TIME_END (R121): the tone of the burst goes low and its off-time begins. -/
def execOnTimeEnd (s : State) : Host.Outcome State Fault Refusal :=
  match s.chg.playing with
  | some ⟨who, true, due⟩ =>
    if due ≤ s.now then
      let off := (requestOf who s).elim 0 fun r => (patternOf r.pattern s).offTime
      .next { s with chg := { s.chg with playing := some ⟨who, false, due + 10000 * off⟩ } }
    else .next s
  | _ => .next s

/-- BURST_END (R126). -/
def execBurstEnd (s : State) : Host.Outcome State Fault Refusal :=
  match s.chg.playing with
  | some ⟨who, false, due⟩ => if due ≤ s.now then .next (endBurst who s) else .next s
  | _ => .next s

end Sys2Proof.Machine
end

