-- ==== Sys2Proof/Machine/Doors.lean ====
section
/-! DEFINITION. The door monitor (chapter 8): inputs, leaf and portal states, transit timing, counters, the closing
chime, the stop-request latch, its part in the operating states, and its commands. -/

namespace Sys2Proof.Machine

/-- DOORS_ALL_CLOSED. -/
def doorsAllClosed : Slot := 5

/-- STOP_REQUEST. -/
def stopRequest : Slot := 6

/-- OPEN_PORTALS. -/
def openPortals : Slot := 8

/-- The run-time state of a leaf. -/
def leafRun (l : Fin 8) (s : State) : LeafRun := s.drm.leaves[l]

/-- The run-time state of a leaf replaced. -/
def setLeafRun (l : Fin 8) (r : LeafRun) (s : State) : State :=
  { s with drm := { s.drm with leaves := s.drm.leaves.set l r } }

/-- The run-time state of a portal. -/
def portalRun (p : Fin 4) (s : State) : PortalRun := s.drm.portals[p]

/-- The run-time state of a portal replaced. -/
def setPortalRun (p : Fin 4) (r : PortalRun) (s : State) : State :=
  { s with drm := { s.drm with portals := s.drm.portals.set p r } }

/-- The fitted leaves of a portal (R131). -/
def fittedLeaves (p : Fin 4) (s : State) : List (Fin 8) :=
  [leaderLeaf p, secondLeaf p].filter fun l => leafFitted l s

/-- The lock of a leaf's portal is fitted (a leader field, R130). -/
def lockFitted (l : Fin 8) (s : State) : Bool := (leader (portalOf l) s).lockFitted

/-! ### Inputs (R132) -/

/-- An input: active, inactive, or unusable (`none`). In PARKED a STALE input is read with its held value. -/
def readInput (i : Slot) (s : State) : Option Bool :=
  let read := effRead i s
  if read.2.usable || (decide (read.2 = .stale) && decide (s.opState = .parked)) then some (decide (read.1 = 1))
  else none

/-- An optional input that is present. -/
def readOptional (i : Option Slot) (s : State) : Option Bool := i.bind fun i => readInput i s

/-- A door event; in PARKED it also asks for WAKE (R141, log entry 21). -/
def doorEvent (e : Event) (s : State) : State :=
  queueEvent e (if s.opState = .parked then assertWake s else s)

/-! ### The stop-request latch (R143, R144) -/

/-- The latch and every requested flag are cleared, if the latch was 1 (R144). -/
def clearLatch (source : Option (Fin 4)) (s : State) : State :=
  if s.drm.latch then
    let s' := valueWrite stopRequest 0 .valid s
    doorEvent (.stopRequest false source)
      { s' with drm := { s'.drm with
          latch := false, portals := mapTable (fun r => { r with requested := false }) s'.drm.portals } }
  else s

/-- The clearing test at a portal that becomes OPEN: VEHICLE_SPEED by effective read usable and below 3.00 km/h. -/
def openingClears (s : State) : Bool :=
  let read := effRead vehicleSpeed s
  read.2.usable && decide (read.1 < 300)

/-- A press at a portal: its flag, the latch, STOP_REQUEST and the event (R143). -/
def press (p : Fin 4) (s : State) : State :=
  if (portalRun p s).requested then s
  else
    let s' := valueWrite stopRequest 1 .valid (setPortalRun p { portalRun p s with requested := true } s)
    doorEvent (.stopRequest true (some p)) { s' with drm := { s'.drm with latch := true } }

/-- A notification of a portal's request slot: a reading turned ACTIVE is a press (R143). -/
def takeRequestReading (p : Fin 4) (s : State) : State :=
  match readOptional (leader p s).requestSlot s with
  | none => s
  | some b =>
    let s' := setPortalRun p { portalRun p s with reading := b } s
    if b && !(portalRun p s).reading then press p s' else s'

/-! ### Portals (R139, R140) -/

/-- The leaf counts as secured: LOCKED, or CLOSED when the lock is not fitted. -/
def leafSecured (l : Fin 8) (s : State) : Bool :=
  let st := (leafRun l s).state
  decide (st = .locked) || (decide (st = .closed) && !lockFitted l s)

/-- The state of an existing portal from its fitted leaves (R139). -/
def formPortal (p : Fin 4) (s : State) : PortalState :=
  if (fittedLeaves p s).any fun l => (leafRun l s).state = .fault then .fault
  else if (fittedLeaves p s).all fun l => leafSecured l s then .secured
  else .opened

/-- The released flag: the release slot is present, and active or unusable (R139). -/
def formReleased (p : Fin 4) (s : State) : Bool :=
  (leader p s).releaseSlot.any fun i => (readInput i s).getD true

/-- The portals that exist, ascending. -/
def existingPortals (s : State) : List (Fin 4) := (indices 4).filter fun p => portalExists p s

/-- DOORS_ALL_CLOSED and OPEN_PORTALS are formed and written (R140). -/
def writeDoorSlots (s : State) : State :=
  let closed := (existingPortals s).all fun p =>
    decide ((portalRun p s).state = .secured) && !(portalRun p s).released
  let count := (existingPortals s).countP fun p => decide ((portalRun p s).state ≠ .secured)
  valueWrite openPortals (count : Nat) .valid (valueWrite doorsAllClosed (bitNat closed) .valid s)

/-- Some fitted leaf of the portal is CLOSING. -/
def anyClosing (p : Fin 4) (s : State) : Bool := (fittedLeaves p s).any fun l => (leafRun l s).state = .closing

/-- A portal with a closing chime and no leaf CLOSING withdraws its request (R142). -/
def withdrawChime (p : Fin 4) (s : State) : State :=
  if (leader p s).chime.isSome && !anyClosing p s then
    post [.requestWithdrawal (.portal p)] (setPortalRun p { portalRun p s with held := false } s)
  else s

/-- The portal takes the state and the released flag formed, and a change is told (R139, R141). -/
def putPortal (p : Fin 4) (st : PortalState) (released : Bool) (s : State) : State :=
  let r := portalRun p s
  if r.state = st ∧ r.released = released then s
  else doorEvent (.doorPortal p st released) (setPortalRun p { r with state := st, released := released } s)

/-- An existing portal is re-formed: its event, the clearing test when it becomes OPEN, the closing chime, and last the
door slots (R139, R142, R144). -/
def reformPortal (p : Fin 4) (s : State) : State :=
  if portalExists p s then
    let s1 := putPortal p (formPortal p s) (formReleased p s) s
    let opens := decide ((portalRun p s).state ≠ .opened) && decide ((portalRun p s1).state = .opened)
    let s2 := if opens && openingClears s1 then clearLatch (some p) s1 else s1
    writeDoorSlots (withdrawChime p s2)
  else s

/-! ### Leaves (R133 to R138) -/

/-- The state a leaf derives from its inputs and the state before (R133). -/
def deriveState (l : Fin 8) (before : LeafState) (s : State) : LeafState :=
  let e := doorEntry l s
  let active (i : Slot) : Bool := readInput i s = some true
  let lock := lockFitted l s
  let locked := e.lockedSlot.any active
  if (leafInputs l s).any fun i => (readInput i s).isNone then .fault
  else if active e.closedSlot && active e.openSlot then .fault
  else if lock && locked && !active e.closedSlot then .fault
  else if active e.closedSlot then (if locked || !lock then .locked else .closed)
  else if active e.openSlot then .opened
  else
    match before with
    | .locked | .closed => .opening
    | .opened => .closing
    | .opening | .closing | .ajar => before
    | .fault | .notEvaluated => .ajar

/-- The transit timer and start time at a change of state, and the maximum raised by a transit that ends (R134). A part
of a millisecond of the measured time is dropped: the model's choice (log entry 44). -/
def transitAfter (l : Fin 8) (new : LeafState) (r : LeafRun) (s : State) : LeafRun :=
  let limit := (leader (portalOf l) s).transitLimit
  if new.moving then { r with transitDue := some (s.now + 10000 * limit), transitStart := some s.now }
  else if new.atEnd then
    { r with
      transitDue := none, transitStart := none
      maxTransit := max r.maxTransit (r.transitStart.elim 0 fun t => min 65535 ((s.now - t) / 1000)) }
  else if new = .fault then { r with transitDue := none, transitStart := none }
  else { r with transitDue := none }

/-- The condition flags after a change of state (R136). -/
def flagsAfter (new : LeafState) (r : LeafRun) : LeafRun :=
  { r with inconsistent := decide (new = .fault), transitFlag := r.transitFlag && !new.atEnd }

/-- The counter of opening cycles at a change of state (R138). -/
def cyclesAfter (new : LeafState) (r : LeafRun) : LeafRun :=
  if new = .opened ∧ r.state ≠ .fault ∧ r.state ≠ .notEvaluated then
    { r with cycles := satSucc 4294967295 r.cycles }
  else r

/-- The reports of the flags that a change of state sets or clears, INCONSISTENT before TRANSIT (R135, R136). -/
def flagReports (l : Fin 8) (cls : Fin 16) (old new : LeafRun) : List Instr :=
  (if old.inconsistent = new.inconsistent then []
    else if new.inconsistent then [.faultConditionStart (.door l .inconsistent) cls]
    else [.faultConditionEnd (.door l .inconsistent) cls])
  ++ if old.transitFlag = new.transitFlag then []
    else if new.transitFlag then [.faultConditionStart (.door l .transit) cls]
    else [.faultConditionEnd (.door l .transit) cls]

/-- A leaf entering CLOSING while no other fitted leaf of its portal is CLOSING places the closing chime (R142). -/
def chimeAtClosing (l : Fin 8) (new : LeafState) (s : State) : List Instr :=
  let p := portalOf l
  let other := (fittedLeaves p s).any fun k => decide (k ≠ l) && decide ((leafRun k s).state = .closing)
  if new = .closing ∧ other = false then
    ((leader p s).chime.map fun c => Instr.requestPlacing (.portal p) c).toList
  else []

/-- A leaf changes to a state: DOOR_LEAF event, transit timer, conditions, counters, closing chime (R133). -/
def changeLeaf (l : Fin 8) (new : LeafState) (s : State) : State :=
  let r := leafRun l s
  let r' := flagsAfter new (cyclesAfter new (transitAfter l new r s))
  post (flagReports l (doorEntry l s).faultClass r r' ++ chimeAtClosing l new s)
    (setLeafRun l { r' with state := new } (doorEvent (.doorLeaf l new) s))

/-- A fitted leaf is derived; a change re-forms its portal (R133). -/
def deriveLeaf (l : Fin 8) (s : State) : State :=
  let new := deriveState l (leafRun l s).state s
  if new = (leafRun l s).state then s else reformPortal (portalOf l) (changeLeaf l new s)

/-- A notification of a leaf's edge slot, before the leaf is derived (R137). -/
def takeEdge (l : Fin 8) (s : State) : State :=
  let r := leafRun l s
  match readInput (doorEntry l s).edgeSlot s with
  | none => s
  | some false => setLeafRun l { r with edge := false } s
  | some true =>
    if r.edge then s
    else
      let n := if r.state = .closing then satSucc 65535 r.obstructions else r.obstructions
      doorEvent (.obstruction l) (setLeafRun l { r with edge := true, obstructions := n } s)

/-- A leaf's part in a notification of a slot (R132, R133, R137). -/
def notifyLeaf (i : Slot) (s : State) (l : Fin 8) : State :=
  if leafFitted l s && (leafInputs l s).contains i then
    deriveLeaf l (if (doorEntry l s).edgeSlot = i then takeEdge l s else s)
  else s

/-- A portal's part in a notification of a slot: its release slot, then its request slot (R139, R143). Where one slot is
both, this order is the model's choice (log entry 45). -/
def notifyPortal (i : Slot) (s : State) (p : Fin 4) : State :=
  if portalExists p s then
    let s' := if (leader p s).releaseSlot = some i then reformPortal p s else s
    if (leader p s).requestSlot = some i then takeRequestReading p s' else s'
  else s

/-- A notification of a slot: the leaves in ascending order, then the portals; ignored in CONFIG (R132, R145). -/
def notifyDoors (i : Slot) (s : State) : State :=
  if s.opState = .config then s
  else (indices 4).foldl (notifyPortal i) ((indices 8).foldl (notifyLeaf i) s)

/-- The expiry of a leaf's transit timer (R134). -/
def expireTransit (l : Fin 8) (s : State) : State :=
  let s' := changeLeaf l .ajar s
  let r := leafRun l s'
  let r' := { r with transitFlag := true }
  reformPortal (portalOf l) (post (flagReports l (doorEntry l s').faultClass r r') (setLeafRun l r' s'))

/-- The three counters of a leaf set to 0 (R138). -/
def clearCounters (r : LeafRun) : LeafRun := { r with cycles := 0, obstructions := 0, maxTransit := 0 }

/-- CLEAR_DOOR_COUNTERS for one portal, or for all (R138). -/
def clearDoorCounters (portal : Option (Fin 4)) (s : State) : State :=
  let clear (l : Fin 8) (s : State) : State := setLeafRun l (clearCounters (leafRun l s)) s
  match portal with
  | some p => clear (secondLeaf p) (clear (leaderLeaf p) s)
  | none => { s with drm := { s.drm with leaves := mapTable clearCounters s.drm.leaves } }

/-! ### Operating states and reset (R145, R147) -/

/-- The first derivation of one fitted leaf (R145): its edge reading is set from the read. -/
def firstLeaf (s : State) (l : Fin 8) : State :=
  if leafFitted l s then
    let r := { leafRun l s with
      state := .notEvaluated, edge := (readInput (doorEntry l s).edgeSlot s).getD false }
    let s' := setLeafRun l r s
    changeLeaf l (deriveState l .notEvaluated s') s'
  else s

/-- The first derivation of one existing portal (R145): its event, and its request reading from the read. -/
def firstPortal (s : State) (p : Fin 4) : State :=
  if portalExists p s then
    let reading := (readOptional (leader p s).requestSlot s).getD false
    doorEvent (.doorPortal p (formPortal p s) (formReleased p s))
      (setPortalRun p { portalRun p s with state := formPortal p s, released := formReleased p s, reading } s)
  else s

/-- The first derivation, at entry into RUN from CONFIG (R145). -/
def firstDerivation (s : State) : State :=
  writeDoorSlots ((indices 4).foldl firstPortal ((indices 8).foldl firstLeaf s))

/-- The re-derivation, at the return from PARKED (R145). -/
def rederive (s : State) : State :=
  let s' := (indices 8).foldl (fun s l => if leafFitted l s then deriveLeaf l s else s) s
  (indices 4).foldl (fun s p => reformPortal p s) s'

/-- Entry into RUN. -/
def drmEnterRun (fromParked : Bool) (s : State) : State := if fromParked then rederive s else firstDerivation s

/-- Entry into PARKED: each portal clears its request-held mark (R142). -/
def drmEnterParked (s : State) : State :=
  { s with drm := { s.drm with portals := mapTable (fun r => { r with held := false }) s.drm.portals } }

/-- Commanded reset (R147): the table and the counters are kept. -/
def drmReset (s : State) : State :=
  let leaf (r : LeafRun) : LeafRun :=
    { LeafRun.reset with cycles := r.cycles, obstructions := r.obstructions, maxTransit := r.maxTransit }
  let s' := { s with drm := { s.drm with
      leaves := mapTable leaf s.drm.leaves, portals := Vector.replicate 4 .reset, latch := false } }
  valueWrite openPortals 0 .valid (valueWrite stopRequest 0 .valid (valueWrite doorsAllClosed 0 .valid s'))

/-- The start of every set condition flag of every fitted leaf, reported again at the fault memory's request (R136), in
an order that is the model's choice: ascending leaves, INCONSISTENT before TRANSIT (log entry 41). -/
def doorReports (s : State) : List Instr :=
  (indices 8).flatMap fun l =>
    if leafFitted l s then
      flagReports l (doorEntry l s).faultClass { leafRun l s with inconsistent := false, transitFlag := false }
        (leafRun l s)
    else []

/-! ### What the outside reads (R148) -/

/-- The 2-bit code of an input (section 12.2): 3 for a slot that is not an input. -/
def inputCode (isInput : Bool) (i : Slot) (s : State) : Nat :=
  if isInput then
    match readInput i s with
    | some false => 0
    | some true => 1
    | none => 2
  else 3

/-- The byte of input readings of a leaf (section 12.5.1); a leaf that is not fitted has no inputs (log entry 26). -/
def inputsByte (l : Fin 8) (s : State) : Nat :=
  let e := doorEntry l s
  let f := leafFitted l s
  inputCode f e.closedSlot s + 4 * inputCode f e.openSlot s
    + 16 * e.lockedSlot.elim 3 (fun i => inputCode (f && lockFitted l s) i s) + 64 * inputCode f e.edgeSlot s

/-- The 15 bytes of a leaf's run-time state (R148, section 12.5.1). -/
def leafBytes (l : Fin 8) (s : State) : List Byte :=
  let r := leafRun l s
  let p := portalRun (portalOf l) s
  e8 r.state.code ++ e8 (inputsByte l s) ++ eFlags [r.edge, r.inconsistent, r.transitFlag]
    ++ timeLeftBytes r.transitDue s ++ e32 r.cycles ++ e16 r.obstructions ++ e16 r.maxTransit
    ++ if l.val % 2 = 0 then
        e8 (if portalExists (portalOf l) s then p.state.code else 0)
          ++ eFlags [p.released, p.requested, p.reading, p.held]
      else e8 0 ++ e8 0

/-! ### Commands -/

/-- DOOR_INPUT_NOTIFICATION (R133). -/
def execDoorInputNotification (slot : Slot) (s : State) : Host.Outcome State Fault Refusal :=
  .next (notifyDoors slot (takeArrival (.doorInputNotification slot) s))

/-- TRANSIT_TIMER_EXPIRY (R134). -/
def execTransitTimerExpiry (leaf : Fin 8) (s : State) : Host.Outcome State Fault Refusal :=
  if isDue (leafRun leaf s).transitDue s then .next (expireTransit leaf s) else .next s

end Sys2Proof.Machine
end

