-- ==== Sys2Proof/Machine/FramePath.lean ====
section
/-! DEFINITION. The frame path (chapter 2): port rates, matching, length and alive checks, extraction, timers, wake
frames, its part in the operating states, and its commands. -/

namespace Sys2Proof.Machine

/-- The run-time state of a frame entry. -/
def frameRun (i : Fin 64) (s : State) : FrameRun := s.frp.run[i]

/-- The run-time state of a frame entry replaced. -/
def setFrameRun (i : Fin 64) (r : FrameRun) (s : State) : State :=
  { s with frp := { s.frp with run := s.frp.run.set i r } }

/-- The class an entry reports under (R36). -/
def frameClass (i : Fin 64) (s : State) : Fin 16 := s.frp.table[i].elim 0 FrameEntry.faultClass

/-- A condition of an entry starts or ends at the fault memory (R36). -/
def reportFrame (i : Fin 64) (f : FrameFailure) (starts : Bool) (s : State) : State :=
  post [if starts then .faultConditionStart (.frame i f) (frameClass i s)
    else .faultConditionEnd (.frame i f) (frameClass i s)] s

/-- The LENGTH flag set or cleared, reported when it changes (R23). -/
def putLengthFlag (i : Fin 64) (b : Bool) (s : State) : State :=
  if (frameRun i s).lengthFlag = b then s
  else reportFrame i .length b (setFrameRun i { frameRun i s with lengthFlag := b } s)

/-- The SEQUENCE flag set or cleared, reported when it changes (R25). -/
def putSequenceFlag (i : Fin 64) (b : Bool) (s : State) : State :=
  if (frameRun i s).sequenceFlag = b then s
  else reportFrame i .sequence b (setFrameRun i { frameRun i s with sequenceFlag := b } s)

/-- The TIMEOUT flag set or cleared, reported when it changes (R26, R34). -/
def putTimeoutFlag (i : Fin 64) (b : Bool) (s : State) : State :=
  if (frameRun i s).timeoutFlag = b then s
  else reportFrame i .timeout b (setFrameRun i { frameRun i s with timeoutFlag := b } s)

/-- The SENDER_ERROR condition of an entry is present: some slot of it has its flag (R31). -/
def senderErrorPresent (i : Fin 64) (s : State) : Bool := (frameSlots i s).any fun k => s.frp.senderErr[k]

/-- A slot's sender-error flag set or cleared; the first set and the last cleared of an entry are reported (R31), slot by
slot as the frame is extracted: the model's choice (log entry 46). -/
def putSenderFlag (i : Fin 64) (k : Slot) (b : Bool) (s : State) : State :=
  let s' := { s with frp := { s.frp with senderErr := s.frp.senderErr.set k b } }
  if senderErrorPresent i s = senderErrorPresent i s' then s' else reportFrame i .senderError b s'

/-! ### Signals (R28 to R32) -/

/-- The raw value of a signal (R30). -/
def rawValue (e : SignalEntry) (data : List Byte) : Int :=
  let u := rawUnsigned data (signalBits e.msbFirst e.startBit e.length)
  if e.signed then (if 2 ^ (e.length - 1) ≤ u then (u : Int) - 2 ^ e.length else u) else u

/-- The scaled value of a raw value (R32). -/
def scale (e : SignalEntry) (r : Int) : Int :=
  let h : Int := if e.shift = 0 then 0 else 2 ^ (e.shift - 1)
  (r * e.mult + h) / 2 ^ e.shift + e.offset

/-- The field has sender codes (R30). -/
def hasCodes (e : SignalEntry) : Bool := !e.signed && decide (2 ≤ e.length) && e.naCheck

/-- One processed signal: its code or its scaled value is written, and its sender-error flag follows (R30, R31). The
value is limited to the signed 32-bit range first, which the slot's limits lie in (R32). -/
def takeSignal (i : Fin 64) (k : Slot) (e : SignalEntry) (data : List Byte) (s : State) : State :=
  let r := rawValue e data
  if hasCodes e && decide (r = 2 ^ e.length - 1) then qualityWrite k .notAvailable s
  else if hasCodes e && decide (r = 2 ^ e.length - 2) then putSenderFlag i k true (qualityWrite k .senderError s)
  else putSenderFlag i k false (valueWrite k (scale e r) .valid s)

/-- The selector value of a frame, `none` for an entry without a selector (R28). -/
def selectorValue (e : FrameEntry) (data : List Byte) : Option Nat :=
  e.selector.map fun (start, len) => rawUnsigned data (lsbBits start len)

/-- The signal is processed under the selector value (R28). -/
def selected (sel : Option Nat) (e : SignalEntry) : Bool :=
  match sel, e.mux with
  | some v, some m => decide (m = v)
  | none, _ | _, none => true

/-- Every signal of the entry is processed, in ascending slot order (R28). -/
def extract (i : Fin 64) (e : FrameEntry) (data : List Byte) (s : State) : State :=
  (frameSlots i s).foldl
    (fun s k =>
      match s.signal k with
      | some g => if selected (selectorValue e data) g then takeSignal i k g data s else s
      | none => s) s

/-! ### Taking a frame (R22 to R26, R35) -/

/-- A frame matches an entry (R22). -/
def frameMatches (port : VehiclePort) (extended : Bool) (ident : BitVec 29) (e : FrameEntry) : Bool :=
  e.enabled && (match port with | .va => e.onVa | .vb => e.onVb) && (e.extended == extended)
    && decide (ident.setWidth 32 &&& e.mask = e.ident &&& e.mask)

/-- The entry that takes a frame: the first that matches; in PARKED entries that are no wake entries are passed over
(R22). -/
def takingEntry (port : VehiclePort) (extended : Bool) (ident : BitVec 29) (s : State) : Option (Fin 64 × FrameEntry) :=
  (entries s.frp.table).findSome? fun (i, e) =>
    e.bind fun e =>
      if frameMatches port extended ident e && (decide (s.opState ≠ .parked) || e.wake) then some (i, e) else none

/-- The alive counter of a frame (R20, R24). -/
def aliveCounter (place : Nat × Bool) (data : List Byte) : BitVec 4 :=
  let b := data.getD place.1 0
  if place.2 then b.extractLsb' 4 4 else b.extractLsb' 0 4

/-- The outcomes of the alive check (R24). -/
inductive AliveOutcome where
  | base
  | inSequence
  | again
  | jump
deriving DecidableEq, Repr

/-- The outcome for a counter against the reference (R24). -/
def aliveOutcome (ref : Option (BitVec 4)) (counter : BitVec 4) : AliveOutcome :=
  match ref with
  | none => .base
  | some a => if counter = a + 1 then .inSequence else if counter = a then .again else .jump

/-- A frame discarded as a jump (R25). -/
def takeJump (i : Fin 64) (counter : BitVec 4) (s : State) : State :=
  let r := frameRun i s
  let run := satSucc 255 r.seqRun
  let s' := setFrameRun i { r with
      seqRun := run, aliveRef := if 3 ≤ run then some counter else r.aliveRef } s
  if run = 3 then putSequenceFlag i true s' else s'

/-- The alive check (R24, R25): whether the frame passes, and the state after it. -/
def aliveCheck (i : Fin 64) (e : FrameEntry) (data : List Byte) (s : State) : Bool × State :=
  match e.alive with
  | none => (true, s)
  | some place =>
    let counter := aliveCounter place data
    let passed := setFrameRun i { frameRun i s with aliveRef := some counter, seqRun := 0 } s
    match aliveOutcome (frameRun i s).aliveRef counter with
    | .base => (true, passed)
    | .inSequence => (true, putSequenceFlag i false passed)
    | .again => (false, s)
    | .jump => (false, takeJump i counter s)

/-- The timer after an accepted frame (R26). -/
def afterFrame (e : FrameEntry) (s : State) : FrameTimer :=
  if e.timeout = 0 then .untimed else .timed (s.now + 10000 * e.timeout)

/-- An accepted frame restarts the timer, ends a TIMEOUT condition and is extracted (R26). -/
def acceptFrame (i : Fin 64) (e : FrameEntry) (data : List Byte) (s : State) : State :=
  let s' := setFrameRun i { frameRun i s with timer := afterFrame e s } s
  extract i e data (putTimeoutFlag i false s')

/-- A wake frame (R35): unless WAKE is asserted, it asks for WAKE and a STATE event is queued (log entry 21). -/
def wakeFrame (s : State) : State :=
  if s.cli.wake then s else queueEvent (.state .parked .wakeFrame) (assertWake s)

/-- An entry takes a frame: length check, then the wake frame in PARKED, else alive check and acceptance (R23, R35). -/
def takeFrame (i : Fin 64) (e : FrameEntry) (data : List Byte) (s : State) : State :=
  if data.length < e.minLength then putLengthFlag i true s
  else
    let s' := putLengthFlag i false s
    if s.opState = .parked then wakeFrame s'
    else if (aliveCheck i e data s').1 then acceptFrame i e data (aliveCheck i e data s').2
    else (aliveCheck i e data s').2

/-- The rate in force of a vehicle port (R19). -/
def vehicleRate (port : VehiclePort) (s : State) : Rate :=
  match port with
  | .va => s.frp.vaRate
  | .vb => s.frp.vbRate

/-! ### Timers (R33, R34) -/

/-- The time of expiry of a running timer. -/
def frameDue (r : FrameRun) : Option Nat :=
  match r.timer with
  | .firstWait d | .timed d => some d
  | .stopped | .untimed | .lapsed => none

/-- A slot turns STALE at a timeout unless it holds NEVER_RECEIVED (R34). -/
def staleAtTimeout (s : State) (k : Slot) : State :=
  if (s.slot k).quality = .neverReceived then s else qualityWrite k .stale s

/-- The expiry of an entry's timer (R34). -/
def lapse (i : Fin 64) (s : State) : State :=
  let r := frameRun i s
  let s' :=
    match r.timer with
    | .timed _ => setFrameRun i { r with aliveRef := none, timer := .lapsed } ((frameSlots i s).foldl staleAtTimeout s)
    | .stopped | .firstWait _ | .untimed | .lapsed => setFrameRun i { r with aliveRef := none, timer := .lapsed } s
  putTimeoutFlag i true s'

/-! ### Table writes, operating states, reset (R21, R31, R33, R35, R38) -/

/-- The sender-error flags of the named slots cleared without a report. -/
def dropSenderFlags (l : List Slot) (s : State) : State :=
  l.foldl (fun s (k : Slot) => { s with frp := { s.frp with senderErr := s.frp.senderErr.set k false } }) s

/-- An accepted write of a frame entry: its run-time state is cleared, its condition flags too (R21). -/
def writeFrame (i : Fin 64) (e : FrameEntry) (s : State) : State :=
  let s' := setFrameRun i .reset (dropSenderFlags (frameSlots i s) s)
  { s' with frp := { s'.frp with table := s'.frp.table.set i (some e) } }

/-- A slot leaves its producer: its flag is cleared, the end reported if it was the last of its former entry (R31). -/
def leaveProducer (k : Slot) (s : State) : State :=
  match s.signal k with
  | some e =>
    if e.kind = .frame then (toFin? 64 e.index).elim s fun i => putSenderFlag i k false s else s
  | none => s

/-- Entry into RUN from CONFIG or PARKED (R33). -/
def frpEnterRun (s : State) : State :=
  (entries s.frp.table).foldl
    (fun s (i, e) => (e.filter FrameEntry.enabled).elim s fun e =>
      setFrameRun i { frameRun i s with
        timer := .firstWait (s.now + 10000 * e.firstTimeout), aliveRef := none, seqRun := 0 } s) s

/-- A slot of an entry with a timeout turns STALE at entry into PARKED when it is VALID or LIMITED (R35). -/
def staleAtPark (s : State) (k : Slot) : State :=
  if (s.slot k).quality = .valid ∨ (s.slot k).quality = .limited then qualityWrite k .stale s else s

/-- Entry into PARKED (R35). -/
def frpEnterParked (s : State) : State :=
  let timed := slotsWith (fun g => decide (g.kind = .frame) && ((toFin? 64 g.index).bind fun i => s.frp.table[i]).any
    fun e => decide (e.timeout ≠ 0)) s
  timed.foldl staleAtPark
    { s with frp := { s.frp with run := mapTable (fun r => { r with timer := .stopped }) s.frp.run } }

/-- Commanded reset (R38), with the frame-produced slots returned to their never-received records (R17). -/
def frpReset (s : State) : State :=
  let s' := { s with frp := { s.frp with
      run := Vector.replicate 64 .reset, senderErr := Vector.replicate 256 false } }
  (slotsWith (fun g => decide (g.kind = .frame)) s).foldl
    (fun s (k : Slot) => { s with sst := { s.sst with slots := s.sst.slots.set k .unwritten } }) s'

/-- The condition flags set on a frame entry (R36), in the order of the model's choice (log entry 41). -/
def frameConditions (i : Fin 64) (s : State) : List FrameFailure :=
  let r := frameRun i s
  (if r.lengthFlag then [.length] else []) ++ (if r.sequenceFlag then [.sequence] else [])
    ++ (if r.timeoutFlag then [.timeout] else []) ++ if senderErrorPresent i s then [.senderError] else []

/-- The start of every set condition flag of every entry, reported again at the fault memory's request (R36), in an order
that is the model's choice: ascending entries, and `frameConditions` within one (log entry 41). -/
def frameReports (s : State) : List Instr :=
  (indices 64).flatMap fun i => (frameConditions i s).map fun f => .faultConditionStart (.frame i f) (frameClass i s)

/-! ### Commands -/

/-- FRAME_RECEIVED (R22): nothing is received on a port that is OFF, and CONFIG discards every frame. A data length code
of 9 to 15 is taken as 8 bytes (R18). -/
def execFrameReceived (port : VehiclePort) (extended : Bool) (ident : BitVec 29) (dlc : BitVec 4) (data : List Byte)
    (s : State) : Host.Outcome State Fault Refusal :=
  if vehicleRate port s = .off ∨ s.opState = .config then .next s
  else
    match takingEntry port extended ident s with
    | none => .next s
    | some (i, e) => .next (takeFrame i e (data.take (min 8 dlc.toNat)) s)

/-- FRAME_TIMER_EXPIRY (R34). -/
def execFrameTimerExpiry (entry : Fin 64) (s : State) : Host.Outcome State Fault Refusal :=
  if isDue (frameDue (frameRun entry s)) s then .next (lapse entry s) else .next s

end Sys2Proof.Machine
end

