-- ==== Sys2Proof/Machine/Speed.lean ====
section
/-! DEFINITION. The speed and distance unit (chapter 4): the measurement, effective speed and plausibility, distance,
calibration writes, its part in the operating states, and its commands. -/

namespace Sys2Proof.Machine

/-- PULSE_SPEED. -/
def pulseSpeed : Slot := 0

/-- ODOMETER. -/
def odometer : Slot := 2

/-- TRIP_A. -/
def tripA : Slot := 3

/-- TRIP_B. -/
def tripB : Slot := 4

/-- DRIVE_CYCLE. -/
def driveCycle : Slot := 11

/-! ### Effective speed (R70 to R73) -/

/-- The pulse source is usable (R70). -/
def pulseUsable (s : State) : Bool :=
  let q := (s.slot pulseSpeed).quality
  decide (q = .valid) || decide (q = .limited)

/-- The own record of the frame speed slot when the frame source is usable (R70). -/
def frameSource (s : State) : Option SlotRecord :=
  if s.opState.live then
    (frameSpeedSlot s).bind fun i => if (s.slot i).quality.usable then some (s.slot i) else none
  else none

/-- The value and quality of VEHICLE_SPEED by the four cases of R71. -/
def effectiveSpeed (s : State) : Int × Quality :=
  let p := s.slot pulseSpeed
  match frameSource s with
  | none => (p.value, p.quality)
  | some f =>
    if pulseUsable s then
      if s.sdu.implausible && decide (p.value < f.value) then (f.value, f.quality) else (p.value, p.quality)
    else (f.value, .substituted)

/-- The closing test of the calibration window, after a write of VEHICLE_SPEED (R63). -/
def closingTest (s : State) : State :=
  if s.sdu.windowOpen && (s.slot vehicleSpeed).quality.usable && decide (500 ≤ (s.slot vehicleSpeed).value) then
    queueEvent (.windowClosed true) { s with sdu := { s.sdu with windowOpen := false } }
  else s

/-- The qualifying test of the drive cycle, after a write of VEHICLE_SPEED (R78). -/
def qualifyingTest (s : State) : State :=
  if s.opState.live && (s.slot vehicleSpeed).quality.usable && decide (1000 ≤ (s.slot vehicleSpeed).value)
      && decide ((s.slot driveCycle).value ≠ 1) then
    valueWrite driveCycle 1 .valid s
  else s

/-- The plausibility timer runs when both sources are usable and disagree in state ABSENT, or agree in state PRESENT
(R72). -/
def plausRuns (s : State) : Bool :=
  pulseUsable s && (frameSource s).any fun f =>
    let above := decide (((calOf s).tolerance : Int) < |(s.slot pulseSpeed).value - f.value|)
    above != s.sdu.plausPresent

/-- The plausibility check at a re-formation (R72). -/
def advancePlausibility (s : State) : State :=
  { s with sdu := { s.sdu with
      plausFrom := if plausRuns s then some (s.sdu.plausFrom.getD s.now) else none } }

/-- SDU re-forms and writes VEHICLE_SPEED, and makes the three tests that follow the write (R71). -/
def reform (s : State) : State :=
  advancePlausibility
    (qualifyingTest (closingTest (valueWrite vehicleSpeed (effectiveSpeed s).1 (effectiveSpeed s).2 s)))

/-- The fault memory reports the implausible-active indication (R73). -/
def setImplausible (b : Bool) (s : State) : State :=
  if s.sdu.implausible = b then s else reform { s with sdu := { s.sdu with implausible := b } }

/-! ### Rest and the measurement (R65 to R69) -/

/-- The quality of PULSE_SPEED at rest (R65). -/
def restQuality (s : State) : Quality :=
  if s.sdu.cal.isNone then .notAvailable else if s.lsc.senderFault then .lineFault else .valid

/-- The writes that bring PULSE_SPEED to rest (R65; the value write is made too when the quality alone must return to
VALID, R69, log entry 14). -/
def restWrites (s : State) : State :=
  let r := s.slot pulseSpeed
  let s' := if r.value ≠ 0 ∨ (restQuality s = .valid ∧ r.quality ≠ .valid) then valueWrite pulseSpeed 0 .valid s else s
  if restQuality s = .valid then s' else qualityWrite pulseSpeed (restQuality s) s'

/-- PULSE_SPEED stands at rest and no write is needed. -/
def atRest (s : State) : Bool :=
  decide ((s.slot pulseSpeed).value = 0) && decide ((s.slot pulseSpeed).quality = .valid)
    && decide (restQuality s = .valid)

/-- PULSE_SPEED is brought to rest, and VEHICLE_SPEED re-formed after the last of the writes (R65). -/
def bringToRest (s : State) : State := if atRest s then s else reform (restWrites s)

/-- The measurement goes to STOPPED: no window, no bound checks, no standstill timer (R65, R68, R69). -/
def stopMeasurement (s : State) : State :=
  { s with sdu := { s.sdu with meas := .stopped, boundDue := none, standFrom := none } }

/-- The measurement waits for an edge, with no window open (R65). -/
def awaitEdge (s : State) : State := { s with sdu := { s.sdu with meas := .waiting, boundDue := none } }

/-- The line scanner reports a change of the sender-fault indication (R52, R69). -/
def setSenderFault (b : Bool) (s : State) : State :=
  if s.lsc.senderFault = b then s
  else
    let s' := { s with lsc := { s.lsc with senderFault := b } }
    if b then
      if s.opState.live then bringToRest (stopMeasurement s')
      else if s.sdu.cal.isSome then bringToRest s' else s'
    else if s.opState.live then bringToRest (awaitEdge s') else bringToRest s'

/-- Standstill (R68). -/
def takeStandstill (s : State) : State :=
  let s' := { s with sdu := { s.sdu with standFrom := none } }
  match s.sdu.meas with
  | .opened _ _ => bringToRest (awaitEdge s')
  | .stopped | .waiting => bringToRest s'

/-- The time since the last accepted edge has reached the standstill timeout (R68). -/
def standstillDue (s : State) : Bool :=
  s.sdu.standFrom.any fun t => decide (t + 10000 * (calOf s).standstill ≤ s.now)

/-! ### Distance (R74, R75) -/

/-- One step of 10 m (R75). -/
def distanceStep (s : State) : State :=
  let s1 :=
    if s.sdu.loadUsed then
      if (s.slot odometer).value < 999999999 then valueWrite odometer ((s.slot odometer).value + 1) .valid s else s
    else { s with sdu := { s.sdu with preload := satSucc 999999999 s.sdu.preload } }
  let trip (i : Slot) (s : State) : State :=
    valueWrite i (if (s.slot i).value < 9999999 then (s.slot i).value + 1 else 0) .valid s
  trip tripB (trip tripA s1)

/-- An accepted edge adds 100 to the residue, and a full residue makes a step (R74). -/
def addDistance (s : State) : State :=
  let r := s.sdu.residue + 100
  let kd := (calOf s).kd
  if kd ≤ r then distanceStep { s with sdu := { s.sdu with residue := r - kd } }
  else { s with sdu := { s.sdu with residue := r } }

/-- The speed of a window of `n` periods over `t` microseconds, before the limit (R66). -/
def windowSpeed (kd n t : Nat) : Nat := (n * 360000000000 + kd * t / 2) / (kd * t)

/-- The value write that closes a window: above 25,000 it is 25,000 LIMITED (R66). -/
def writeWindow (v : Nat) (s : State) : State :=
  if 25000 < v then valueWrite pulseSpeed 25000 .limited s else valueWrite pulseSpeed v .valid s

/-- An accepted edge acts on the measurement (R65, R66). -/
def measureEdge (s : State) : State :=
  match s.sdu.meas with
  | .stopped => s
  | .waiting => { s with sdu := { s.sdu with meas := .opened s.now 0, boundDue := some (s.now + 10000) } }
  | .opened t0 n =>
    if s.now < t0 + 10000 * (calOf s).window then { s with sdu := { s.sdu with meas := .opened t0 (n + 1) } }
    else
      reform (writeWindow (windowSpeed (calOf s).kd (n + 1) (s.now - t0))
        { s with sdu := { s.sdu with meas := .opened s.now 0 } })

/-- An edge less than the filter width after the last accepted one is ignored (R64). -/
def edgeFiltered (s : State) : Bool :=
  s.sdu.filterRef.any fun t => decide (s.now < t + (calOf s).filter)

/-- An accepted edge: distance, measurement, standstill timer (R64). -/
def acceptEdge (s : State) : State :=
  let s' := measureEdge (addDistance { s with sdu := { s.sdu with filterRef := some s.now } })
  { s' with sdu := { s'.sdu with standFrom := some s'.now } }

/-- The highest speed consistent with `t` microseconds without an edge (R67). -/
def speedBound (kd t : Nat) : Nat := 360000000000 / (kd * t)

/-- A bound check lowers PULSE_SPEED to the bound, or leaves it (R67). -/
def checkBound (s : State) : State :=
  let t := s.now - s.sdu.filterRef.getD s.now
  let b := speedBound (calOf s).kd t
  if t ≠ 0 ∧ (b : Int) < (s.slot pulseSpeed).value then reform (valueWrite pulseSpeed b .valid s) else s

/-! ### Calibration (R60 to R63) -/

/-- The calibration window closes by a record; closed, it stays (R63). -/
def closeWindow (s : State) : State :=
  if s.sdu.windowOpen then queueEvent (.windowClosed false) { s with sdu := { s.sdu with windowOpen := false } } else s

/-- A write of distance constant, measurement window or filter width abandons an open window and clears the residue
(R62). -/
def abandonWindow (s : State) : State :=
  let s' := { s with sdu := { s.sdu with residue := 0 } }
  match s.sdu.meas with
  | .opened _ _ => awaitEdge s'
  | .stopped | .waiting => s'

/-- The three groups of fields of R62. -/
inductive CalGroup where
  | measuring
  | standstill
  | plausibility
deriving DecidableEq, Repr

/-- The group of a field. -/
def CalField.group : CalField → CalGroup
  | .distance | .filter | .window => .measuring
  | .standstill => .standstill
  | .frameSlot | .tolerance | .plausTime => .plausibility

/-- The code of a field (section 12.2). -/
def CalField.code : CalField → Nat
  | .distance => 0 | .filter => 1 | .window => 2 | .standstill => 3 | .frameSlot => 4 | .tolerance => 5
  | .plausTime => 6

/-- What an accepted write does to the state of SDU, by the groups of the fields written (R62, R65, R71). -/
def actOnWrite (groups : List CalGroup) (wasLoaded : Bool) (s : State) : State :=
  let s1 := if groups.contains .measuring then abandonWindow s else s
  let s2 := if groups.contains .standstill && standstillDue s1 then takeStandstill s1 else s1
  let s3 := if groups.contains .plausibility then { s2 with sdu := { s2.sdu with plausFrom := none } } else s2
  reform (if wasLoaded then s3 else restWrites s3)

/-- An accepted calibration write: the entry, CAL_CHANGED, and its effects (R60, R61). -/
def writeCalibration (e : CalEntry) (code : Nat) (origin : Origin) (groups : List CalGroup) (s : State) : State :=
  actOnWrite groups s.sdu.cal.isSome
    (queueEvent (.calChanged code origin) { s with sdu := { s.sdu with cal := some e } })

/-- An accepted odometer load (R76). -/
def loadOdometer (v : Nat) (s : State) : State :=
  valueWrite odometer (min 999999999 (v + s.sdu.preload) : Nat) .valid
    { s with sdu := { s.sdu with residue := 0, loadUsed := true } }

/-- The reported plausibility state PRESENT, reported again at the fault memory's request (R72). -/
def speedReports (s : State) : List Instr := if s.sdu.plausPresent then [.faultConditionStart .speed 0] else []

/-! ### Operating states and reset (R78, R79, R81) -/

/-- Entry into RUN from CONFIG or PARKED (R79). -/
def sduEnterRun (s : State) : State :=
  let s' := { s with sdu := { s.sdu with filterRef := none, plausFrom := none } }
  reform (if s.lsc.senderFault then stopMeasurement s' else awaitEdge s')

/-- A qualified drive cycle is reported to the fault memory, and DRIVE_CYCLE written 0 (R78). -/
def endDriveCycle (s : State) : State :=
  let s' := valueWrite driveCycle 0 .valid s
  if (s.slot driveCycle).value = 1 then post [.agingPass] s' else s'

/-- Entry into PARKED (R79). -/
def sduEnterParked (s : State) : State :=
  endDriveCycle (reform (restWrites (stopMeasurement { s with sdu := { s.sdu with plausFrom := none } })))

/-- Commanded reset (R81). -/
def sduReset (s : State) : State :=
  let q : Quality := if s.sdu.cal.isSome then .valid else .notAvailable
  let s1 := stopMeasurement { s with sdu := { s.sdu with
      filterRef := none, plausPresent := false, plausFrom := none, implausible := false } }
  let s2 := valueWrite vehicleSpeed 0 q (valueWrite pulseSpeed 0 q s1)
  let s3 :=
    if s.sdu.cal.isSome && s.lsc.senderFault then
      valueWrite vehicleSpeed 0 .lineFault (qualityWrite pulseSpeed .lineFault s2)
    else s2
  valueWrite driveCycle 0 .valid s3

/-! ### What the outside reads (R82) -/

/-- The own record of a slot in READ_SPEED: value, quality, age (R198). -/
def recordBytes (r : SlotRecord) (now : Nat) : List Byte := eInt32 r.value ++ e8 r.quality.code ++ e16 (r.age now)

/-- The period count n in READ_SPEED's 2 bytes; a count they cannot hold is open (log entry 10). -/
def countBytes (n : Nat) : List Byte := if n < 65536 then e16 n else e16 (Config.wideCount n).toNat

/-- The payload of READ_SPEED (R82, R198). -/
def speedBytes (s : State) : List Byte :=
  recordBytes (s.slot pulseSpeed) s.now
    ++ (frameSpeedSlot s).elim (eInt32 0 ++ e8 0xFF ++ e16 0) (fun i => recordBytes (s.slot i) s.now)
    ++ recordBytes (s.slot vehicleSpeed) s.now ++ e8 s.sdu.meas.code
    ++ (match s.sdu.meas with
        | .opened t0 n => countBytes n ++ e32 (s.now - t0)
        | .stopped | .waiting => e16 0 ++ e32 0)
    ++ e16 s.sdu.residue ++ eFlags [s.sdu.plausPresent, s.sdu.implausible, s.sdu.windowOpen]

/-! ### Commands -/

/-- PI_EDGE (R64): ignored in CONFIG and PARKED, and within the filter width. -/
def execPiEdge (s : State) : Host.Outcome State Fault Refusal :=
  if s.opState.live && !edgeFiltered s then .next (acceptEdge s) else .next s

/-- BOUND_CHECK (R67), on its own 10 ms timer while a window is open. -/
def execBoundCheck (s : State) : Host.Outcome State Fault Refusal :=
  match s.sdu.boundDue with
  | some d =>
    if d ≤ s.now then .next (checkBound { s with sdu := { s.sdu with boundDue := some (d + 10000) } }) else .next s
  | none => .next s

/-- STANDSTILL_TIMER_EXPIRY (R68). -/
def execStandstillTimerExpiry (s : State) : Host.Outcome State Fault Refusal :=
  if standstillDue s then .next (takeStandstill s) else .next s

/-- PLAUSIBILITY_TIMER_EXPIRY (R72). -/
def execPlausibilityTimerExpiry (s : State) : Host.Outcome State Fault Refusal :=
  if s.sdu.plausFrom.any fun t => decide (t + 10000 * (calOf s).plausTime ≤ s.now) then
    .next (post [if s.sdu.plausPresent then .faultConditionEnd .speed 0 else .faultConditionStart .speed 0]
      { s with sdu := { s.sdu with plausPresent := !s.sdu.plausPresent, plausFrom := none } })
  else .next s

/-- FRAME_SPEED_NOTIFICATION (R70, R71). -/
def execFrameSpeedNotification (s : State) : Host.Outcome State Fault Refusal :=
  .next (reform (takeArrival .frameSpeedNotification s))

end Sys2Proof.Machine
end

