-- ==== Sys2Proof/Machine/Scanner.lean ====
section
/-! DEFINITION. The line scanner (chapter 3): readings, debouncing, the acceptance of a reading, curves, the scan list
and its passes, table writes, and its commands. -/

namespace Sys2Proof.Machine

/-! ### Readings and counts (R44, R45) -/

/-- The band of a code by the four thresholds (section 3.3); t2 and t3 do not apply to ANALOG. -/
def band (e : LineEntry) (code : Nat) : Fin 5 :=
  if code < e.t1 then 0 else if e.t4 ≤ code then 4
  else if code < e.t2 then 1 else if code < e.t3 then 2 else 3

/-- The reading of a sample (R44). -/
def classify (e : LineEntry) (code : Nat) : Reading :=
  match e.cls, band e code with
  | .switchGnd, 0 => .shortGnd
  | .switchGnd, 1 => .active
  | .switchGnd, 2 => .inactive
  | .switchGnd, 3 => .openCircuit
  | .switchGnd, 4 => .shortSupply
  | .switchSupply, 0 => .shortGnd
  | .switchSupply, 1 => .inactive
  | .switchSupply, 2 => .active
  | .switchSupply, 3 => .openCircuit
  | .switchSupply, 4 => .shortSupply
  | .analog, 0 => .shortGnd
  | .analog, 4 => .openCircuit
  | .analog, _ => .value
  | .pulseSense, 0 => .shortGnd
  | .pulseSense, 4 => .openCircuit
  | .pulseSense, _ => .senderOk

/-- The count of a time in 10 ms units, for `k` scan slots of a list of `len` (R45). -/
def countFor (k len time : Nat) : Nat := min 255 (max 1 ((4 * k * (10 * time) + len - 1) / len))

/-- The number of scan slots that name the line, and the list's length; SL0 alone counts as 1 of 4 while the scan table
is unloaded (R45). -/
def scanShare (line : Fin 48) (s : State) : Nat × Nat :=
  match s.lsc.scan with
  | some l => (l.count line, l.length)
  | none => (if line.val = 0 then 1 else 0, 4)

/-- The debounce count of a line (R45, R53). -/
def debounceCount (line : Fin 48) (s : State) : Nat :=
  match s.lsc.table[line] with
  | some e => countFor (scanShare line s).1 (scanShare line s).2 e.debounce
  | none => 20

/-- The fault count of a line (R45, R53). -/
def faultCount (line : Fin 48) (s : State) : Nat :=
  match s.lsc.table[line] with
  | some e => countFor (scanShare line s).1 (scanShare line s).2 e.faultDebounce
  | none => 20

/-! ### Curves (R51) -/

/-- An exact quotient rounded to the nearest integer, halves away from zero. -/
def roundDiv (a : Int) (b : Nat) : Int :=
  let q : Int := ((2 * a.natAbs + b) / (2 * b) : Nat)
  if a < 0 then -q else q

/-- A value limited into the signed 32-bit range, LIMITED when it lay beyond. -/
def limit32 (v : Int) : Int × Quality :=
  (clampInt i32Min i32Max v, if v < i32Min ∨ i32Max < v then .limited else .valid)

/-- The conversion along the points from `p` on; `p` is the last point not above the code. -/
def alongCurve (code : Nat) (p : Nat × Int) : List (Nat × Int) → Int × Quality
  | [] => if code = p.1 then (p.2, .valid) else (p.2, .limited)
  | q :: rest =>
    if q.1 ≤ code then alongCurve code q rest
    else if code = p.1 then (p.2, .valid)
    else limit32 (p.2 + roundDiv ((code - p.1 : Nat) * (q.2 - p.2)) (q.1 - p.1))

/-- A code converted through a curve (R51). -/
def convert (c : Curve) (code : Nat) : Int × Quality :=
  match c.points with
  | [] => (0, .limited)
  | p :: rest => if code < p.1 then (p.2, .limited) else alongCurve code p rest

/-- The curve in force at an index (R50). -/
def curveOf (i : Fin 16) (s : State) : Curve := s.lsc.curves[i].getD .unloaded

/-! ### The debounced line (R46 to R52) -/

/-- The run-time state of a line replaced. -/
def setLine (line : Fin 48) (r : LineRun) (s : State) : State :=
  { s with lsc := { s.lsc with lines := s.lsc.lines.set line r } }

/-- A value write to every slot the line produces, each under its own entry (R54). -/
def writeSlots (l : List Slot) (v : Int) (q : Quality) (s : State) : State :=
  l.foldl (fun s i => valueWrite i v q s) s

/-- A quality-only write to every slot the line produces. -/
def markSlots (l : List Slot) (q : Quality) (s : State) : State :=
  l.foldl (fun s i => qualityWrite i q s) s

/-- The sample's curve value becomes the line's current curve value and is written (R49). -/
def writeCurveValue (line : Fin 48) (e : LineEntry) (code : Nat) (s : State) : State :=
  let v := convert (curveOf e.curve s) code
  writeSlots (lineSlots line s) v.1 v.2 (setLine line { s.lsc.lines[line] with curveValue := some v } s)

/-- The state a switch line takes from ACTIVE or INACTIVE (R47). -/
def switchState (e : LineEntry) (active : Bool) : Bool := active != e.inverted

/-- A switch line's state is set and written (R47). -/
def writeSwitch (line : Fin 48) (e : LineEntry) (active : Bool) (s : State) : State :=
  let b := switchState e active
  writeSlots (lineSlots line s) (bitNat b) .valid (setLine line { s.lsc.lines[line] with state := some b } s)

/-- Some PULSE_SENSE line has a fault reading as its accepted reading (R52). -/
def senderFaultNow (s : State) : Bool :=
  (indices 48).any fun l =>
    (s.lsc.table[l].any fun e => decide (e.cls = .pulseSense)) && s.lsc.lines[l].accepted.any Reading.isFault

/-- The sender-fault indication is re-formed (R52). -/
def reformIndication (s : State) : State := setSenderFault (senderFaultNow s) s

/-- What an accepted reading does for the line's class, after the fault condition of the reading before has ended (R47,
R48, R49, R52). -/
def actOnReading (line : Fin 48) (e : LineEntry) (x : Reading) (code : Nat) (s : State) : State :=
  match x with
  | .active => writeSwitch line e true s
  | .inactive => writeSwitch line e false s
  | .value => writeCurveValue line e code s
  | .senderOk => writeSlots (lineSlots line s) 1 .valid s
  | .shortGnd | .openCircuit | .shortSupply =>
    markSlots (lineSlots line s) .lineFault
      (post ((lineFault line s).toList.map fun (c, cls) => .faultConditionStart c cls) s)

/-- A reading is accepted (R46): the condition of the reading before ends, the new reading acts, and on a PULSE_SENSE
line the indication is re-formed (R52), after the writes to the line's slots: the model's choice (log entry 49). -/
def accept (line : Fin 48) (e : LineEntry) (x : Reading) (code : Nat) (s : State) : State :=
  let ended := (lineFault line s).toList.map fun (c, cls) => .faultConditionEnd c cls
  let s' := actOnReading line e x code
    (setLine line { s.lsc.lines[line] with accepted := some x, candidate := none } (post ended s))
  if e.cls = .pulseSense then reformIndication s' else s'

/-- The required count of a reading (R46). -/
def requiredCount (line : Fin 48) (x : Reading) (s : State) : Nat :=
  if x.isFault then faultCount line s else debounceCount line s

/-- The run of a candidate with one more sample of reading `x`. -/
def nextRun (x : Reading) : Option (Reading × Nat) → Nat
  | some (y, n) => if x = y then n + 1 else 1
  | none => 1

/-- A classified sample (R46). -/
def takeReading (line : Fin 48) (e : LineEntry) (x : Reading) (code : Nat) (s : State) : State :=
  let r := s.lsc.lines[line]
  if r.accepted = some x then
    let s' := setLine line { r with candidate := none } s
    if x = .value then writeCurveValue line e code s' else s'
  else if x = .value ∧ r.accepted = none then accept line e x code s
  else if requiredCount line x s ≤ nextRun x r.candidate then accept line e x code s
  else setLine line { r with candidate := some (x, nextRun x r.candidate) } s

/-- A sample of a line (R39, R43): the last code, and the classified sample where the line has settings. -/
def sampleLine (line : Fin 48) (code : BitVec 10) (s : State) : State :=
  let s' := setLine line { s.lsc.lines[line] with lastCode := some code } s
  match lineInForce line s with
  | none => s'
  | some e => takeReading line e (classify e code.toNat) code.toNat s'

/-! ### The scan list (R40, R41, R55) -/

/-- The list being played. -/
def scanList (s : State) : List (Fin 48) := s.lsc.scan.getD scanUnloaded

/-- The time of one scan slot in continuous play (R40, R41). -/
def slotTime (s : State) : Nat := if s.lsc.scan.isSome then 250 else 1000

/-- Continuous play starts at scan slot 0 (R41), whose sample comes at its end: for an unloaded list, 1 ms later by the
model's choice (log entry 42). -/
def startPlay (s : State) : State :=
  { s with lsc := { s.lsc with scanPos := 0, scanDue := some (s.now + slotTime s), passDue := none } }

/-- The line is sampled in PARKED (R55). -/
def sampledParked (s : State) (line : Fin 48) : Bool :=
  decide (line.val = 0) || s.lsc.table[line].any LineEntry.parked

/-- The first scan slot from `pos` on whose line is sampled in PARKED. -/
def nextParked (s : State) (pos : Nat) : Option Nat :=
  ((scanList s).drop pos).findIdx? (sampledParked s) |>.map (· + pos)

/-- The pass goes on at the first sampled scan slot from `pos` on, 250 microseconds after `from`, or ends (R55). -/
def goOnPass (pos time : Nat) (s : State) : State :=
  { s with lsc := { s.lsc with
      scanPos := (nextParked s pos).getD 0, scanDue := (nextParked s pos).map fun _ => time + 250 } }

/-- A pass starts, the next 100 ms after it (R55). -/
def startPass (time : Nat) (s : State) : State :=
  goOnPass 0 time { s with lsc := { s.lsc with passDue := some (time + 100000) } }

/-- After the scan slot that ended at `time`, play passes to the next one. -/
def nextScanSlot (time : Nat) (s : State) : State :=
  if s.opState = .parked then goOnPass (s.lsc.scanPos + 1) time s
  else
    let pos := if s.lsc.scanPos + 1 < (scanList s).length then s.lsc.scanPos + 1 else 0
    { s with lsc := { s.lsc with scanPos := pos, scanDue := some (time + slotTime s) } }

/-- The return from PARKED, by IGNITION or by RESET (R41, R58). -/
def lscLeaveParked (s : State) : State := startPlay s

/-- Entry into PARKED (R55). -/
def lscEnterParked (s : State) : State := startPass s.now s

/-- The start of every line whose accepted reading is a fault reading (R48), in ascending lines: the model's choice (log
entry 41). -/
def lineReports (s : State) : List Instr :=
  (indices 48).filterMap fun l => (lineFault l s).map fun (code, cls) => .faultConditionStart code cls

/-- Entry into RUN: from CONFIG every faulted line is reported again (R48), from PARKED continuous play restarts. -/
def lscEnterRun (fromParked : Bool) (s : State) : State :=
  if fromParked then lscLeaveParked s else post (lineReports s) s

/-! ### Table writes (R40, R43, R50, R54) -/

/-- An accepted write of the scan list (R40). -/
def writeScan (l : List (Fin 48)) (s : State) : State :=
  startPlay { s with lsc := { s.lsc with
    scan := some l, lines := mapTable (fun r => { r with candidate := none }) s.lsc.lines } }

/-- An accepted write of a line entry (R43). -/
def writeLine (line : Fin 48) (e : LineEntry) (s : State) : State :=
  let s1 := post ((lineFault line s).toList.map fun (c, cls) => .faultConditionEnd c cls) s
  let s2 := setLine line ⟨s.lsc.lines[line].lastCode, none, none, none, none⟩ s1
  reformIndication { s2 with lsc := { s2.lsc with table := s2.lsc.table.set line (some e) } }

/-- An accepted write of a curve (R50). -/
def writeCurve (i : Fin 16) (c : Curve) (s : State) : State :=
  { s with lsc := { s.lsc with curves := s.lsc.curves.set i (some c) } }

/-- The value a line holds for its slots: the state of a switch line, 1 of a PULSE_SENSE line that reads SENDER_OK, the
current curve value (R54). -/
def heldValue (r : LineRun) : Option (Int × Quality) :=
  match r.state with
  | some b => some (bitNat b, .valid)
  | none => r.curveValue

/-- A slot newly attached to a line is brought up to date from the line's standing (R54). -/
def attachSlot (i : Slot) (line : Fin 48) (s : State) : State :=
  let r := s.lsc.lines[line]
  let writeHeld (s : State) : State := (heldValue r).elim s fun v => valueWrite i v.1 v.2 s
  if s.lsc.table[line].isNone then s
  else
    match r.accepted with
    | none => s
    | some .active | some .inactive | some .value => writeHeld s
    | some .senderOk => valueWrite i 1 .valid s
    | some .shortGnd | some .openCircuit | some .shortSupply => qualityWrite i .lineFault (writeHeld s)

/-! ### What the outside reads (R57) -/

/-- The state byte of READ_LINE (R198). -/
def lineStateByte (line : Fin 48) (s : State) : List Byte :=
  let r := s.lsc.lines[line]
  match (lineInForce line s).map LineEntry.cls with
  | some .switchGnd | some .switchSupply => e8 (r.state.elim 0xFF bitNat)
  | some .pulseSense => e8 (if r.accepted = some .senderOk then 1 else 0xFF)
  | some .analog | none => e8 0xFF

/-- The payload of READ_LINE (R57, R198). -/
def lineBytes (line : Fin 48) (s : State) : List Byte :=
  let r := s.lsc.lines[line]
  e16 (r.lastCode.elim 0xFFFF BitVec.toNat) ++ e8 (r.accepted.elim 0xFF Reading.code) ++ lineStateByte line s
    ++ r.curveValue.elim (eInt32 0 ++ e8 0xFF) fun v => eInt32 v.1 ++ e8 v.2.code

/-! ### Commands -/

/-- SCAN_SLOT_EXPIRY (R41, R55): the line of the scan slot is sampled, its code read from the converter, and play passes
on. -/
def execScanSlotExpiry (code : BitVec 10) (s : State) : Host.Outcome State Fault Refusal :=
  match s.lsc.scanDue with
  | none => .next s
  | some d =>
    if d ≤ s.now then
      .next (nextScanSlot d
        (match (scanList s)[s.lsc.scanPos]? with
          | some line => sampleLine line code s
          | none => s))
    else .next s

/-- PARKED_PASS_START (R55). -/
def execParkedPassStart (s : State) : Host.Outcome State Fault Refusal :=
  match s.lsc.passDue with
  | none => .next s
  | some d => if d ≤ s.now then .next (startPass d s) else .next s

end Sys2Proof.Machine
end

