-- ==== Sys2Proof/Machine/Warnings.lean ====
section
/-! DEFINITION. The warning unit (chapter 6): truth and condition, the state machine, the active list, writes and
operating states, telltales, and its commands. -/

namespace Sys2Proof.Machine

/-- ACTIVE_WARNINGS. -/
def activeWarnings : Slot := 9

/-- The loaded entry. -/
def warnEntry (i : Fin 96) (s : State) : Option WarnEntry := s.wrn.table[i]

/-- The run-time state of an entry. -/
def warnRun (i : Fin 96) (s : State) : WarnRun := s.wrn.run[i]

/-- The run-time state of an entry replaced. -/
def setWarnRun (i : Fin 96) (r : WarnRun) (s : State) : State :=
  { s with wrn := { s.wrn with run := s.wrn.run.set i r } }

/-- The entry is loaded and enabled. -/
def warnEnabled (i : Fin 96) (s : State) : Bool := (warnEntry i s).elim false WarnEntry.enabled

/-! ### The active list (R112) -/

/-- The entry stands in the active list. -/
def inActiveList (s : State) (i : Fin 96) : Bool := warnEnabled i s && (warnRun i s).state.inList

/-- The four keys of an entry, the first deciding: severity, acknowledgement, rank, join sequence. -/
def listKey (s : State) (i : Fin 96) : List Nat :=
  let e := (warnEntry i s).getD .unloaded
  let r := warnRun i s
  [e.severity.code, bitNat (!r.state.unacked), e.rank, r.join]

/-- An entry put in its place in a list ordered by the keys. -/
def insertByKey (s : State) (i : Fin 96) : List (Fin 96) → List (Fin 96)
  | [] => [i]
  | j :: l => if listKey s i < listKey s j then i :: j :: l else j :: insertByKey s i l

/-- The active list in its order. -/
def activeList (s : State) : List (Fin 96) :=
  ((indices 96).filter (inActiveList s)).foldr (insertByKey s) []

/-- The top warning. -/
def topWarning (s : State) : Option (Fin 96) := (activeList s).head?

/-- The number of entries in the list. -/
def listLength (s : State) : Nat := (indices 96).countP (inActiveList s)

/-- The list's entries renumbered from 0 upward in the order of their join sequences, the counter at their number. -/
def renumber (s : State) : State :=
  let place (i : Fin 96) : Nat :=
    (indices 96).countP fun j => inActiveList s j && decide ((warnRun j s).join < (warnRun i s).join)
  let run := (indices 96).foldl
    (fun run i => if inActiveList s i then run.set i { run[i] with join := place i } else run) s.wrn.run
  { s with wrn := { s.wrn with run, joinCounter := listLength s } }

/-- An entry joins: it takes the counter's value, and the counter advances, or the list is renumbered. -/
def joinList (i : Fin 96) (s : State) : State :=
  let c := s.wrn.joinCounter
  let s' := setWarnRun i { warnRun i s with join := c } s
  if c < 65535 then { s' with wrn := { s'.wrn with joinCounter := c + 1 } } else renumber s'

/-- ACTIVE_WARNINGS follows a change of the list's length (R113). -/
def writeLength (before : Nat) (s : State) : State :=
  if listLength s = before then s else valueWrite activeWarnings (listLength s : Nat) .valid s

/-- The WARNING event of an entry as it stands (R107). -/
def warningEvent (i : Fin 96) (s : State) : Event :=
  .warning i (warnRun i s).state (warnRun i s).unknown (decide (topWarning s = some i))

/-- A change of the top warning after a change of entry `i` (R112): a new top warning other than `i` is told by an event
of its own. -/
def reportTop (i : Fin 96) (s : State) : State :=
  if topWarning s = s.wrn.reportedTop then s
  else
    let s' := { s with wrn := { s.wrn with reportedTop := topWarning s } }
    match topWarning s with
    | none => s'
    | some j => if j = i then s' else queueEvent (warningEvent j s') s'

/-- The chime request of an entry follows its entries into and its leavings of ON_UNACK (R116). -/
def chimeNotices (i : Fin 96) (chime : Option (Fin 8)) (old new : WarnState) : List Instr :=
  match chime with
  | none => []
  | some p =>
    if old = .onUnack then (if new = .onUnack then [] else [.requestWithdrawal (.warning i)])
    else if new = .onUnack then [.requestPlacing (.warning i) p] else []

/-- An entry takes the run-time state `r`; the list, ACTIVE_WARNINGS, the chime request, the entry's own event (when
`tell`) and the top follow (R104, R107, R112, R113, R116). `chime` is the pattern of the entry that made the change. -/
def changeRun (i : Fin 96) (r : WarnRun) (chime : Option (Fin 8)) (tell : Bool) (s : State) : State :=
  let old := warnRun i s
  let s1 := setWarnRun i r s
  let s2 := if !old.state.inList && inActiveList s1 i then joinList i s1 else s1
  let s3 := post (chimeNotices i chime old.state r.state) (writeLength (listLength s) s2)
  reportTop i (if tell then queueEvent (warningEvent i s3) s3 else s3)

/-! ### The state machine (R104 to R106) -/

/-- The time a state loads at its entry (R104): acknowledging an OFF_DELAY lets its timer run on (R106). -/
def loadedTimer (e : WarnEntry) (old : WarnRun) (new : WarnState) (s : State) : Option Nat :=
  match new with
  | .onDelay => some (s.now + 10000 * e.onDelay)
  | .onAck => if e.reminder = 0 then none else some (s.now + 1000000 * e.reminder)
  | .offDelayUnacked => some (s.now + 10000 * e.offDelay)
  | .offDelayAcked => if old.state = .offDelayUnacked then old.timer else some (s.now + 10000 * e.offDelay)
  | .off | .onUnack | .latchedUnack => none

/-- An enabled entry changes its state. A passage from OFF sets the observed flag (R108). -/
def changeState (i : Fin 96) (e : WarnEntry) (new : WarnState) (s : State) : State :=
  let r := warnRun i s
  if r.state = new then s
  else
    changeRun i { r with state := new, timer := loadedTimer e r new s, observed := r.observed || r.state = .off }
      e.chime true s

/-- ON_UNACK, or ON_ACK when ack-required is clear. -/
def shown (e : WarnEntry) : WarnState := if e.ackRequired then .onUnack else .onAck

/-- The state after the condition has become `cond` (R104). -/
def onCondition (e : WarnEntry) (cond : Bool) (st : WarnState) : WarnState :=
  if cond then
    match st with
    | .off => if e.onDelay = 0 then shown e else .onDelay
    | .offDelayUnacked | .latchedUnack => .onUnack
    | .offDelayAcked => .onAck
    | .onDelay | .onUnack | .onAck => st
  else
    match st with
    | .onDelay => .off
    | .onUnack => if e.latch then .latchedUnack else if e.offDelay = 0 then .off else .offDelayUnacked
    | .onAck => if e.offDelay = 0 then .off else .offDelayAcked
    | .off | .offDelayUnacked | .offDelayAcked | .latchedUnack => st

/-- The state after the entry timer has expired (R105). -/
def onExpiry (e : WarnEntry) (st : WarnState) : WarnState :=
  match st with
  | .onDelay => shown e
  | .offDelayUnacked | .offDelayAcked => .off
  | .onAck => .onUnack
  | .off | .onUnack | .latchedUnack => st

/-- The state after an acknowledgement (R106). -/
def onAcknowledge (st : WarnState) : WarnState :=
  match st with
  | .onUnack => .onAck
  | .offDelayUnacked => .offDelayAcked
  | .latchedUnack => .off
  | .off | .onDelay | .onAck | .offDelayAcked => st

/-- One entry is acknowledged. -/
def acknowledge (i : Fin 96) (s : State) : State :=
  match warnEntry i s with
  | none => s
  | some e => if e.enabled then changeState i e (onAcknowledge (warnRun i s).state) s else s

/-! ### Truth and condition (R100 to R103) -/

/-- The hysteresis of R100 with the two crossings given; an absent truth becomes false between the thresholds. -/
def hysteresis (truth : Option Bool) (becomesTrue becomesFalse : Bool) : Bool :=
  if becomesTrue then true else if becomesFalse then false else truth.getD false

/-- The truth of a signal kind from a usable value (R100, R101). -/
def usableTruth (e : WarnEntry) (truth : Option Bool) (v : Int) : Bool :=
  match e.kind with
  | .signalAbove => hysteresis truth (e.setThr ≤ v) (v ≤ e.clearThr)
  | .signalBelow => hysteresis truth (v ≤ e.setThr) (e.clearThr ≤ v)
  | .signalMask => decide (BitVec.ofInt 32 v &&& e.mask = e.pattern)
  | .signalLost | .faultClass => false

/-- The truth and the unknown mark when the source is unusable (R102). -/
def lostTruth (e : WarnEntry) (truth : Option Bool) : Bool × Bool :=
  match e.loss with
  | .hold => (truth.getD false, true)
  | .assert => (true, false)
  | .release => (false, false)

/-- The fault memory holds an ACTIVE record of the class (R101). -/
def classActive (cls : Nat) (s : State) : Bool :=
  s.flt.records.any fun r => r.active && decide (r.cls.val = cls)

/-- Truth and unknown mark of an evaluation (R100 to R102). -/
def formTruth (e : WarnEntry) (truth : Option Bool) (s : State) : Bool × Bool :=
  let read := effRead e.source s
  match e.kind with
  | .signalLost => (!read.2.usable, false)
  | .faultClass => (classActive e.sourceClass s, false)
  | .signalAbove | .signalBelow | .signalMask =>
    if read.2.usable then (usableTruth e truth read.1, false) else lostTruth e truth

/-- The gate is satisfied (R103). -/
def gateSatisfied (e : WarnEntry) (s : State) : Bool :=
  e.gate.all fun g =>
    let read := effRead g.slot s
    !read.2.usable || (if g.below then decide (read.1 < g.threshold) else decide (g.threshold ≤ read.1))

/-- The change of the unknown mark of an enabled entry is told by an event of its own (R102, R107, log entry 15). -/
def tellMark (i : Fin 96) (before : Bool) (s : State) : State :=
  if (warnRun i s).unknown = before then s else queueEvent (warningEvent i s) s

/-- An evaluation (R99): truth, mark and condition, then the observed flag of a disabled entry (R108) or the state of an
enabled one (R104). -/
def evaluate (fresh : Bool) (i : Fin 96) (s : State) : State :=
  match warnEntry i s with
  | none => s
  | some e =>
    let r := warnRun i s
    let t := formTruth e r.truth s
    let cond := t.1 && gateSatisfied e s
    let turned := cond && (fresh || !r.cond)
    let s' := setWarnRun i { r with
        truth := some t.1, unknown := t.2, cond, observed := r.observed || (!e.enabled && turned) } s
    if e.enabled then
      let s'' := tellMark i r.unknown s'
      if cond = r.cond then s'' else changeState i e (onCondition e cond r.state) s''
    else s'

/-- The source slot is produced by a line sampled in PARKED (R99). -/
def parkedSource (i : Slot) (s : State) : Bool :=
  decide (i = ignition) || (!isInternal i && (s.signal i).any fun e =>
    decide (e.kind = .line) && (decide (e.index = 0)
      || ((toFin? 48 e.index).bind fun l => s.lsc.table[l]).any LineEntry.parked))

/-- A parked entry (R99). -/
def parkedEntry (e : WarnEntry) (s : State) : Bool :=
  decide (e.severity = .red) && decide (e.kind ≠ .faultClass) && parkedSource e.source s

/-- The entry is evaluated in the present operating state (R99). -/
def evaluated (e : WarnEntry) (s : State) : Bool :=
  match s.opState with
  | .run | .sweep => true
  | .parked => parkedEntry e s
  | .config => false

/-- The entries that pass the test are evaluated, in ascending index, each whole before the next (R99). -/
def evaluateWhere (fresh : Bool) (test : WarnEntry → State → Bool) (s : State) : State :=
  (indices 96).foldl (fun s i => if (warnEntry i s).any fun e => test e s then evaluate fresh i s else s) s

/-- A notification of a slot (R99). -/
def evaluateSlot (i : Slot) (s : State) : State := evaluateWhere false (fun e s => e.uses i && evaluated e s) s

/-- The fault memory tells of a change of a record of a class (R99). -/
def evaluateClass (cls : Fin 16) (s : State) : State :=
  evaluateWhere false (fun e s => decide (e.kind = .faultClass) && decide (e.sourceClass = cls.val) && evaluated e s) s

/-- The fault memory tells that every class has changed (R160). -/
def evaluateAllClasses (s : State) : State :=
  evaluateWhere false (fun e s => decide (e.kind = .faultClass) && evaluated e s) s

/-! ### Writes, operating states, reset (R110, R111, R118) -/

/-- The run-time state an entry is put in OFF with; its observed flag is kept. -/
def putOff (r : WarnRun) : WarnRun :=
  { r with state := .off, truth := none, unknown := false, cond := false, timer := none }

/-- An accepted write of an entry (R110). `changed` is the CONFIG_CHANGED event of a write in RUN (R176). The event of a
new top warning (R112) goes before the entry's own OFF event: the model's choice (log entry 16). -/
def writeWarning (i : Fin 96) (e : WarnEntry) (changed : Event) (s : State) : State :=
  let chime := (warnEntry i s).bind WarnEntry.chime
  let load (s : State) : State := { s with wrn := { s.wrn with table := s.wrn.table.set i (some e) } }
  if s.opState = .config then load (setWarnRun i (putOff (warnRun i s)) s)
  else
    let s' := load (changeRun i (putOff (warnRun i s)) chime false s)
    evaluate true i (queueEvent changed (if e.enabled then queueEvent (warningEvent i s') s' else s'))

/-- Entry into RUN: every loaded entry that was not being evaluated is evaluated afresh (R110). -/
def wrnEnterRun (fromParked : Bool) (s : State) : State :=
  evaluateWhere true (fun e s => !(fromParked && parkedEntry e s)) s

/-- Entry into PARKED puts an entry outside the parked set in OFF (R111). -/
def parkEntry (s : State) (i : Fin 96) : State :=
  match warnEntry i s with
  | none => s
  | some e =>
    if parkedEntry e s then s
    else
      let r := warnRun i s
      changeRun i (putOff r) e.chime (e.enabled && decide (r.state ≠ .off)) s

/-- Entry into PARKED (R111). -/
def wrnEnterParked (s : State) : State := (indices 96).foldl parkEntry s

/-- The withdrawals of the entries that a reset takes out of ON_UNACK (R116). -/
def resetWithdrawals (s : State) : List Instr :=
  (indices 96).flatMap fun i => chimeNotices i ((warnEntry i s).bind WarnEntry.chime) (warnRun i s).state .off

/-- Commanded reset (R118): the table and the observed flags are kept, no event is queued, and every chime request is
withdrawn (R116). -/
def wrnReset (s : State) : State :=
  valueWrite activeWarnings 0 .valid
    (post (resetWithdrawals s) { s with wrn := { s.wrn with
        run := mapTable (fun r => { putOff r with join := 0 }) s.wrn.run, joinCounter := 0, reportedTop := none } })

/-! ### Telltales (R114, R115) -/

/-- The composition of an output: flashing with the flash clock, on, or off (R114). -/
def composition (o : Fin 32) (s : State) : Bool :=
  let mapped := (indices 96).filter fun i => (warnEntry i s).any fun e => e.enabled && decide (e.telltale = some o)
  if mapped.any fun i => decide ((warnRun i s).state = .onUnack) && (warnEntry i s).any WarnEntry.flash then
    s.wrn.flashLit
  else mapped.any (inActiveList s)

/-- A telltale output: lit in SWEEP, forced by a workshop test, and else its composition (R115). -/
def telltaleLit (o : Fin 32) (s : State) : Bool :=
  if s.opState = .sweep then true
  else
    match s.wsp.test with
    | some (.telltale t lit) => if t = o then lit else composition o s
    | some (.gauge _ _) | some .chime | none => composition o s

/-! ### Commands -/

/-- EVALUATION: WRN takes a notification of a slot (R99). -/
def execEvaluation (slot : Slot) (s : State) : Host.Outcome State Fault Refusal :=
  .next (evaluateSlot slot (takeArrival (.evaluation slot) s))

/-- WARNING_TIMER_EXPIRY (R105). -/
def execWarningTimerExpiry (entry : Fin 96) (s : State) : Host.Outcome State Fault Refusal :=
  match warnEntry entry s with
  | none => .next s
  | some e =>
    if e.enabled && evaluated e s && isDue (warnRun entry s).timer s then
      .next (changeState entry e (onExpiry e (warnRun entry s).state) s)
    else .next s

/-- FLASH_CLOCK: the next half of the 1 s period (R114). -/
def execFlashClock (s : State) : Host.Outcome State Fault Refusal :=
  if s.wrn.flashDue ≤ s.now then
    .next { s with wrn := { s.wrn with flashLit := !s.wrn.flashLit, flashDue := s.wrn.flashDue + 500000 } }
  else .next s

end Sys2Proof.Machine
end

