-- ==== Sys2Proof/Machine/FaultMemory.lean ====
section
/-! DEFINITION. The fault memory (chapter 9): its list of records, what each change hands on, and its commands. -/

namespace Sys2Proof.Machine

/-- ACTIVE_FAULTS. -/
def activeFaults : Slot := 10

/-- The class in force: its unloaded readback while unloaded (R150). -/
def classOf (c : Fin 16) (s : State) : ClassEntry := s.flt.table[c].getD .unloaded

/-- The odometer stamp at this instant (R152). -/
def odometerStamp (s : State) : Option Nat :=
  if (s.slot odometer).quality = .valid then some (s.slot odometer).value.toNat else none

/-- The record of a code. -/
def recordOf (code : FaultCode) (s : State) : Option FaultRecord := s.flt.records.find? fun r => r.code = code

/-- The list replaced. -/
def setRecords (l : List FaultRecord) (s : State) : State := { s with flt := { s.flt with records := l } }

/-- The record of a code changed in its place. -/
def updateRecord (code : FaultCode) (f : FaultRecord → FaultRecord) (s : State) : State :=
  setRecords (s.flt.records.map fun r => if r.code = code then f r else r) s

/-- The number of ACTIVE records. -/
def activeCount (s : State) : Nat := s.flt.records.countP FaultRecord.active

/-- A SPEED / 0 / IMPLAUSIBLE record is held ACTIVE (R73). -/
def implausibleHeld (s : State) : Bool := s.flt.records.any fun r => decide (r.code = .speed) && r.active

/-- What a change of one record hands on, in order: ACTIVE_FAULTS, the FAULT event, the warning unit, the
implausible-active indication (R159). -/
def handOn (code : FaultCode) (cls : Fin 16) (status : FaultStatus) (count : Nat) (s : State) : State :=
  let s' := evaluateClass cls
    (queueEvent (.fault code status count) (valueWrite activeFaults (activeCount s : Nat) .valid s))
  if code = .speed then setImplausible (implausibleHeld s') s' else s'

/-- The freeze frame of a class, captured now by effective read (R154); an unused slot whose fallback is usable is
captured as that read gives it, SUBSTITUTED: the model's choice (log entry 48). -/
def capture (cls : Fin 16) (s : State) : List FreezeElement :=
  (classOf cls s).freeze.map fun i => ⟨i, (effRead i s).1, (effRead i s).2⟩

/-- A new record at the end of the list (R154). -/
def createRecord (code : FaultCode) (cls : Fin 16) (s : State) : State :=
  handOn code cls .active 1
    (setRecords (s.flt.records
      ++ [⟨code, cls, true, 1, odometerStamp s, odometerStamp s, 0, capture cls s⟩]) s)

/-- A STORED record turns ACTIVE again in its place (R155). -/
def reactivate (r : FaultRecord) (s : State) : State :=
  handOn r.code r.cls .active (satSucc 255 r.occurrence)
    (updateRecord r.code (fun r => { r with
      active := true, occurrence := satSucc 255 r.occurrence, lastOdo := odometerStamp s, aging := 0 }) s)

/-- A record is removed from the list, which closes the gap (R152). -/
def removeRecord (s : State) (r : FaultRecord) : State :=
  handOn r.code r.cls .removed r.occurrence (setRecords (s.flt.records.filter fun x => x.code ≠ r.code) s)

/-- `a` gives up its place before `b`, which stands later in the list: lower class priority, then higher aging count,
then the earlier position (R156). -/
def yieldsFirst (s : State) (a b : FaultRecord) : Bool :=
  let pa := (classOf a.cls s).priority
  let pb := (classOf b.cls s).priority
  decide (pa < pb) || (decide (pa = pb) && decide (b.aging ≤ a.aging))

/-- The STORED record that gives up its place (R156). -/
def displaced (s : State) : Option FaultRecord :=
  (s.flt.records.filter fun r => !r.active).foldl
    (fun best r => match best with
      | none => some r
      | some b => if yieldsFirst s b r then some b else some r) none

/-- A condition starts (R154 to R156). -/
def startCondition (code : FaultCode) (cls : Fin 16) (s : State) : State :=
  match recordOf code s with
  | some r => if r.active then s else reactivate r s
  | none =>
    if s.flt.records.length < 32 then createRecord code cls s
    else
      match displaced s with
      | some r => createRecord code cls (removeRecord s r)
      | none => { s with flt := { s.flt with overflow := true } }

/-- A condition ends (R157). -/
def endCondition (code : FaultCode) (s : State) : State :=
  match recordOf code s with
  | some r =>
    if r.active then
      handOn r.code r.cls .stored r.occurrence (updateRecord r.code (fun r => { r with active := false }) s)
    else s
  | none => s

/-- A STORED record's aging count gains 1 (R158). -/
def ageRecord (r : FaultRecord) : FaultRecord := if r.active then r else { r with aging := satSucc 63 r.aging }

/-- A STORED record has reached the aging limit of its class (R158). -/
def agedOut (s : State) (r : FaultRecord) : Bool :=
  let limit := (classOf r.cls s).agingLimit
  !r.active && decide (limit ≠ 0) && decide (limit ≤ r.aging)

/-- The end of a qualifying drive cycle (R158). -/
def ageRecords (s : State) : State :=
  let s' := setRecords (s.flt.records.map ageRecord) s
  (s'.flt.records.filter (agedOut s')).foldl removeRecord s'

/-! ### Clearing, restoring, reset -/

/-- CLEAR_FAULTS at the fault memory (R160): the sources' fresh reports are made and stand in flight. -/
def clearFaults (s : State) : State :=
  let s1 := { s with flt := { s.flt with records := [], overflow := false } }
  let s2 := queueEvent (.faultsCleared .workshop) (valueWrite activeFaults 0 .valid s1)
  let s3 := setImplausible false (evaluateAllClasses s2)
  post (lineReports s3 ++ frameReports s3 ++ speedReports s3 ++ doorReports s3) s3

/-- A restored record (R162). -/
def restoreRecord (r : FaultRecord) (s : State) : State :=
  handOn r.code r.cls .stored r.occurrence (setRecords (s.flt.records ++ [{ r with active := false }]) s)

/-- Commanded reset (R165). -/
def fltReset (s : State) : State :=
  let s' := setRecords (s.flt.records.map fun r => { r with active := false }) s
  valueWrite activeFaults (activeCount s' : Nat) .valid s'

/-! ### Records as bytes (section 12.4) -/

/-- An odometer stamp (R195). -/
def stampBytes (o : Option Nat) : List Byte := e32 (o.getD 0xFFFFFFFF)

/-- A freeze-frame element. -/
def FreezeElement.bytes (x : FreezeElement) : List Byte := e8 x.slot ++ eInt32 x.value ++ e8 x.quality.code

/-- A fault record with its elements. -/
def FaultRecord.bytes (r : FaultRecord) : List Byte :=
  faultBytes r.code ++ e8 r.cls ++ e8 (if r.active then 0 else 1) ++ e8 r.occurrence ++ stampBytes r.firstOdo
    ++ stampBytes r.lastOdo ++ e8 r.aging ++ e8 r.freeze.length ++ r.freeze.flatMap FreezeElement.bytes

/-- Record count and overflow flag (R163). -/
def faultCountBytes (s : State) : List Byte := e8 s.flt.records.length ++ e8 (bitNat s.flt.overflow)

/-- The data of FAULT_READ and READ_FAULT_RECORD at a position, if a record stands there (R163). -/
def faultReadBytes (pos : Nat) (s : State) : Option (List Byte) :=
  s.flt.records[pos]?.map fun r => faultCountBytes s ++ r.bytes

/-- An odometer stamp received (R162): 0 to 999,999,999, or unknown. -/
def stampOf (n : Nat) : Option (Option Nat) :=
  if n = 0xFFFFFFFF then some none else if n ≤ 999999999 then some (some n) else none

/-- The first `n` elements from byte 16 of a fault record. -/
def readElements (b : List Byte) : (n : Nat) → Option (List FreezeElement)
  | 0 => some []
  | n + 1 => (readElements b n).bind fun l => (Quality.ofCode? (u8 b (21 + 6 * n))).map fun q =>
      l ++ [⟨slotAt b (16 + 6 * n), s32 b (17 + 6 * n), q⟩]

/-- A fault record from its 40 bytes, every field in its range (R162); the status byte is 0 or 1 (section 12.2: REMOVED
in events only). -/
def readFaultRecord (b : List Byte) : Option FaultRecord :=
  (faultOfCodes? (u8 b 0) (u8 b 1) (u8 b 2)).bind fun code =>
    (toFin? 16 (u8 b 3)).bind fun cls =>
      (stampOf (u32 b 6)).bind fun first =>
        (stampOf (u32 b 10)).bind fun last =>
          if u8 b 4 ≤ 1 && 1 ≤ u8 b 5 && u8 b 14 ≤ 63 && u8 b 15 ≤ 4 then
            (readElements b (u8 b 15)).map fun freeze =>
              ⟨code, cls, u8 b 4 == 0, u8 b 5, first, last, u8 b 14, freeze⟩
          else none

/-! ### Commands -/

/-- FAULT_CONDITION_START (R154). -/
def execFaultConditionStart (code : FaultCode) (cls : Fin 16) (s : State) : Host.Outcome State Fault Refusal :=
  .next (startCondition code cls (takeArrival (.faultConditionStart code cls) s))

/-- FAULT_CONDITION_END (R157). -/
def execFaultConditionEnd (code : FaultCode) (cls : Fin 16) (s : State) : Host.Outcome State Fault Refusal :=
  .next (endCondition code (takeArrival (.faultConditionEnd code cls) s))

/-- AGING_PASS (R158). -/
def execAgingPass (s : State) : Host.Outcome State Fault Refusal :=
  .next (ageRecords (takeArrival .agingPass s))

end Sys2Proof.Machine
end

