-- ==== Sys2Proof/Machine/Gauges.lean ====
section
/-! DEFINITION. The gauge drive (chapter 5): modes, target, filter and step of a channel, homing, the sweep, table
writes, its part in the operating states, and the interval. -/

namespace Sys2Proof.Machine

/-- The gauge entry in force: its unloaded readback while unloaded (R83). -/
def gaugeEntry (c : Fin 6) (s : State) : GaugeEntry := s.gdr.table[c].getD .unloaded

/-- The run-time state of a channel. -/
def gaugeRun (c : Fin 6) (s : State) : GaugeRun := s.gdr.run[c]

/-- The run-time state of a channel replaced. -/
def setGaugeRun (c : Fin 6) (r : GaugeRun) (s : State) : State :=
  { s with gdr := { s.gdr with run := s.gdr.run.set c r } }

/-- The five modes of a channel (R85). -/
inductive GaugeMode where
  | homing
  | test (position : Nat)
  | sweep
  | track
  | rest
deriving DecidableEq, Repr

/-- The clamped position of a gauge test that runs on the channel (R95). -/
def gaugeTest (c : Fin 6) (s : State) : Option Nat :=
  match s.wsp.test with
  | some (.gauge k position) => if k = c then some position else none
  | some (.telltale _ _) | some .chime | none => none

/-- The mode of a channel: the first of the table whose condition holds (R85). -/
def gaugeMode (c : Fin 6) (s : State) : GaugeMode :=
  if !s.gdr.homingDone then .homing
  else
    match gaugeTest c s with
    | some position => .test position
    | none =>
      if (gaugeEntry c s).enabled then
        match s.opState with
        | .sweep => .sweep
        | .run => .track
        | .config | .parked => .rest
      else .rest

/-! ### Following a signal (R86 to R88) -/

/-- The target of a usable value (R86). -/
def targetOf (e : GaugeEntry) (v : Int) : Nat :=
  let x := clampInt e.vmin e.vmax v
  let range := e.vmax - e.vmin
  (((x - e.vmin) * e.span + range / 2) / range).toNat

/-- The hold timer of an interval whose read is unusable: started, or advanced by 10 ms (R87). -/
def holdAfter (r : GaugeRun) : Nat := r.holdTimer.elim 0 (· + 10)

/-- The target formed at an interval, with the hold timer and the previous target (R86, R87). -/
def formTarget (e : GaugeEntry) (r : GaugeRun) (s : State) : GaugeRun :=
  let read := effRead e.source s
  if read.2.usable then
    { r with target := targetOf e read.1, prevTarget := targetOf e read.1, holdTimer := none }
  else
    { r with target := if holdAfter r < 10 * e.hold then r.prevTarget else 0, holdTimer := some (holdAfter r) }

/-- The filtered position after one interval toward the target (R88). -/
def filterStep (k f target : Nat) : Nat :=
  let goal := 256 * target
  if f < goal then (let d := (goal - f) / 2 ^ k; if d = 0 then goal else f + d)
  else if goal < f then (let d := (f - goal) / 2 ^ k; if d = 0 then goal else f - d)
  else f

/-- The pointer moves toward the command by at most the rate (R89). -/
def stepPointer (rate p command : Nat) : Nat :=
  if p ≤ command then (if command - p ≤ rate then command else p + rate)
  else if p - command ≤ rate then command else p - rate

/-! ### The interval (R85, R91, R93) -/

/-- The sweep target of a channel (R93). -/
def sweepTarget (e : GaugeEntry) (s : State) : Nat :=
  match s.gdr.sweepPhase with
  | some .rise | some (.hold _) => e.span
  | some .fall | some .complete | none => 0

/-- One channel at its interval (R85, R89). -/
def stepChannel (s : State) (c : Fin 6) : State :=
  let e := gaugeEntry c s
  let r := gaugeRun c s
  let toward (r : GaugeRun) (command : Nat) : State := setGaugeRun c { r with p := stepPointer e.rate r.p command } s
  match gaugeMode c s with
  | .homing => s
  | .test position => toward (if e.enabled then formTarget e r s else r) position
  | .sweep => toward r (sweepTarget e s)
  | .track =>
    let r' := formTarget e r s
    let f := filterStep e.damping r'.f r'.target
    toward { r' with f } ((f + 128) / 256)
  | .rest => toward r 0

/-- Every enabled pointer stands where the test says. -/
def enabledAt (place : GaugeEntry → Nat) (s : State) : Bool :=
  (indices 6).all fun c => !(gaugeEntry c s).enabled || decide ((gaugeRun c s).p = place (gaugeEntry c s))

/-- The sweep phase replaced. -/
def setPhase (ph : Option SweepPhase) (s : State) : State := { s with gdr := { s.gdr with sweepPhase := ph } }

/-- The phase test at the end of an interval in SWEEP (R93). -/
def advanceSweep (s : State) : State :=
  if s.opState = .sweep then
    match s.gdr.sweepPhase with
    | some .rise => if enabledAt GaugeEntry.span s then setPhase (some (.hold 0)) s else s
    | some (.hold n) => setPhase (some (if n + 1 < 50 then .hold (n + 1) else .fall)) s
    | some .fall => if enabledAt (fun _ => 0) s then post [.sweepComplete] (setPhase (some .complete) s) else s
    | some .complete | none => s
  else s

/-- The microsteps that the homing drive takes at an interval, the first of them 0: 64 at each of the first 64 and 4 at
the 65th (R91). -/
def homingSteps (interval : Nat) : Nat := if interval < 64 then 64 else if interval = 64 then 4 else 0

/-- The microsteps toward the rest stop over which the homing drive has moved the phase outputs after so many intervals
(R91). -/
def travelAfter : (intervals : Nat) → Nat
  | 0 => 0
  | n + 1 => travelAfter n + homingSteps n

/-- The travel of the homing drive: 4,100 microsteps once its 65 intervals are over (R91). -/
def homingTravel (s : State) : Nat := travelAfter s.gdr.homingIntervals

/-- One interval of the homing drive; the 65th ends it, and the report to CLI is made (R91). -/
def homingInterval (s : State) : State :=
  if s.gdr.homingIntervals < 65 then
    let s' := { s with gdr := { s.gdr with homingIntervals := s.gdr.homingIntervals + 1 } }
    if s'.gdr.homingIntervals = 65 then post [.homingEnd] s' else s'
  else s

/-- The channels at one interval (R85). -/
def runInterval (s : State) : State :=
  if s.gdr.homingDone then advanceSweep ((indices 6).foldl stepChannel s) else homingInterval s

/-- Homing ends: every channel at 0, the indication set (R91). -/
def endHoming (s : State) : State :=
  { s with gdr := { s.gdr with homingDone := true, run := Vector.replicate 6 ⟨0, 0, 0, 0, none⟩ } }

/-! ### Writes, operating states, reset (R84, R87, R90, R93 to R96) -/

/-- The hold timer cleared, the previous target at the position (R84, R87). -/
def restartHold (r : GaugeRun) : GaugeRun := { r with holdTimer := none, prevTarget := r.p }

/-- The filter restarted from the position (R84, R90). -/
def restartFilter (r : GaugeRun) : GaugeRun := { r with f := 256 * r.p }

/-- An accepted write of a gauge entry; the position of a running test is clamped again (R84, R95). -/
def writeGauge (c : Fin 6) (e : GaugeEntry) (s : State) : State :=
  let r := gaugeRun c s
  let s' := setGaugeRun c (restartHold (restartFilter { r with p := min r.p e.span })) s
  let s'' := { s' with gdr := { s'.gdr with table := s'.gdr.table.set c (some e) } }
  match gaugeTest c s with
  | some position => { s'' with wsp := { s''.wsp with test := some (.gauge c (min position e.span)) } }
  | none => s''

/-- An entry into RUN (R87, R90): a sweep phase that stands is dropped (R94). -/
def gdrEnterRun (s : State) : State :=
  (indices 6).foldl
    (fun s c =>
      let r := restartHold (gaugeRun c s)
      setGaugeRun c (if (gaugeEntry c s).enabled then restartFilter r else r) s) (setPhase none s)

/-- Entry into SWEEP (R93). -/
def gdrEnterSweep (s : State) : State := setPhase (some .rise) s

/-- Entry into PARKED (R94). -/
def gdrEnterParked (s : State) : State := setPhase none s

/-- A gauge test has ended on the channel: in RUN an enabled channel returns to TRACK with its filter restarted
(R90, R95). -/
def gdrEndTest (c : Fin 6) (s : State) : State :=
  if (gaugeEntry c s).enabled ∧ s.opState = .run then setGaugeRun c (restartFilter (gaugeRun c s)) s else s

/-- Commanded reset (R96): positions and homing are kept. -/
def gdrReset (s : State) : State :=
  { s with gdr := { s.gdr with run := mapTable (fun r => ⟨r.p, 0, 0, 0, none⟩) s.gdr.run, sweepPhase := none } }

/-! ### Outputs -/

/-- GD0A to GD5D, the four phase outputs of a channel: the pattern that belongs to its position, and while it homes the
pattern to which the drive has taken them (R89, R91; log entry 34). -/
def phaseOutputs (c : Fin 6) (s : State) : BitVec 4 :=
  if s.gdr.homingDone then Config.phasePattern (gaugeRun c s).p else Config.homingPattern (homingTravel s)

/-! ### Commands -/

/-- GAUGE_INTERVAL (R85), every 10 ms. -/
def execGaugeInterval (s : State) : Host.Outcome State Fault Refusal :=
  if s.gdr.intervalDue ≤ s.now then
    .next (runInterval { s with gdr := { s.gdr with intervalDue := s.gdr.intervalDue + 10000 } })
  else .next s

end Sys2Proof.Machine
end

