-- ==== Sys2Proof/Machine/Workshop.lean ====
section
/-! DEFINITION. The workshop port (chapter 11): the port, requests and their checks, responses in segments, output
tests, and its commands. -/

namespace Sys2Proof.Machine

/-- The answer to a request or record: its result, its data, and what carrying it out does to the part. A refused one
carries no data and changes nothing. -/
structure Answer where
  result : Result
  data : List Byte
  after : State → State

/-- A refused request. -/
def refuse (r : Result) : Answer := ⟨r, [], id⟩

/-- An accepted request. -/
def accepted (data : List Byte) (after : State → State) : Answer := ⟨.ok, data, after⟩

/-- A read: answered from the state at one instant. -/
def answerRead (data : List Byte) : Answer := accepted data id

/-! ### Output tests (R192, R193) -/

/-- The running test ends and its output is released (R193). -/
def endTest (s : State) : State :=
  let s' := { s with wsp := { s.wsp with test := none, testDue := none } }
  match s.wsp.test with
  | none => s
  | some (.telltale _ _) => s'
  | some (.gauge c _) => gdrEndTest c s'
  | some .chime => withdraw .workshop s'

/-- A test starts, with its 10 s timer (R192). -/
def startTest (t : OutputTest) (s : State) : State :=
  { s with wsp := { s.wsp with test := some t, testDue := some (dueIn 10000 s) } }

/-! ### Responses (R187, R188) -/

/-- The payload behind segment 0 in shares of 7 bytes. -/
def shares : (fuel : Nat) → List Byte → List (List Byte)
  | 0, _ => []
  | _ + 1, [] => []
  | n + 1, b :: l => (b :: l).take 7 :: shares n ((b :: l).drop 7)

/-- Each segment with its index, bit 7 set in the last (R187). -/
def numberFrom (k : Nat) : List (List Byte) → List (List Byte)
  | [] => []
  | [x] => [e8 (k + 128) ++ x]
  | x :: y :: l => (e8 k ++ x) :: numberFrom (k + 1) (y :: l)

/-- The segments of a response (R187). -/
def segmentsOf (service : Byte) (result : Result) (payload : List Byte) : List (List Byte) :=
  numberFrom 0 ((service :: e8 result.code ++ e8 payload.length ++ payload.take 4)
    :: shares payload.length (payload.drop 4))

/-- A response is started: segment 0 is handed to the port (R187). -/
def startResponse (service : Byte) (result : Result) (payload : List Byte) (s : State) : State :=
  { s with wsp := { s.wsp with response := some ⟨segmentsOf service result payload, none⟩ } }

/-- The segment of the response in flight that stands at the port; `none` during the pacing time. -/
def segmentAtPort (s : State) : Option (List Byte) :=
  match s.wsp.response with
  | some ⟨seg :: _, none⟩ => some seg
  | _ => none

/-- The response in flight is abandoned (R188): a segment at the port whose transmission has `started` runs to its end,
another is withdrawn. -/
def abandonAs (started : Bool) (s : State) : State :=
  { s with wsp := { s.wsp with
      response := none
      orphan := if s.wsp.orphan.isNone && started then segmentAtPort s else s.wsp.orphan } }

/-- WS runs: its rate in force is not OFF and it is not bus-off (R184, R185). -/
def wsRunning (s : State) : Bool := decide (s.wsp.settings.rate ≠ .off) && s.wsp.busOffUntil.isNone

/-- Abandonment where the start of a transmission is not known to the model: a free value (log entry 8). A port that does
not run sends nothing, so a segment at it has not started and is withdrawn (R184, R188). -/
def abandonResponse (s : State) : State :=
  if s.wsp.response.isNone then s else bumpFree (abandonAs (wsRunning s && Config.segmentStarted s.freeCount) s)

/-- The link table's entry in force, the unloaded readback while unloaded (R176, R184). -/
def linkOf (s : State) : LinkEntry := s.cli.link.getD .unloaded

/-- A segment as the port sends it: one data frame under the response identifier, in the identifier format of the
settings, with the bytes it holds (R187). -/
def segmentFrame (s : State) (segment : List Byte) : FrameHead × List Byte :=
  (⟨s.wsp.settings.extended, BitVec.ofNat 29 s.wsp.settings.responseId, BitVec.ofNat 4 segment.length⟩, segment)

/-- The frame at the WS port: a segment of an abandoned response whose transmission had started, else the segment handed
to the port; none while the port does not run (R184, R185, R188). -/
def frameAtPort (s : State) : Option (FrameHead × List Byte) :=
  if wsRunning s then (s.wsp.orphan <|> segmentAtPort s).map (segmentFrame s) else none

/-- WS takes the settings of the link table; its error count is 0 at the start of a running period (R184). -/
def applyWsSettings (s : State) : State :=
  let e := linkOf s
  { s with wsp := { s.wsp with
      settings := ⟨e.ws, e.wsExtended, e.requestId, e.responseId, e.pacing⟩
      txErrors := if s.wsp.settings.rate = .off then 0 else s.wsp.txErrors } }

/-! ### Services (R189 to R193, R198) -/

/-- Vendor code, part code and revision (section 12.4). -/
def identBytes : List Byte := e16 0x0A17 ++ e16 0x0614 ++ e8 0x01

/-- READ_IDENT's payload. -/
def readIdentBytes (s : State) : List Byte :=
  identBytes ++ e8 s.opState.code ++ e8 (bitNat s.sdu.windowOpen) ++ e16 (flagsNat (loadStates s))

/-- A slot's own record and its effective read (R15, section 12.4). -/
def signalBytes (i : Slot) (s : State) : List Byte :=
  e8 i ++ eInt32 (s.slot i).value ++ e8 (s.slot i).quality.code ++ e16 ((s.slot i).age s.now)
    ++ eInt32 (effRead i s).1 ++ e8 (effRead i s).2.code

/-- READ_FAULT_RECORD, FAULT_READ: RANGE when no record stands at the position (R163). -/
def answerFaultRecord (b : List Byte) (s : State) : Answer :=
  (faultReadBytes (u8 b 0) s).elim (refuse .range) answerRead

/-- CLEAR_FAULTS (R190). -/
def answerClearFaults (s : State) : Answer :=
  if standstill s then accepted [] clearFaults else refuse .moving

/-- READ_LINE (R57). -/
def answerReadLine (b : List Byte) (s : State) : Answer :=
  (toFin? 48 (u8 b 0)).elim (refuse .range) fun l => answerRead (lineBytes l s)

/-- The leaf of a portal and a leaf number (R148). -/
def leafOf (portal leaf : Nat) : Option (Fin 8) :=
  if portal ≤ 3 ∧ leaf ≤ 1 then toFin? 8 (2 * portal + leaf) else none

/-- READ_DOOR (R148). -/
def answerReadDoor (b : List Byte) (s : State) : Answer :=
  (leafOf (u8 b 0) (u8 b 1)).elim (refuse .range) fun l => answerRead (leafBytes l s)

/-- CLEAR_DOOR_COUNTERS (R190): the portal before the standstill. -/
def answerClearCounters (b : List Byte) (s : State) : Answer :=
  (absentFF 4 (u8 b 0)).elim (refuse .range) fun p =>
    if standstill s then accepted [] (clearDoorCounters p) else refuse .moving

/-- The entry with one field replaced by a received value, if it is in the field's range (R61). -/
def calWith (field : CalField) (v : Int) (s : State) : Option CalEntry :=
  if v < 0 then none else (calOf s).setField field v.toNat

/-- WRITE_CAL (R61, R191): field, window, range. -/
def answerWriteCal (b : List Byte) (s : State) : Answer :=
  (CalField.ofCode? (u8 b 0)).elim (refuse .unknown) fun field =>
    if s.sdu.windowOpen then
      (calWith field (s32 b 1) s).elim (refuse .range) fun e =>
        accepted [] (writeCalibration e field.code .workshop [field.group])
    else refuse .locked

/-- The checks of an output test: RUN, its parameters, standstill (R186, R192). -/
def answerTest (t : Option OutputTest) (begin : State → State) (s : State) : Answer :=
  if s.opState = .run then
    t.elim (refuse .range) fun t =>
      if standstill s then accepted [] fun s => begin (startTest t s) else refuse .moving
  else refuse .state

/-- TEST_TELLTALE (R192). -/
def answerTestTelltale (b : List Byte) (s : State) : Answer :=
  answerTest ((toFin? 32 (u8 b 0)).bind fun o =>
    if u8 b 1 ≤ 1 then some (.telltale o (u8 b 1 == 1)) else none) id s

/-- TEST_GAUGE: the position is clamped to the channel's span (R95, R192). -/
def answerTestGauge (b : List Byte) (s : State) : Answer :=
  answerTest ((toFin? 6 (u8 b 0)).map fun c => .gauge c (min (u16 b 1) (gaugeEntry c s).span)) id s

/-- TEST_CHIME: the workshop test's request is placed (R127, R192). -/
def answerTestChime (b : List Byte) (s : State) : Answer :=
  answerTest ((toFin? 8 (u8 b 0)).map fun _ => .chime)
    (fun s => (toFin? 8 (u8 b 0)).elim s fun p => place .workshop p s) s

/-- The parameter bytes fixed for a service, and its answer; `none` for a service code that is none of the fourteen
(R186, R198). -/
def serviceOf (code : Nat) (b : List Byte) (s : State) : Option (Nat × Answer) :=
  match code with
  | 0x01 => some (0, answerRead (readIdentBytes s))
  | 0x02 => some (0, answerRead (faultCountBytes s))
  | 0x03 => some (1, answerFaultRecord b s)
  | 0x04 => some (0, answerClearFaults s)
  | 0x05 => some (1, answerRead (signalBytes (slotAt b 0) s))
  | 0x06 => some (1, answerReadLine b s)
  | 0x07 => some (2, answerReadDoor b s)
  | 0x08 => some (1, answerClearCounters b s)
  | 0x09 => some (0, answerRead (speedBytes s))
  | 0x0A => some (5, answerWriteCal b s)
  | 0x0B => some (2, answerTestTelltale b s)
  | 0x0C => some (3, answerTestGauge b s)
  | 0x0D => some (1, answerTestChime b s)
  | 0x0E => some (0, accepted [] id)
  | _ => none

/-- The answer to a request frame: an unknown service, then too few parameter bytes, then the service's own checks
(R186). -/
def answerRequest (service : Byte) (params : List Byte) (s : State) : Answer :=
  match serviceOf service.toNat params s with
  | none => refuse .unknown
  | some (n, a) => if params.length < n then refuse .format else a

/-- The steps of a request frame behind the first two (R186): answer, carry out, start the response. -/
def serve (data : List Byte) (s : State) : State :=
  match data with
  | [] => startResponse 0 .format [] s
  | service :: params =>
    let a := answerRequest service params s
    startResponse service a.result a.data (a.after s)

/-- The port hands a received data frame on to WSP: it runs, and the format and the identifier are those of requests
(R184). -/
def handedOn (head : FrameHead) (s : State) : Bool :=
  wsRunning s && head.extended == s.wsp.settings.extended && decide (head.ident.toNat = s.wsp.settings.requestId)

/-- WSP takes a request frame that the port hands on, and passes over every other (R184, R186). A data length code of 9
to 15 is taken as 8 data bytes. -/
def takeRequest (head : FrameHead) (data : List Byte) (s : State) : State :=
  if handedOn head s then serve (data.take (min 8 head.dlc.toNat)) (abandonResponse (endTest s)) else s

/-! ### The part of WSP in the operating states (R193, R194) -/

/-- A change of operating state, SWEEP, PARKED or CONFIG, ends a running test. -/
def wspChange (s : State) : State := endTest s

/-- Commanded reset: a response in flight is abandoned, and a running test ends (R194). -/
def wspReset (s : State) : State := endTest (abandonResponse s)

/-! ### Commands -/

/-- READ_IDENT (R189). -/
def execReadIdent (request : WsRequest) (s : State) : Host.Outcome State Fault Refusal :=
  .next (takeRequest request.head (0x01#8 :: request.bytes) s)

/-- READ_FAULT_COUNT (R189). -/
def execReadFaultCount (request : WsRequest) (s : State) : Host.Outcome State Fault Refusal :=
  .next (takeRequest request.head (0x02#8 :: request.bytes) s)

/-- READ_FAULT_RECORD (R189). -/
def execReadFaultRecord (request : WsRequest) (s : State) : Host.Outcome State Fault Refusal :=
  .next (takeRequest request.head (0x03#8 :: request.bytes) s)

/-- CLEAR_FAULTS (R190, R160). -/
def execClearFaults (request : WsRequest) (s : State) : Host.Outcome State Fault Refusal :=
  .next (takeRequest request.head (0x04#8 :: request.bytes) s)

/-- READ_SIGNAL (R189). -/
def execReadSignal (request : WsRequest) (s : State) : Host.Outcome State Fault Refusal :=
  .next (takeRequest request.head (0x05#8 :: request.bytes) s)

/-- READ_LINE (R189). -/
def execReadLine (request : WsRequest) (s : State) : Host.Outcome State Fault Refusal :=
  .next (takeRequest request.head (0x06#8 :: request.bytes) s)

/-- READ_DOOR (R189). -/
def execReadDoor (request : WsRequest) (s : State) : Host.Outcome State Fault Refusal :=
  .next (takeRequest request.head (0x07#8 :: request.bytes) s)

/-- CLEAR_DOOR_COUNTERS (R190). -/
def execClearDoorCounters (request : WsRequest) (s : State) : Host.Outcome State Fault Refusal :=
  .next (takeRequest request.head (0x08#8 :: request.bytes) s)

/-- READ_SPEED (R189). -/
def execReadSpeed (request : WsRequest) (s : State) : Host.Outcome State Fault Refusal :=
  .next (takeRequest request.head (0x09#8 :: request.bytes) s)

/-- WRITE_CAL (R191). -/
def execWriteCal (request : WsRequest) (s : State) : Host.Outcome State Fault Refusal :=
  .next (takeRequest request.head (0x0A#8 :: request.bytes) s)

/-- TEST_TELLTALE (R192). -/
def execTestTelltale (request : WsRequest) (s : State) : Host.Outcome State Fault Refusal :=
  .next (takeRequest request.head (0x0B#8 :: request.bytes) s)

/-- TEST_GAUGE (R192). -/
def execTestGauge (request : WsRequest) (s : State) : Host.Outcome State Fault Refusal :=
  .next (takeRequest request.head (0x0C#8 :: request.bytes) s)

/-- TEST_CHIME (R192). -/
def execTestChime (request : WsRequest) (s : State) : Host.Outcome State Fault Refusal :=
  .next (takeRequest request.head (0x0D#8 :: request.bytes) s)

/-- TEST_END (R192). -/
def execTestEnd (request : WsRequest) (s : State) : Host.Outcome State Fault Refusal :=
  .next (takeRequest request.head (0x0E#8 :: request.bytes) s)

/-- UNKNOWN_SERVICE_REQUEST: a frame with no data byte, or with another service code (R186). -/
def execUnknownServiceRequest (request : WsRequest) (s : State) : Host.Outcome State Fault Refusal :=
  .next (takeRequest request.head request.bytes s)

/-- WSP_SPEED_NOTIFICATION: 3.00 km/h or above ends a test (R193). -/
def execWspSpeedNotification (s : State) : Host.Outcome State Fault Refusal :=
  let s' := takeArrival .wspSpeedNotification s
  .next (if atThreeKmh s' then endTest s' else s')

/-- TEST_TIMER_EXPIRY (R193). -/
def execTestTimerExpiry (s : State) : Host.Outcome State Fault Refusal :=
  if isDue s.wsp.testDue s then .next (endTest s) else .next s

/-- PACING_EXPIRY: the next segment is handed to the port (R187). -/
def execPacingExpiry (s : State) : Host.Outcome State Fault Refusal :=
  match s.wsp.response with
  | some r =>
    if isDue r.pacingDue s then .next { s with wsp := { s.wsp with response := some { r with pacingDue := none } } }
    else .next s
  | none => .next s

/-- A segment sent without error takes 1 from the transmit error count (R184). -/
def countSent (s : State) : State := { s with wsp := { s.wsp with txErrors := s.wsp.txErrors - 1 } }

/-- SEGMENT_SENT (R187): a segment left of an abandoned response is done; else the response ends with its last segment,
or the pacing time starts. -/
def execSegmentSent (s : State) : Host.Outcome State Fault Refusal :=
  if !wsRunning s then .next s
  else if s.wsp.orphan.isSome then .next (countSent { s with wsp := { s.wsp with orphan := none } })
  else
    match s.wsp.response with
    | some ⟨_ :: [], none⟩ => .next (countSent { s with wsp := { s.wsp with response := none } })
    | some ⟨_ :: y :: rest, none⟩ =>
      .next (countSent { s with wsp := { s.wsp with
        response := some ⟨y :: rest, some (dueIn s.wsp.settings.pacing s)⟩ } })
    | _ => .next s

/-- Bus-off (R185): nothing of a response is left at the port. -/
def goBusOff (s : State) : State :=
  { s with wsp := { s.wsp with busOffUntil := some (dueIn 1000 s), response := none, orphan := none } }

/-- SEGMENT_FAILED (R184, R185): 8 to the count; a segment of an abandoned response is not attempted again (R188); above
255 the port goes bus-off. -/
def execSegmentFailed (s : State) : Host.Outcome State Fault Refusal :=
  if !wsRunning s || (s.wsp.orphan.isNone && (segmentAtPort s).isNone) then .next s
  else
    let s' := { s with wsp := { s.wsp with txErrors := s.wsp.txErrors + 8, orphan := none } }
    .next (if 255 < s'.wsp.txErrors then goBusOff s' else s')

/-- BUS_OFF_RECOVERY (R185): one second after bus-off the port rejoins, its count at 0, with the link table's settings
(a write during bus-off takes effect now). -/
def execBusOffRecovery (s : State) : Host.Outcome State Fault Refusal :=
  if isDue s.wsp.busOffUntil s then
    let s' := applyWsSettings { s with wsp := { s.wsp with busOffUntil := none } }
    .next { s' with wsp := { s'.wsp with txErrors := 0 } }
  else .next s

end Sys2Proof.Machine
end

