-- ==== Sys2Proof/Machine/OperatingStates.lean ====
section
/-! DEFINITION. The operating states (section 10.9): what every block is told at each change, the two resets, the park
delay, and the commands that change the state other than management records. -/

namespace Sys2Proof.Machine

/-- The state is set, the park delay timer stops, and the STATE event is queued, before any block is told (R180,
section 10.9). -/
def setOpState (st : OpState) (cause : StateCause) (s : State) : State :=
  queueEvent (.state st cause) { s with opState := st, cli := { s.cli with parkDue := none } }

/-- IGNITION's own record is `v` VALID. -/
def ignitionIs (v : Int) (s : State) : Bool :=
  decide ((s.slot ignition).value = v) && decide ((s.slot ignition).quality = .valid)

/-- The park delay timer starts, loaded with the link table's park delay (R180). -/
def startParkDelay (s : State) : State :=
  { s with cli := { s.cli with parkDue := some (dueIn (1000 * (linkOf s).parkDelay) s) } }

/-- The park delay at an entry into RUN (R178, R180). -/
def parkDelayAtRun (s : State) : State := if ignitionIs 0 s then startParkDelay s else s

/-! ### Entry into RUN (R178, R181) -/

/-- The six orders in which three blocks may act. -/
def threeInOrder (order : Fin 6) (a b c : State → State) (s : State) : State :=
  match order with
  | 0 => c (b (a s))
  | 1 => b (c (a s))
  | 2 => c (a (b s))
  | 3 => a (c (b s))
  | 4 => b (a (c s))
  | 5 => a (b (c s))

/-- Every block is told of an entry into RUN from CONFIG or PARKED; the speed unit, the warning unit and the door
monitor act in the given order (log entry 5). -/
def tellRun (order : Fin 6) (fromParked : Bool) (s : State) : State :=
  threeInOrder order sduEnterRun (wrnEnterRun fromParked) (drmEnterRun fromParked)
    (gdrEnterRun (lscEnterRun fromParked (frpEnterRun s)))

/-- The order is open: a free value. -/
def tellRunFreely (fromParked : Bool) (s : State) : State :=
  tellRun (Config.tellOrder s.freeCount) fromParked (bumpFree s)

/-! ### Entry into PARKED (R180) -/

/-- A sweep complete report not yet taken is dropped with the sweep (R94). -/
def dropSweepReport (s : State) : State :=
  { s with inFlight := s.inFlight.filter fun c => c ≠ .sweepComplete }

/-- The part enters PARKED: every block takes its parked actions (R180). -/
def enterParked (cause : StateCause) (s : State) : State :=
  wspChange (drmEnterParked (clearRequests (wrnEnterParked (gdrEnterParked (sduEnterParked (lscEnterParked
    (frpEnterParked (dropSweepReport (setOpState .parked cause s)))))))))

/-- A park delay of 0 ends at the moment it starts (R180, log entry 28). -/
def takeZeroDelay (s : State) : State :=
  if s.opState.live && isDue s.cli.parkDue s && decide ((linkOf s).parkDelay = 0) then enterParked .parkDelay s else s

/-- The part enters RUN from CONFIG or PARKED (R178, R181). -/
def enterRun (cause : StateCause) (fromParked : Bool) (s : State) : State :=
  takeZeroDelay (tellRunFreely fromParked (parkDelayAtRun (setOpState .run cause s)))

/-! ### SWEEP (R179) -/

/-- The part enters SWEEP. -/
def enterSweep (s : State) : State := wspChange (gdrEnterSweep (setOpState .sweep .sweepRequest s))

/-- The part returns to RUN from SWEEP, by the sweep's completion or by an abort. -/
def leaveSweep (cause : StateCause) (s : State) : State :=
  takeZeroDelay (gdrEnterRun (parkDelayAtRun (setOpState .run cause (dropSweepReport s))))

/-! ### Resets (R182, R183) -/

/-- The first two steps of RESET at CLI: event queue, mark, pending set, last reports and report clocks (R182). -/
def emptyQueues (s : State) : State :=
  { s with cli := { s.cli with
      events := [], overrun := false, updates := [], reports := Vector.replicate 256 ⟨none, s.now⟩ } }

/-- Commanded reset of every block, in CONFIG (R182). -/
def resetBlocks (wasParked : Bool) (s : State) : State :=
  wspReset (fltReset (drmReset (clearRequests (wrnReset (gdrReset (sduReset
    ((if wasParked then lscLeaveParked else id) (frpReset (dropSweepReport s)))))))))

/-- RESET, after its response (R182). -/
def commandedReset (s : State) : State :=
  resetBlocks (decide (s.opState = .parked)) (setOpState .config .reset (emptyQueues s))

/-- Power-on reset (R183): State.reset, with the queue of commands, the model's counter and the level of LRDY kept; the
transmitter then chooses. -/
def powerOn (s : State) : State :=
  transmit { State.reset with
    freeCount := s.freeCount, pending := s.pending, cli := { Cli.reset with lrdy := s.cli.lrdy } }

/-! ### CLI's notifications (R11, R173, R179 to R181) -/

/-- IGNITION's part (R180, R181). -/
def takeIgnition (s : State) : State :=
  match s.opState with
  | .config => s
  | .parked => if ignitionIs 1 s then enterRun .ignition true s else s
  | .run | .sweep =>
    if ignitionIs 0 s then
      if s.cli.parkDue.isSome then s else takeZeroDelay (startParkDelay s)
    else { s with cli := { s.cli with parkDue := none } }

/-- VEHICLE_SPEED's part: 3.00 km/h or above aborts a sweep (R179). -/
def takeSpeed (s : State) : State :=
  if s.opState = .sweep ∧ atThreeKmh s = true then leaveSweep .abort s else s

/-- A change of the slot's own record makes it pending (R173); a value counts as changed when it differs, and by at
least the deadband (log entry 22). -/
def changePends (i : Slot) (s : State) : Bool :=
  match s.cli.reports[i].last with
  | none => true
  | some (v, q) =>
    decide ((s.slot i).quality ≠ q)
      || (decide ((s.slot i).value ≠ v)
          && decide (((s.signal i).elim 0 SignalEntry.deadband : Nat) ≤ |(s.slot i).value - v|))

/-- The reporting part of a notification (R173). -/
def reportChange (i : Slot) (s : State) : State :=
  if reportFlag i s && changePends i s then joinUpdates i s else s

/-- CLI takes a notification, in every role the slot has (R11; the order of the roles: log entry 27). -/
def takeNotification (i : Slot) (s : State) : State :=
  reportChange i
    (if i = ignition then takeIgnition s else if i = vehicleSpeed then takeSpeed s else s)

/-! ### Commands -/

/-- POWER_ON_RESET (R183). -/
def execPowerOnReset (s : State) : Host.Outcome State Fault Refusal := .next (powerOn s)

/-- CLI_NOTIFICATION (R11). -/
def execCliNotification (slot : Slot) (s : State) : Host.Outcome State Fault Refusal :=
  .next (takeNotification slot (takeArrival (.cliNotification slot) s))

/-- PARK_DELAY_EXPIRY (R180). -/
def execParkDelayExpiry (s : State) : Host.Outcome State Fault Refusal :=
  if s.opState.live && isDue s.cli.parkDue s then .next (enterParked .parkDelay s) else .next s

/-- SWEEP_COMPLETE: CLI takes the gauge drive's report (R93, R179). -/
def execSweepComplete (s : State) : Host.Outcome State Fault Refusal :=
  let s' := takeArrival .sweepComplete s
  if s.opState = .sweep ∧ s.gdr.sweepPhase = some .complete then .next (leaveSweep .sweepComplete s') else .next s'

end Sys2Proof.Machine
end

