-- ==== Sys2Proof/Machine/Cluster.lean ====
section
/-! DEFINITION. The cluster link (sections 10.1 to 10.8): every management record with its checks, the validation of
START, the inbound buffer, the receiver, the transmitter's commands, and the reporting timers. -/

namespace Sys2Proof.Machine

/-! ### Checks of a record (R169) -/

/-- A record accepted in the operating states that pass the test, else STATE. -/
def whenState (ok : OpState → Bool) (s : State) (a : Answer) : Answer := if ok s.opState then a else refuse .state

/-- RUN and SWEEP. -/
def inRunSweep (st : OpState) : Bool := st.live

/-- RUN, SWEEP and PARKED. -/
def outsideConfig (st : OpState) : Bool := decide (st ≠ .config)

/-- CONFIG. -/
def inConfig (st : OpState) : Bool := decide (st = .config)

/-- CONFIG and RUN. -/
def inConfigRun (st : OpState) : Bool := decide (st = .config) || decide (st = .run)

/-- The fixed body length of a kind, else FORMAT. -/
def withLength (n : Nat) (body : List Byte) (a : Answer) : Answer := if body.length = n then a else refuse .format

/-! ### Table writes (R176, R197) -/

/-- The checks of a table write in their order (R169, R176): length, state, index, fields. `read` gives the entry of an
index, `write` what an accepted write does. -/
def tableWrite {ε : Type} (len n : Nat) (ok : OpState → Bool) (read : Fin n → List Byte → Option ε)
    (write : Fin n → ε → State → State) (rest : List Byte) (s : State) : Answer :=
  withLength (len + 1) rest
    (whenState ok s
      ((toFin? n (u8 rest 0)).elim (refuse .range) fun i =>
        (read i (rest.drop 1)).elim (refuse .range) fun e => accepted [] (write i e)))

/-- CONFIG_CHANGED, queued by a write in RUN alone, after the events of the owning block (R176). -/
def tellChanged (table index : Nat) (s : State) : State :=
  if s.opState = .run then queueEvent (.configChanged table index) s else s

/-- FRAME_TABLE_WRITE (R20, R21). -/
def answerFrameWrite (rest : List Byte) (s : State) : Answer :=
  tableWrite 18 64 inConfig (fun _ => readFrameEntry) writeFrame rest s

/-- CLI's part in a signal table write (R173): report flag set makes the slot pending with no last report and a fresh
clock; clear removes it. -/
def restartReporting (i : Slot) (report : Bool) (s : State) : State :=
  if report then
    transmit (joinUpdates i { s with cli := { s.cli with reports := s.cli.reports.set i ⟨none, s.now⟩ } })
  else
    { s with cli := { s.cli with
        updates := s.cli.updates.erase i, reports := s.cli.reports.set i { s.cli.reports[i] with last := none } } }

/-- The producer of a slot before a write: its unloaded entry names none (R3). -/
def producerOf (i : Slot) (s : State) : ProducerKind × Nat :=
  (s.signal i).elim (.unused, 0) SignalEntry.producer

/-- The slot of a configurable entry takes another producer: the sender-error flag is cleared, the slot returns to its
never-received record, and a line brings it up to date (R4, R31, R54). -/
def changeProducer (i : Slot) (e : SignalEntry) (load : State → State) (s : State) : State :=
  let s' := clearRecord i (load (leaveProducer i s))
  if e.kind = .line then (toFin? 48 e.index).elim s' fun l => attachSlot i l s' else s'

/-- An accepted signal table write (R4, R173). -/
def writeSignal (i : Slot) (e : SignalEntry) (s : State) : State :=
  let load (s : State) : State := { s with sst := { s.sst with table := s.sst.table.set i (some e) } }
  restartReporting i e.report
    (if isInternal i || decide (producerOf i s = e.producer) then load s else changeProducer i e load s)

/-- SIGNAL_TABLE_WRITE (R2, R4). -/
def answerSignalWrite (rest : List Byte) (s : State) : Answer :=
  tableWrite 28 256 inConfig readSignalEntry writeSignal rest s

/-- An accepted link table write (R176, R184): the ports take their rates at PORT_RATE_TAKES_EFFECT; a workshop response
in flight is abandoned. -/
def writeLink (e : LinkEntry) (s : State) : State :=
  abandonResponse { s with cli := { s.cli with link := some e } }

/-- LINK_TABLE_WRITE (R19, R176, R184). -/
def answerLinkWrite (rest : List Byte) (s : State) : Answer :=
  tableWrite 15 1 inConfig (fun _ => readLinkEntry) (fun _ => writeLink) rest s

/-- LINE_TABLE_WRITE (R42, R43). -/
def answerLineWrite (rest : List Byte) (s : State) : Answer :=
  tableWrite 14 48 inConfig readLineEntry writeLine rest s

/-- CURVE_TABLE_WRITE (R50). -/
def answerCurveWrite (rest : List Byte) (s : State) : Answer :=
  tableWrite 49 16 inConfig (fun _ => readCurve) writeCurve rest s

/-- SCAN_TABLE_WRITE (R40). -/
def answerScanWrite (rest : List Byte) (s : State) : Answer :=
  tableWrite 49 1 inConfig (fun _ => readScan) (fun _ => writeScan) rest s

/-- An accepted door table write (R131). -/
def writeDoor (l : Fin 8) (e : DoorEntry) (s : State) : State :=
  { s with drm := { s.drm with table := s.drm.table.set l (some e) } }

/-- DOOR_TABLE_WRITE (R130, R131). -/
def answerDoorWrite (rest : List Byte) (s : State) : Answer :=
  tableWrite 11 8 inConfig (fun _ => readDoorEntry) writeDoor rest s

/-- GAUGE_TABLE_WRITE (R83, R84). -/
def answerGaugeWrite (rest : List Byte) (s : State) : Answer :=
  tableWrite 16 6 inConfigRun (fun _ => readGaugeEntry) (fun c e s => tellChanged 7 c (writeGauge c e s)) rest s

/-- WARNING_TABLE_WRITE (R97, R98, R110). -/
def answerWarningWrite (rest : List Byte) (s : State) : Answer :=
  tableWrite 36 96 inConfigRun (fun _ => readWarnEntry) (fun i e => writeWarning i e (.configChanged 8 i)) rest s

/-- PATTERN_TABLE_WRITE (R119, R120). -/
def answerPatternWrite (rest : List Byte) (s : State) : Answer :=
  tableWrite 8 8 inConfigRun (fun _ => readPattern) (fun p e s => tellChanged 9 p (writePattern p e s)) rest s

/-- An accepted fault class write (R151). -/
def writeClass (c : Fin 16) (e : ClassEntry) (s : State) : State :=
  { s with flt := { s.flt with table := s.flt.table.set c (some e) } }

/-- FAULT_CLASS_TABLE_WRITE (R150, R151). -/
def answerClassWrite (rest : List Byte) (s : State) : Answer :=
  tableWrite 7 16 inConfigRun (fun _ => readClass) (fun c e s => tellChanged 10 c (writeClass c e s)) rest s

/-- CALIBRATION_TABLE_WRITE (R60): the window, then index and fields. -/
def answerCalibrationWrite (rest : List Byte) (s : State) : Answer :=
  withLength 12 rest
    (if s.sdu.windowOpen then
      if u8 rest 0 = 0 then
        (readCal (rest.drop 1)).elim (refuse .range) fun e =>
          accepted [] (writeCalibration e 0xFF .management [.measuring, .standstill, .plausibility])
      else refuse .range
    else refuse .locked)

/-- TABLE_WRITE: the table named by the first body byte (R169, section 12.2). -/
def answerTableWrite (body : List Byte) (s : State) : Answer :=
  match body with
  | [] => refuse .format
  | table :: rest =>
    match table.toNat with
    | 0 => answerFrameWrite rest s
    | 1 => answerSignalWrite rest s
    | 2 => answerLinkWrite rest s
    | 3 => answerLineWrite rest s
    | 4 => answerCurveWrite rest s
    | 5 => answerScanWrite rest s
    | 6 => answerDoorWrite rest s
    | 7 => answerGaugeWrite rest s
    | 8 => answerWarningWrite rest s
    | 9 => answerPatternWrite rest s
    | 10 => answerClassWrite rest s
    | 11 => answerCalibrationWrite rest s
    | _ => refuse .unknown

/-! ### Reads (R175) -/

/-- Truth in TABLE_READ. -/
def truthCode (t : Option Bool) : Nat := t.elim 0xFF bitNat

/-- The place of an entry in the active list, the top warning at place 0: the model's choice (log entry 43). -/
def placeInList (i : Fin 96) (s : State) : Nat :=
  if inActiveList s i then (activeList s).idxOf i else 0xFF

/-- The run-time state of a warning entry (R117, section 12.5.1). -/
def warnRunBytes (i : Fin 96) (s : State) : List Byte :=
  let r := warnRun i s
  e8 r.state.code ++ e8 (truthCode r.truth)
    ++ eFlags [r.unknown, gateSatisfied ((warnEntry i s).getD .unloaded) s, r.observed]
    ++ timeLeftBytes r.timer s ++ e8 (placeInList i s)

/-- The entry body of a table at an index, with the run-time state of warning and door entries; `none` for an index
outside the table. The outer `none` is an unknown table (R175, R197). -/
def tableReadBytes (table index : Nat) (s : State) : Option (Option (List Byte)) :=
  match table with
  | 0 => some ((toFin? 64 index).map fun i => (s.frp.table[i].getD .unloaded).bytes)
  | 1 => some ((toFin? 256 index).map fun i => (s.signal i).elim (unloadedSignalBytes i) SignalEntry.bytes)
  | 2 => some ((toFin? 1 index).map fun _ => (linkOf s).bytes)
  | 3 => some ((toFin? 48 index).map fun l => (s.lsc.table[l].getD (.unloaded l)).bytes)
  | 4 => some ((toFin? 16 index).map fun i => (curveOf i s).bytes)
  | 5 => some ((toFin? 1 index).map fun _ => scanBytes (scanList s))
  | 6 => some ((toFin? 8 index).map fun l => (doorEntry l s).bytes ++ leafBytes l s)
  | 7 => some ((toFin? 6 index).map fun c => (gaugeEntry c s).bytes)
  | 8 => some ((toFin? 96 index).map fun i => ((warnEntry i s).getD .unloaded).bytes ++ warnRunBytes i s)
  | 9 => some ((toFin? 8 index).map fun p => (patternOf p s).bytes)
  | 10 => some ((toFin? 16 index).map fun c => (classOf c s).bytes)
  | 11 => some ((toFin? 1 index).map fun _ => (calOf s).bytes)
  | _ => none

/-- TABLE_READ (R175): the table byte, the table, the length, the index. -/
def answerTableRead (body : List Byte) (s : State) : Answer :=
  match body with
  | [] => refuse .format
  | table :: rest =>
    (tableReadBytes table.toNat (u8 rest 0) s).elim (refuse .unknown) fun data =>
      withLength 1 rest
        (data.elim (refuse .range) fun data => answerRead (table :: e8 (u8 rest 0) ++ data))

/-- SIGNAL_READ (R15). -/
def answerSignalRead (body : List Byte) (s : State) : Answer :=
  withLength 1 body (answerRead (signalBytes (slotAt body 0) s))

/-- One element of LIST_READ (R117). -/
def listElement (s : State) (i : Fin 96) : List Byte :=
  let e := (warnEntry i s).getD .unloaded
  e8 i ++ e8 (warnRun i s).state.code ++ e8 e.severity.code ++ e8 e.rank

/-- LIST_READ (R175): at most 12 elements from the start position. -/
def answerListRead (body : List Byte) (s : State) : Answer :=
  withLength 1 body
    (whenState outsideConfig s
      (if u8 body 0 ≤ 95 then
        let l := ((activeList s).drop (u8 body 0)).take 12
        answerRead (e8 (activeList s).length ++ eOptFF (topWarning s) ++ e8 l.length ++ l.flatMap (listElement s))
      else refuse .range))

/-- FAULT_READ (R163). -/
def answerFaultRead (body : List Byte) (s : State) : Answer := withLength 1 body (answerFaultRecord body s)

/-- IDENT_READ (R175, section 12.4). -/
def answerIdentRead (body : List Byte) (s : State) : Answer :=
  withLength 0 body
    (answerRead (identBytes ++ e16 (flagsNat (loadStates s)) ++ e8 s.opState.code
      ++ eFlags [s.gdr.homingDone, s.flt.firstStart, s.sdu.windowOpen]))

/-! ### START (R177, R178) -/

/-- A slot that is internal or has a signal table entry of producer kind other than NONE. -/
def configured (i : Slot) (s : State) : Bool :=
  isInternal i || (s.signal i).any fun e => decide (e.kind ≠ .unused)

/-- The frame path's checks of a FRAME entry (R37). -/
def frameProducerFits (e : SignalEntry) (s : State) : Bool :=
  ((toFin? 64 e.index).bind fun i => s.frp.table[i]).any fun f =>
    f.enabled && decide (topBit e.msbFirst e.startBit e.length < 8 * f.minLength)
      && e.mux.all fun m => f.selector.any fun (_, len) => decide (m < 2 ^ len)

/-- The scanner's checks of a LINE entry (R56, first step). -/
def lineProducerFits (e : SignalEntry) (s : State) : Bool :=
  (toFin? 48 e.index).any fun l =>
    (match s.lsc.scan with
      | some list => list.contains l
      | none => decide (l.val = 0))
    && (s.lsc.table[l].isSome || decide (l.val = 0))

/-- One signal table entry at START (R177): its producer, then its fallback (R14). -/
def signalFits (i : Slot) (s : State) : Bool :=
  (s.signal i).all fun e =>
    (match e.kind with
      | .frame => frameProducerFits e s
      | .line => lineProducerFits e s
      | .unused | .internal => true)
    && (isInternal i || decide (e.fallback ≠ some i))

/-- The second PULSE_SENSE line, if there is one (R56, second step). -/
def secondPulseSense (s : State) : Option (Fin 48) :=
  ((indices 48).filter fun l => s.lsc.table[l].any fun e => decide (e.cls = .pulseSense))[1]?

/-- One door entry at START (R146). -/
def doorFits (l : Fin 8) (s : State) : Bool :=
  let e := doorEntry l s
  !e.fitted
    || (portalExists (portalOf l) s
        && configured e.closedSlot s && configured e.openSlot s && configured e.edgeSlot s
        && (!lockFitted l s || e.lockedSlot.any fun i => configured i s)
        && (decide (l.val % 2 = 1)
            || (e.releaseSlot.all (fun i => configured i s) && e.requestSlot.all fun i => configured i s)))

/-- One gauge entry at START (R177). -/
def gaugeFits (c : Fin 6) (s : State) : Bool := !(gaugeEntry c s).enabled || configured (gaugeEntry c s).source s

/-- One warning entry at START (R177). -/
def warningFits (i : Fin 96) (s : State) : Bool :=
  (warnEntry i s).all fun e =>
    !e.enabled || ((decide (e.kind = .faultClass) || configured e.source s) && e.gate.all fun g => configured g.slot s)

/-- The first index of a table whose entry fails, as the table and index at fault. -/
def firstUnfit {n : Nat} (table : Nat) (fits : Fin n → State → Bool) (s : State) : Option (Nat × Nat) :=
  ((indices n).find? fun i => !fits i s).map fun i => (table, i.val)

/-- The validation of START: the first table and index at fault, in the order of R177. -/
def startFault (s : State) : Option (Nat × Nat) :=
  (if s.sdu.cal.isNone then some (11, 0) else none)
    <|> firstUnfit 1 signalFits s
    <|> (secondPulseSense s).map (fun l => (3, l.val))
    <|> firstUnfit 6 doorFits s
    <|> firstUnfit 7 gaugeFits s
    <|> firstUnfit 8 warningFits s

/-- A START that passes: the first-start mark, and the entry into RUN (R178). -/
def startPart (s : State) : State :=
  enterRun .start false { s with flt := { s.flt with firstStart := true } }

/-- START (R177, R178). -/
def answerStart (body : List Byte) (s : State) : Answer :=
  withLength 0 body
    (whenState inConfig s
      (match startFault s with
        | some (table, index) => ⟨.inconsistent, e8 table ++ e8 index, id⟩
        | none => accepted [] startPart))

/-! ### The other requests (R175) -/

/-- SWEEP (R179). -/
def answerSweep (body : List Byte) (s : State) : Answer :=
  withLength 0 body
    (whenState (fun st => decide (st = .run)) s (if standstill s then accepted [] enterSweep else refuse .moving))

/-- PARK (R180). -/
def answerPark (body : List Byte) (s : State) : Answer :=
  withLength 0 body (whenState inRunSweep s (accepted [] (enterParked .parkRequest)))

/-- RESET (R182). -/
def answerReset (body : List Byte) (_s : State) : Answer := withLength 0 body (accepted [] commandedReset)

/-- WARNING_ACK (R106): one entry, or all in ascending index. -/
def acknowledgeNamed (entry : Option (Fin 96)) (s : State) : State :=
  match entry with
  | some i => acknowledge i s
  | none => (indices 96).foldl (fun s i => acknowledge i s) s

/-- WARNING_ACK (R106). -/
def answerWarningAck (body : List Byte) (s : State) : Answer :=
  withLength 1 body
    (whenState inRunSweep s
      ((absentFF 96 (u8 body 0)).elim (refuse .range) fun entry => accepted [] (acknowledgeNamed entry)))

/-- The observed flags of `count` entries from `first` (R109). -/
def observedFlags (first count : Nat) (s : State) : List Bool :=
  (List.range count).map fun k => (toFin? 96 (first + k)).any fun i => (warnRun i s).observed

/-- Flags packed 8 to a byte, bit 0 first (section 12.4). -/
def packFlags (count : Nat) (l : List Bool) : List Byte :=
  (List.range ((count + 7) / 8)).flatMap fun j => eFlags ((l.drop (8 * j)).take 8)

/-- The observed flags of the range are cleared (R109). -/
def clearObserved (first count : Nat) (s : State) : State :=
  (indices 96).foldl
    (fun s i =>
      if first ≤ i.val ∧ i.val < first + count then setWarnRun i { warnRun i s with observed := false } s else s) s

/-- OBSERVED_READ_CLEAR (R109). -/
def answerObserved (body : List Byte) (s : State) : Answer :=
  let first := u8 body 0
  let count := u8 body 1
  withLength 2 body
    (if first ≤ 95 ∧ 1 ≤ count ∧ count ≤ 96 ∧ first + count ≤ 96 then
      accepted (e8 first ++ e8 count ++ packFlags count (observedFlags first count s)) (clearObserved first count)
    else refuse .range)

/-- CHIME_PLAY (R127). -/
def answerChimePlay (body : List Byte) (s : State) : Answer :=
  withLength 1 body
    (whenState inRunSweep s ((toFin? 8 (u8 body 0)).elim (refuse .range) fun p => accepted [] (place .display p)))

/-- CHIME_STOP (R127). -/
def answerChimeStop (body : List Byte) (s : State) : Answer :=
  withLength 0 body (whenState inRunSweep s (accepted [] (withdraw .display)))

/-- TRIP_RESET (R77): trip A 0, trip B 1. -/
def answerTripReset (body : List Byte) (_s : State) : Answer :=
  withLength 1 body
    (if u8 body 0 = 0 then accepted [] (valueWrite tripA 0 .valid)
    else if u8 body 0 = 1 then accepted [] (valueWrite tripB 0 .valid)
    else refuse .range)

/-- ODOMETER_LOAD (R76): a load after an accepted one is LOCKED; a value out of range leaves the load available. -/
def answerOdometerLoad (body : List Byte) (s : State) : Answer :=
  withLength 4 body
    (if s.sdu.loadUsed then refuse .locked
    else if u32 body 0 ≤ 999999999 then accepted [] (loadOdometer (u32 body 0))
    else refuse .range)

/-- CAL_CLOSE (R63). -/
def answerCalClose (body : List Byte) (_s : State) : Answer := withLength 0 body (accepted [] closeWindow)

/-- FAULT_RESTORE (R162). -/
def answerFaultRestore (body : List Byte) (s : State) : Answer :=
  withLength 40 body
    (if s.opState = .config ∧ s.flt.firstStart = false then
      (readFaultRecord body).elim (refuse .range) fun r =>
        if (recordOf r.code s).isSome then refuse .range
        else if s.flt.records.length < 32 then accepted [] (restoreRecord r)
        else refuse .full
    else refuse .state)

/-- STOP_REQUEST_CLEAR (R144). -/
def answerStopClear (body : List Byte) (s : State) : Answer :=
  withLength 0 body (whenState outsideConfig s (accepted [] (clearLatch none)))

/-! ### Execution and the inbound buffer (R168, R169) -/

/-- The answer to a record by its kind (R169, section 12.4). -/
def answerRecord (r : ClRecord) (s : State) : Answer :=
  match r.kind.toNat with
  | 0x01 => answerTableWrite r.body s
  | 0x02 => answerTableRead r.body s
  | 0x03 => answerSignalRead r.body s
  | 0x04 => answerListRead r.body s
  | 0x05 => answerStart r.body s
  | 0x06 => answerSweep r.body s
  | 0x07 => answerPark r.body s
  | 0x08 => answerReset r.body s
  | 0x09 => answerWarningAck r.body s
  | 0x0A => answerObserved r.body s
  | 0x0B => answerChimePlay r.body s
  | 0x0C => answerChimeStop r.body s
  | 0x0D => answerTripReset r.body s
  | 0x0E => answerOdometerLoad r.body s
  | 0x0F => answerCalClose r.body s
  | 0x10 => answerFaultRestore r.body s
  | 0x11 => answerFaultRead r.body s
  | 0x12 => answerStopClear r.body s
  | 0x13 => answerIdentRead r.body s
  | _ => refuse .unknown

/-- A record is executed: its response is made, then it is carried out (R169, R170; log entry 29). -/
def executeRecord (r : ClRecord) (s : State) : State :=
  let a := answerRecord r s
  a.after (respond r.kind a.result a.data s)

/-- A START is held while homing has not ended (R92). -/
def heldRecord (r : ClRecord) (s : State) : Bool := decide (r.kind = 0x05) && !s.gdr.homingDone

/-- The records waiting are executed in their order, up to one that is held (R168). -/
def drainInbound : (fuel : Nat) → State → State
  | 0, s => s
  | n + 1, s =>
    match s.cli.inbound with
    | [] => s
    | r :: rest =>
      if heldRecord r s then s
      else drainInbound n (executeRecord r { s with cli := { s.cli with inbound := rest } })

/-- Every record that can be executed now is (R168). -/
def runInbound (s : State) : State := drainInbound s.cli.inbound.length s

/-- A complete record takes a free place, or is discarded with a FORMAT response that echoes its kind (R168). -/
def takeRecord (kind : Byte) (body : List Byte) (s : State) : State :=
  if prdy s then runInbound { s with cli := { s.cli with inbound := s.cli.inbound ++ [⟨kind, body⟩] } }
  else respondDiscard kind s

/-! ### The receiver (R167) -/

/-- The receiver's state replaced. -/
def setRx (rx : Receiver) (s : State) : State := { s with cli := { s.cli with rx } }

/-- The record being received is discarded (R167). -/
def discardRecord (s : State) : State := respondDiscard 0 (setRx .hunt s)

/-- A byte taken inside a record: the gap is timed from it (R167). -/
def takeInside (rx : Receiver) (s : State) : State := setRx rx { s with cli := { s.cli with gapFrom := s.now } }

/-- A byte of the kind or the body: after LEN bytes to CHECK (R167). -/
def takeBodyByte (len : Nat) (taken : List Byte) (sum byte : Byte) (s : State) : State :=
  takeInside
    (if taken.length + 1 < len then .body len (taken ++ [byte]) (sum + byte) else .check (taken ++ [byte]) (sum + byte))
    s

/-- The check byte: the record is complete, or discarded (R167). -/
def takeCheck (taken : List Byte) (sum byte : Byte) (s : State) : State :=
  if sum + byte = 0 then takeRecord (taken.headD 0) (taken.drop 1) (setRx .hunt s) else discardRecord s

/-- A byte on CRX (R167). -/
def takeByte (byte : Byte) (framingError : Bool) (s : State) : State :=
  match s.cli.rx with
  | .hunt => if byte = 0xA5 ∧ framingError = false then takeInside .length s else s
  | .length =>
    if framingError then discardRecord s
    else if 1 ≤ byte.toNat ∧ byte.toNat ≤ 61 then takeInside (.body byte.toNat [] byte) s
    else discardRecord s
  | .body len taken sum => if framingError then discardRecord s else takeBodyByte len taken sum byte s
  | .check taken sum => if framingError then discardRecord s else takeCheck taken sum byte s

/-- The gap timer has come to 5 ms inside a record (R167). -/
def gapDue (s : State) : Bool := decide (s.cli.rx ≠ .hunt) && decide (s.cli.gapFrom + 5000 ≤ s.now)

/-! ### Reporting timers (R173, R174) -/

/-- The heartbeat of a slot: its own, or the link table's default when its own is 0 (R173). -/
def heartbeatOf (i : Slot) (s : State) : Nat :=
  let own := (s.signal i).elim 0 SignalEntry.heartbeat
  if own = 0 then (linkOf s).heartbeat else own

/-- The report clock of a slot has reached its heartbeat (R173). -/
def heartbeatDue (i : Slot) (s : State) : Bool :=
  reportFlag i s && decide (heartbeatOf i s ≠ 0)
    && decide (s.cli.reports[i].clockFrom + 100000 * heartbeatOf i s ≤ s.now)

/-! ### Commands: management records -/

/-- FRAME_TABLE_WRITE (R20, R21). -/
def execFrameTableWrite (rest : List Byte) (s : State) : Host.Outcome State Fault Refusal :=
  .next (takeRecord 0x01 (0 :: rest) s)

/-- SIGNAL_TABLE_WRITE (R2, R4). -/
def execSignalTableWrite (rest : List Byte) (s : State) : Host.Outcome State Fault Refusal :=
  .next (takeRecord 0x01 (1 :: rest) s)

/-- LINK_TABLE_WRITE (R19, R176, R184). -/
def execLinkTableWrite (rest : List Byte) (s : State) : Host.Outcome State Fault Refusal :=
  .next (takeRecord 0x01 (2 :: rest) s)

/-- LINE_TABLE_WRITE (R42, R43). -/
def execLineTableWrite (rest : List Byte) (s : State) : Host.Outcome State Fault Refusal :=
  .next (takeRecord 0x01 (3 :: rest) s)

/-- CURVE_TABLE_WRITE (R50). -/
def execCurveTableWrite (rest : List Byte) (s : State) : Host.Outcome State Fault Refusal :=
  .next (takeRecord 0x01 (4 :: rest) s)

/-- SCAN_TABLE_WRITE (R40). -/
def execScanTableWrite (rest : List Byte) (s : State) : Host.Outcome State Fault Refusal :=
  .next (takeRecord 0x01 (5 :: rest) s)

/-- DOOR_TABLE_WRITE (R130, R131). -/
def execDoorTableWrite (rest : List Byte) (s : State) : Host.Outcome State Fault Refusal :=
  .next (takeRecord 0x01 (6 :: rest) s)

/-- GAUGE_TABLE_WRITE (R83, R84). -/
def execGaugeTableWrite (rest : List Byte) (s : State) : Host.Outcome State Fault Refusal :=
  .next (takeRecord 0x01 (7 :: rest) s)

/-- WARNING_TABLE_WRITE (R97, R98, R110). -/
def execWarningTableWrite (rest : List Byte) (s : State) : Host.Outcome State Fault Refusal :=
  .next (takeRecord 0x01 (8 :: rest) s)

/-- PATTERN_TABLE_WRITE (R119, R120). -/
def execPatternTableWrite (rest : List Byte) (s : State) : Host.Outcome State Fault Refusal :=
  .next (takeRecord 0x01 (9 :: rest) s)

/-- FAULT_CLASS_TABLE_WRITE (R150, R151). -/
def execFaultClassTableWrite (rest : List Byte) (s : State) : Host.Outcome State Fault Refusal :=
  .next (takeRecord 0x01 (10 :: rest) s)

/-- CALIBRATION_TABLE_WRITE (R59, R60). -/
def execCalibrationTableWrite (rest : List Byte) (s : State) : Host.Outcome State Fault Refusal :=
  .next (takeRecord 0x01 (11 :: rest) s)

/-- TABLE_READ (R175). -/
def execTableRead (body : List Byte) (s : State) : Host.Outcome State Fault Refusal :=
  .next (takeRecord 0x02 body s)

/-- SIGNAL_READ (R15). -/
def execSignalRead (body : List Byte) (s : State) : Host.Outcome State Fault Refusal :=
  .next (takeRecord 0x03 body s)

/-- LIST_READ (R175). -/
def execListRead (body : List Byte) (s : State) : Host.Outcome State Fault Refusal :=
  .next (takeRecord 0x04 body s)

/-- START (R177, R178). -/
def execStart (body : List Byte) (s : State) : Host.Outcome State Fault Refusal :=
  .next (takeRecord 0x05 body s)

/-- SWEEP (R179). -/
def execSweep (body : List Byte) (s : State) : Host.Outcome State Fault Refusal :=
  .next (takeRecord 0x06 body s)

/-- PARK (R180). -/
def execPark (body : List Byte) (s : State) : Host.Outcome State Fault Refusal :=
  .next (takeRecord 0x07 body s)

/-- RESET (R182). -/
def execReset (body : List Byte) (s : State) : Host.Outcome State Fault Refusal :=
  .next (takeRecord 0x08 body s)

/-- WARNING_ACK (R106). -/
def execWarningAck (body : List Byte) (s : State) : Host.Outcome State Fault Refusal :=
  .next (takeRecord 0x09 body s)

/-- OBSERVED_READ_CLEAR (R109). -/
def execObservedReadClear (body : List Byte) (s : State) : Host.Outcome State Fault Refusal :=
  .next (takeRecord 0x0A body s)

/-- CHIME_PLAY (R127). -/
def execChimePlay (body : List Byte) (s : State) : Host.Outcome State Fault Refusal :=
  .next (takeRecord 0x0B body s)

/-- CHIME_STOP (R127). -/
def execChimeStop (body : List Byte) (s : State) : Host.Outcome State Fault Refusal :=
  .next (takeRecord 0x0C body s)

/-- TRIP_RESET (R77). -/
def execTripReset (body : List Byte) (s : State) : Host.Outcome State Fault Refusal :=
  .next (takeRecord 0x0D body s)

/-- ODOMETER_LOAD (R76). -/
def execOdometerLoad (body : List Byte) (s : State) : Host.Outcome State Fault Refusal :=
  .next (takeRecord 0x0E body s)

/-- CAL_CLOSE (R63). -/
def execCalClose (body : List Byte) (s : State) : Host.Outcome State Fault Refusal :=
  .next (takeRecord 0x0F body s)

/-- FAULT_RESTORE (R162). -/
def execFaultRestore (body : List Byte) (s : State) : Host.Outcome State Fault Refusal :=
  .next (takeRecord 0x10 body s)

/-- FAULT_READ (R163). -/
def execFaultRead (body : List Byte) (s : State) : Host.Outcome State Fault Refusal :=
  .next (takeRecord 0x11 body s)

/-- STOP_REQUEST_CLEAR (R144). -/
def execStopRequestClear (body : List Byte) (s : State) : Host.Outcome State Fault Refusal :=
  .next (takeRecord 0x12 body s)

/-- IDENT_READ (R175). -/
def execIdentRead (body : List Byte) (s : State) : Host.Outcome State Fault Refusal :=
  .next (takeRecord 0x13 body s)

/-- UNKNOWN_KIND_RECORD (R169): any other kind, those the part sends among them. -/
def execUnknownKindRecord (kind : Byte) (body : List Byte) (s : State) : Host.Outcome State Fault Refusal :=
  .next (takeRecord kind body s)

/-! ### Commands: the link -/

/-- CL_RECORD_DISCARD (R167). -/
def execClRecordDiscard (s : State) : Host.Outcome State Fault Refusal := .next (discardRecord s)

/-- RECEIVE_GAP_EXPIRY (R167). -/
def execReceiveGapExpiry (s : State) : Host.Outcome State Fault Refusal :=
  if gapDue s then .next (discardRecord s) else .next s

/-- RECEIVED_BYTE (R167). -/
def execReceivedByte (byte : Byte) (framingError : Bool) (s : State) : Host.Outcome State Fault Refusal :=
  .next (takeByte byte framingError s)

/-- LRDY_ASSERTED (R171). -/
def execLrdyAsserted (s : State) : Host.Outcome State Fault Refusal :=
  .next (transmit { s with cli := { s.cli with lrdy := true } })

/-- LRDY_DEASSERTED (R171): a record already started is sent to its end. -/
def execLrdyDeasserted (s : State) : Host.Outcome State Fault Refusal :=
  .next { s with cli := { s.cli with lrdy := false } }

/-- RECORD_TRANSMIT_END (R171): the transmitter is free and chooses the next record. -/
def execRecordTransmitEnd (s : State) : Host.Outcome State Fault Refusal :=
  if s.cli.tx.isSome then .next (transmit { s with cli := { s.cli with tx := none } }) else .next s

/-- HEARTBEAT (R173). -/
def execHeartbeat (slot : Slot) (s : State) : Host.Outcome State Fault Refusal :=
  if heartbeatDue slot s then .next (joinUpdates slot s) else .next s

/-- MINIMUM_INTERVAL_REACHED (R174): a pending slot that has become eligible makes the transmitter choose. -/
def execMinimumIntervalReached (slot : Slot) (s : State) : Host.Outcome State Fault Refusal :=
  if s.cli.updates.contains slot && eligible s slot then .next (transmit s) else .next s

/-- HOMING_END (R91, R92): CLI takes the gauge drive's report, and the records held behind a START are executed. -/
def execHomingEnd (s : State) : Host.Outcome State Fault Refusal :=
  let s' := takeArrival .homingEnd s
  if s.gdr.homingIntervals = 65 ∧ s.gdr.homingDone = false then .next (runInbound (endHoming s')) else .next s'

/-- PORT_RATE_TAKES_EFFECT (R19, R184): at the next idle of the segment the port takes the link table's settings. WS
takes them at its recovery while it is bus-off (R185), and not while a segment runs to its end. -/
def execPortRateTakesEffect (port : CanPort) (s : State) : Host.Outcome State Fault Refusal :=
  match port with
  | .va => .next { s with frp := { s.frp with vaRate := (linkOf s).va } }
  | .vb => .next { s with frp := { s.frp with vbRate := (linkOf s).vb } }
  | .ws => if s.wsp.busOffUntil.isSome || s.wsp.orphan.isSome then .next s else .next (applyWsSettings s)

end Sys2Proof.Machine
end

