-- ==== Sys2Proof/Machine/Clock.lean ====
section
/-! DEFINITION. What the part does by itself when no command waits: it takes an arrival that stands in flight, or the
expiry of a timer that has come to its time, and else the reference advances by one microsecond (log entries 2, 3). -/

namespace Sys2Proof.Machine

/-- The sources whose arrivals keep their order: the reports of one source of the fault memory (R153; the aging report
comes from the speed unit), and the placings and withdrawals of one requester (R122). -/
inductive Channel where
  | lines
  | frames
  | speed
  | doors
  | chime (who : Requester)
deriving DecidableEq, Repr

/-- The source of a fault code's reports (R149). -/
def sourceOf : FaultCode → Channel
  | .line _ _ => .lines
  | .frame _ _ => .frames
  | .speed => .speed
  | .door _ _ => .doors

/-- The channel of an arrival; `none` for one that keeps no order with others (R11). -/
def channelOf : Instr → Option Channel
  | .faultConditionStart code _ | .faultConditionEnd code _ => some (sourceOf code)
  | .agingPass => some .speed
  | .requestPlacing who _ | .requestWithdrawal who => some (.chime who)
  | _ => none

/-- The arrivals that may be taken next: the first of each channel, and all that keep no order. -/
def readyArrivals : (seen : List Channel) → List Instr → List Instr
  | _, [] => []
  | seen, c :: l =>
    match channelOf c with
    | none => c :: readyArrivals seen l
    | some ch => if seen.contains ch then readyArrivals seen l else c :: readyArrivals (ch :: seen) l

/-- A command for a timer that has come to its time. -/
def whenDue (b : Bool) (c : Instr) : List Instr := if b then [c] else []

/-- The burst timer's command: the end of the on-time or of the burst (R121). -/
def burstCommand (s : State) : List Instr :=
  match s.chg.playing with
  | none => []
  | some p => whenDue (decide (p.due ≤ s.now)) (if p.inTone then .onTimeEnd else .burstEnd)

/-- The timers of the vehicle side that have come to their time. -/
def dueVehicle (s : State) : List Instr :=
  (indices 64).flatMap (fun i => whenDue (isDue (frameDue (frameRun i s)) s) (.frameTimerExpiry i))
    ++ whenDue (isDue s.lsc.passDue s) .parkedPassStart
    ++ whenDue (isDue s.lsc.scanDue s) (.scanSlotExpiry (Config.lineCode s.freeCount))
    ++ whenDue (isDue s.sdu.boundDue s) .boundCheck
    ++ whenDue (standstillDue s) .standstillTimerExpiry
    ++ whenDue (s.sdu.plausFrom.any fun t => decide (t + 10000 * (calOf s).plausTime ≤ s.now)) .plausibilityTimerExpiry

/-- The timers of the driver's side that have come to their time. -/
def dueDriver (s : State) : List Instr :=
  whenDue (decide (s.gdr.intervalDue ≤ s.now)) .gaugeInterval
    ++ (indices 96).flatMap (fun i =>
        whenDue ((warnEntry i s).any (fun e => e.enabled && evaluated e s) && isDue (warnRun i s).timer s)
          (.warningTimerExpiry i))
    ++ whenDue (decide (s.wrn.flashDue ≤ s.now)) .flashClock
    ++ burstCommand s
    ++ (indices 8).flatMap fun l => whenDue (isDue (leafRun l s).transitDue s) (.transitTimerExpiry l)

/-- The timers of the two links and of the operating state that have come to their time. -/
def dueLinks (s : State) : List Instr :=
  whenDue (gapDue s) .receiveGapExpiry
    ++ (indices 256).flatMap (fun i =>
        whenDue (heartbeatDue i s && !s.cli.updates.contains i) (.heartbeat i))
    ++ s.cli.updates.flatMap (fun i =>
        whenDue (eligible s i && s.cli.tx.isNone && s.cli.lrdy) (.minimumIntervalReached i))
    ++ whenDue (s.opState.live && isDue s.cli.parkDue s) .parkDelayExpiry
    ++ whenDue (isDue s.wsp.testDue s) .testTimerExpiry
    ++ whenDue (s.wsp.response.any fun r => isDue r.pacingDue s) .pacingExpiry
    ++ whenDue (isDue s.wsp.busOffUntil s) .busOffRecovery

/-- Everything that may be taken next. -/
def ready (s : State) : List Instr :=
  readyArrivals [] s.inFlight ++ dueVehicle s ++ dueDriver s ++ dueLinks s

/-- One microsecond of the reference. -/
def tick (s : State) : State := { s with now := s.now + 1 }

/-- A command becomes the next one to run, and the counter of free values is used. -/
def putInFront (c : Instr) (s : State) : State := { bumpFree s with pending := [c] }

/-- The step of a part for which no command waits; which of several ready ones comes first is open. -/
def idle (s : State) : State :=
  match (ready s)[Config.pick s.freeCount % (ready s).length]? with
  | some c => putInFront c s
  | none => tick s

end Sys2Proof.Machine
end

