-- ==== Sys2Proof/Machine/Dispatch.lean ====
section
/-! DEFINITION. The meaning of every command: one arm per constructor of `Instr`, in the order of spec/opcode_table.json,
each one call of the command's own meaning. -/

namespace Sys2Proof.Machine

def exec (i : Instr) (s : State) : Host.Outcome State Fault Refusal :=
  match i with
  | .powerOnReset => Sys2Proof.Machine.execPowerOnReset s
  | .frameTableWrite rest => Sys2Proof.Machine.execFrameTableWrite rest s
  | .signalTableWrite rest => Sys2Proof.Machine.execSignalTableWrite rest s
  | .linkTableWrite rest => Sys2Proof.Machine.execLinkTableWrite rest s
  | .lineTableWrite rest => Sys2Proof.Machine.execLineTableWrite rest s
  | .curveTableWrite rest => Sys2Proof.Machine.execCurveTableWrite rest s
  | .scanTableWrite rest => Sys2Proof.Machine.execScanTableWrite rest s
  | .doorTableWrite rest => Sys2Proof.Machine.execDoorTableWrite rest s
  | .gaugeTableWrite rest => Sys2Proof.Machine.execGaugeTableWrite rest s
  | .warningTableWrite rest => Sys2Proof.Machine.execWarningTableWrite rest s
  | .patternTableWrite rest => Sys2Proof.Machine.execPatternTableWrite rest s
  | .faultClassTableWrite rest => Sys2Proof.Machine.execFaultClassTableWrite rest s
  | .calibrationTableWrite rest => Sys2Proof.Machine.execCalibrationTableWrite rest s
  | .tableRead body => Sys2Proof.Machine.execTableRead body s
  | .signalRead body => Sys2Proof.Machine.execSignalRead body s
  | .listRead body => Sys2Proof.Machine.execListRead body s
  | .start body => Sys2Proof.Machine.execStart body s
  | .sweep body => Sys2Proof.Machine.execSweep body s
  | .park body => Sys2Proof.Machine.execPark body s
  | .reset body => Sys2Proof.Machine.execReset body s
  | .warningAck body => Sys2Proof.Machine.execWarningAck body s
  | .observedReadClear body => Sys2Proof.Machine.execObservedReadClear body s
  | .chimePlay body => Sys2Proof.Machine.execChimePlay body s
  | .chimeStop body => Sys2Proof.Machine.execChimeStop body s
  | .tripReset body => Sys2Proof.Machine.execTripReset body s
  | .odometerLoad body => Sys2Proof.Machine.execOdometerLoad body s
  | .calClose body => Sys2Proof.Machine.execCalClose body s
  | .faultRestore body => Sys2Proof.Machine.execFaultRestore body s
  | .faultRead body => Sys2Proof.Machine.execFaultRead body s
  | .stopRequestClear body => Sys2Proof.Machine.execStopRequestClear body s
  | .identRead body => Sys2Proof.Machine.execIdentRead body s
  | .unknownKindRecord kind body => Sys2Proof.Machine.execUnknownKindRecord kind body s
  | .clRecordDiscard => Sys2Proof.Machine.execClRecordDiscard s
  | .receiveGapExpiry => Sys2Proof.Machine.execReceiveGapExpiry s
  | .lrdyAsserted => Sys2Proof.Machine.execLrdyAsserted s
  | .lrdyDeasserted => Sys2Proof.Machine.execLrdyDeasserted s
  | .recordTransmitEnd => Sys2Proof.Machine.execRecordTransmitEnd s
  | .heartbeat slot => Sys2Proof.Machine.execHeartbeat slot s
  | .minimumIntervalReached slot => Sys2Proof.Machine.execMinimumIntervalReached slot s
  | .portRateTakesEffect port => Sys2Proof.Machine.execPortRateTakesEffect port s
  | .frameReceived port extended ident dlc data => Sys2Proof.Machine.execFrameReceived port extended ident dlc data s
  | .frameTimerExpiry entry => Sys2Proof.Machine.execFrameTimerExpiry entry s
  | .scanSlotExpiry code => Sys2Proof.Machine.execScanSlotExpiry code s
  | .parkedPassStart => Sys2Proof.Machine.execParkedPassStart s
  | .piEdge => Sys2Proof.Machine.execPiEdge s
  | .boundCheck => Sys2Proof.Machine.execBoundCheck s
  | .standstillTimerExpiry => Sys2Proof.Machine.execStandstillTimerExpiry s
  | .plausibilityTimerExpiry => Sys2Proof.Machine.execPlausibilityTimerExpiry s
  | .frameSpeedNotification => Sys2Proof.Machine.execFrameSpeedNotification s
  | .gaugeInterval => Sys2Proof.Machine.execGaugeInterval s
  | .homingEnd => Sys2Proof.Machine.execHomingEnd s
  | .sweepComplete => Sys2Proof.Machine.execSweepComplete s
  | .evaluation slot => Sys2Proof.Machine.execEvaluation slot s
  | .warningTimerExpiry entry => Sys2Proof.Machine.execWarningTimerExpiry entry s
  | .requestPlacing who pattern => Sys2Proof.Machine.execRequestPlacing who pattern s
  | .requestWithdrawal who => Sys2Proof.Machine.execRequestWithdrawal who s
  | .onTimeEnd => Sys2Proof.Machine.execOnTimeEnd s
  | .burstEnd => Sys2Proof.Machine.execBurstEnd s
  | .doorInputNotification slot => Sys2Proof.Machine.execDoorInputNotification slot s
  | .transitTimerExpiry leaf => Sys2Proof.Machine.execTransitTimerExpiry leaf s
  | .faultConditionStart code cls => Sys2Proof.Machine.execFaultConditionStart code cls s
  | .faultConditionEnd code cls => Sys2Proof.Machine.execFaultConditionEnd code cls s
  | .agingPass => Sys2Proof.Machine.execAgingPass s
  | .cliNotification slot => Sys2Proof.Machine.execCliNotification slot s
  | .parkDelayExpiry => Sys2Proof.Machine.execParkDelayExpiry s
  | .wspSpeedNotification => Sys2Proof.Machine.execWspSpeedNotification s
  | .readIdent request => Sys2Proof.Machine.execReadIdent request s
  | .readFaultCount request => Sys2Proof.Machine.execReadFaultCount request s
  | .readFaultRecord request => Sys2Proof.Machine.execReadFaultRecord request s
  | .clearFaults request => Sys2Proof.Machine.execClearFaults request s
  | .readSignal request => Sys2Proof.Machine.execReadSignal request s
  | .readLine request => Sys2Proof.Machine.execReadLine request s
  | .readDoor request => Sys2Proof.Machine.execReadDoor request s
  | .clearDoorCounters request => Sys2Proof.Machine.execClearDoorCounters request s
  | .readSpeed request => Sys2Proof.Machine.execReadSpeed request s
  | .writeCal request => Sys2Proof.Machine.execWriteCal request s
  | .testTelltale request => Sys2Proof.Machine.execTestTelltale request s
  | .testGauge request => Sys2Proof.Machine.execTestGauge request s
  | .testChime request => Sys2Proof.Machine.execTestChime request s
  | .testEnd request => Sys2Proof.Machine.execTestEnd request s
  | .unknownServiceRequest request => Sys2Proof.Machine.execUnknownServiceRequest request s
  | .testTimerExpiry => Sys2Proof.Machine.execTestTimerExpiry s
  | .pacingExpiry => Sys2Proof.Machine.execPacingExpiry s
  | .segmentSent => Sys2Proof.Machine.execSegmentSent s
  | .segmentFailed => Sys2Proof.Machine.execSegmentFailed s
  | .busOffRecovery => Sys2Proof.Machine.execBusOffRecovery s
  | .receivedByte byte framingError => Sys2Proof.Machine.execReceivedByte byte framingError s
  | .flashClock => Sys2Proof.Machine.execFlashClock s

end Sys2Proof.Machine
end

