-- ==== Sys2Proof/Safety.lean ====
section
/-! DEFINITION. What the statements about this part are said with: the pieces of its state and which of them a command
may change (the frame), the records and request frames that commands stand for, and the invariants of the part. -/

namespace Sys2Proof.Machine

/-! ### The sending side of CL -/

/-- No record can start transmission now (R171). -/
def sendingHeld (s : State) : Bool := s.cli.tx.isSome || !s.cli.lrdy

/-- A response was made, and the transmitter took the oldest one if it was free (R170, R171). -/
def Answered (kind : Byte) (result : Result) (data : List Byte) (s t : State) : Prop :=
  let all := s.cli.responses ++ [⟨kind, result, data, false⟩]
  if sendingHeld s then t.cli.responses = all ∧ t.cli.tx = s.cli.tx
  else t.cli.responses = all.tail ∧ t.cli.tx = all.head?.map Response.bytes

/-- Events reached the queue in this order while the transmitter could take none: those beyond 64 are dropped, and the
overrun mark tells of them (R172). -/
def Queued (es : List Event) (s t : State) : Prop :=
  t.cli.events = s.cli.events ++ es.take (64 - s.cli.events.length)
    ∧ t.cli.overrun = (s.cli.overrun || decide (64 - s.cli.events.length < es.length))

/-- While no record can start transmission, responses stay, the record being sent goes on, and the event queue only
takes events in (R171, R172). -/
structure OnlyQueues (s t : State) : Prop where
  grows : sendingHeld s = true →
    t.cli.tx = s.cli.tx ∧ t.cli.lrdy = s.cli.lrdy ∧ t.cli.responses = s.cli.responses ∧ ∃ es, Queued es s t

/-! ### The frame -/

/-- The pieces of the state, each a group of registers that one rule changes together. The last five are bounds and
orders that hold of a piece across a step, whatever the piece takes in. -/
inductive Piece where
  | now
  | freeCount
  | opState
  | slots
  | signalTable
  | frameTable
  | frameRuns
  | senderFlags
  | vehicleRates
  | lineTable
  | curves
  | scanTable
  | lines
  | scanPlay
  | senderFault
  | calibration
  | calWindow
  | measurement
  | residue
  | odometerLoad
  | plausibility
  | gaugeTable
  | gaugeRuns
  | homing
  | sweepPhase
  | gaugeClock
  | warnTable
  | warnRuns
  | warnList
  | flash
  | patternTable
  | requests
  | playing
  | doorTable
  | leaves
  | portals
  | latch
  | classTable
  | records
  | overflow
  | firstStart
  | link
  | receiver
  | inbound
  | responses
  | events
  | updates
  | parkDelay
  | transmitter
  | lrdy
  | wake
  | wsSettings
  | wsErrors
  | wsResponse
  | wsTest
  | inFlight
  | pending
  /-- arrivals in flight stay, in their order, before what is added -/
  | arrivals
  /-- an event queue within its 64 places stays within them (R172) -/
  | eventBound
  /-- no response joins the list (R170) -/
  | noResponse
  /-- a pending-update set of distinct slots stays one (R173) -/
  | updateSet
  /-- what the queues of CL do while nothing can be sent (R171, R172) -/
  | queues
deriving DecidableEq, Repr

/-- The piece is the same in both states; for the last five, what the piece keeps. -/
def Piece.kept (p : Piece) (s t : State) : Prop :=
  match p with
  | .now => t.now = s.now
  | .freeCount => t.freeCount = s.freeCount
  | .opState => t.opState = s.opState
  | .slots => t.sst.slots = s.sst.slots
  | .signalTable => t.sst.table = s.sst.table
  | .frameTable => t.frp.table = s.frp.table
  | .frameRuns => t.frp.run = s.frp.run
  | .senderFlags => t.frp.senderErr = s.frp.senderErr
  | .vehicleRates => t.frp.vaRate = s.frp.vaRate ∧ t.frp.vbRate = s.frp.vbRate
  | .lineTable => t.lsc.table = s.lsc.table
  | .curves => t.lsc.curves = s.lsc.curves
  | .scanTable => t.lsc.scan = s.lsc.scan
  | .lines => t.lsc.lines = s.lsc.lines
  | .scanPlay => t.lsc.scanPos = s.lsc.scanPos ∧ t.lsc.scanDue = s.lsc.scanDue ∧ t.lsc.passDue = s.lsc.passDue
  | .senderFault => t.lsc.senderFault = s.lsc.senderFault
  | .calibration => t.sdu.cal = s.sdu.cal
  | .calWindow => t.sdu.windowOpen = s.sdu.windowOpen
  | .measurement =>
    t.sdu.meas = s.sdu.meas ∧ t.sdu.filterRef = s.sdu.filterRef ∧ t.sdu.standFrom = s.sdu.standFrom
      ∧ t.sdu.boundDue = s.sdu.boundDue
  | .residue => t.sdu.residue = s.sdu.residue
  | .odometerLoad => t.sdu.preload = s.sdu.preload ∧ t.sdu.loadUsed = s.sdu.loadUsed
  | .plausibility =>
    t.sdu.plausPresent = s.sdu.plausPresent ∧ t.sdu.plausFrom = s.sdu.plausFrom
      ∧ t.sdu.implausible = s.sdu.implausible
  | .gaugeTable => t.gdr.table = s.gdr.table
  | .gaugeRuns => t.gdr.run = s.gdr.run
  | .homing => t.gdr.homingIntervals = s.gdr.homingIntervals ∧ t.gdr.homingDone = s.gdr.homingDone
  | .sweepPhase => t.gdr.sweepPhase = s.gdr.sweepPhase
  | .gaugeClock => t.gdr.intervalDue = s.gdr.intervalDue
  | .warnTable => t.wrn.table = s.wrn.table
  | .warnRuns => t.wrn.run = s.wrn.run
  | .warnList => t.wrn.joinCounter = s.wrn.joinCounter ∧ t.wrn.reportedTop = s.wrn.reportedTop
  | .flash => t.wrn.flashLit = s.wrn.flashLit ∧ t.wrn.flashDue = s.wrn.flashDue
  | .patternTable => t.chg.table = s.chg.table
  | .requests => t.chg.requests = s.chg.requests ∧ t.chg.seq = s.chg.seq
  | .playing => t.chg.playing = s.chg.playing
  | .doorTable => t.drm.table = s.drm.table
  | .leaves => t.drm.leaves = s.drm.leaves
  | .portals => t.drm.portals = s.drm.portals
  | .latch => t.drm.latch = s.drm.latch
  | .classTable => t.flt.table = s.flt.table
  | .records => t.flt.records = s.flt.records
  | .overflow => t.flt.overflow = s.flt.overflow
  | .firstStart => t.flt.firstStart = s.flt.firstStart
  | .link => t.cli.link = s.cli.link
  | .receiver => t.cli.rx = s.cli.rx ∧ t.cli.gapFrom = s.cli.gapFrom
  | .inbound => t.cli.inbound = s.cli.inbound
  | .responses => t.cli.responses = s.cli.responses
  | .events => t.cli.events = s.cli.events ∧ t.cli.overrun = s.cli.overrun
  | .updates => t.cli.updates = s.cli.updates ∧ t.cli.reports = s.cli.reports
  | .parkDelay => t.cli.parkDue = s.cli.parkDue
  | .transmitter => t.cli.tx = s.cli.tx
  | .lrdy => t.cli.lrdy = s.cli.lrdy
  | .wake => t.cli.wake = s.cli.wake
  | .wsSettings => t.wsp.settings = s.wsp.settings
  | .wsErrors => t.wsp.txErrors = s.wsp.txErrors ∧ t.wsp.busOffUntil = s.wsp.busOffUntil
  | .wsResponse => t.wsp.response = s.wsp.response ∧ t.wsp.orphan = s.wsp.orphan
  | .wsTest => t.wsp.test = s.wsp.test ∧ t.wsp.testDue = s.wsp.testDue
  | .inFlight => t.inFlight = s.inFlight
  | .pending => t.pending = s.pending
  | .arrivals => s.inFlight <+: t.inFlight
  | .eventBound => s.cli.events.length ≤ 64 → t.cli.events.length ≤ 64
  | .noResponse => t.cli.responses <:+ s.cli.responses
  | .updateSet => s.cli.updates.Nodup → t.cli.updates.Nodup
  | .queues => OnlyQueues s t

/-- A command changes the named pieces and no others. -/
def ChangesOnly (ps : List Piece) (s t : State) : Prop := ∀ p, p ∉ ps → p.kept s t

/-- What the sending side of CL changes when it takes an event or an update, or starts a record (R171). -/
def sending : List Piece := [.responses, .events, .updates, .transmitter, .wake]

/-- What it changes when it takes a response: no event and no update leaves its place for one (R171). -/
def answering : List Piece := [.noResponse, .queues, .responses, .transmitter, .wake]

/-- What a slot write changes: the slots, and the notifications it makes (R7, R10). -/
def writing : List Piece := [.slots, .inFlight]

/-- What a re-formation of VEHICLE_SPEED changes (R71). -/
def reforming : List Piece := .calWindow :: .plausibility :: writing ++ sending

/-- What the measurement changes (R65 to R68). -/
def measuring : List Piece := .measurement :: reforming

/-- What an evaluation of warning entries changes (R99). -/
def warning : List Piece := .warnRuns :: .warnList :: writing ++ sending

/-- What arbitration and the requests of the chime generator change (R122 to R126). -/
def chiming : List Piece := [.requests, .playing, .portals]

/-- What a derivation of doors changes (R133 to R144). -/
def doors : List Piece := .leaves :: .portals :: .latch :: .wake :: writing ++ sending

/-- What a change of the fault memory's list changes, with all it hands on (R159). -/
def recording : List Piece := .records :: .overflow :: warning ++ reforming

/-- What a frame that is taken changes (R22 to R35). -/
def framing : List Piece := .frameRuns :: .senderFlags :: writing ++ sending

/-- What a sample of a line changes (R44 to R52). -/
def sampling : List Piece := .lines :: .senderFault :: measuring

/-- What an entry into RUN changes (R178, R181). -/
def runEntry : List Piece :=
  .freeCount :: .opState :: .parkDelay :: .sweepPhase :: .gaugeRuns :: .scanPlay :: .frameRuns :: measuring ++ warning
    ++ doors

/-- What an entry into PARKED changes (R180). -/
def parkEntering : List Piece :=
  .opState :: .parkDelay :: .sweepPhase :: .gaugeRuns :: .scanPlay :: .frameRuns :: .wsTest :: .arrivals
    :: measuring ++ warning ++ chiming

/-- What the blocks change when they are told of an entry into RUN (R178, R181). -/
def telling : List Piece := .sweepPhase :: .gaugeRuns :: .scanPlay :: .frameRuns :: measuring ++ warning ++ doors

/-- What the commanded reset of the blocks changes (R182). -/
def resetting : List Piece :=
  .freeCount :: .frameRuns :: .senderFlags :: .scanPlay :: .gaugeRuns :: .sweepPhase :: .leaves :: .portals :: .latch
    :: .records :: .requests :: .playing :: .wsResponse :: .wsTest :: .arrivals :: measuring ++ warning

/-- What CLI's taking of a notification changes (R11). -/
def noticing : List Piece := runEntry ++ parkEntering

/-! ### The commands that are records and requests -/

/-- The record that a management row stands for (R196, R197). -/
def managementRecord : Instr → Option ClRecord
  | .frameTableWrite rest => some ⟨0x01, 0 :: rest⟩
  | .signalTableWrite rest => some ⟨0x01, 1 :: rest⟩
  | .linkTableWrite rest => some ⟨0x01, 2 :: rest⟩
  | .lineTableWrite rest => some ⟨0x01, 3 :: rest⟩
  | .curveTableWrite rest => some ⟨0x01, 4 :: rest⟩
  | .scanTableWrite rest => some ⟨0x01, 5 :: rest⟩
  | .doorTableWrite rest => some ⟨0x01, 6 :: rest⟩
  | .gaugeTableWrite rest => some ⟨0x01, 7 :: rest⟩
  | .warningTableWrite rest => some ⟨0x01, 8 :: rest⟩
  | .patternTableWrite rest => some ⟨0x01, 9 :: rest⟩
  | .faultClassTableWrite rest => some ⟨0x01, 10 :: rest⟩
  | .calibrationTableWrite rest => some ⟨0x01, 11 :: rest⟩
  | .tableRead body => some ⟨0x02, body⟩
  | .signalRead body => some ⟨0x03, body⟩
  | .listRead body => some ⟨0x04, body⟩
  | .start body => some ⟨0x05, body⟩
  | .sweep body => some ⟨0x06, body⟩
  | .park body => some ⟨0x07, body⟩
  | .reset body => some ⟨0x08, body⟩
  | .warningAck body => some ⟨0x09, body⟩
  | .observedReadClear body => some ⟨0x0A, body⟩
  | .chimePlay body => some ⟨0x0B, body⟩
  | .chimeStop body => some ⟨0x0C, body⟩
  | .tripReset body => some ⟨0x0D, body⟩
  | .odometerLoad body => some ⟨0x0E, body⟩
  | .calClose body => some ⟨0x0F, body⟩
  | .faultRestore body => some ⟨0x10, body⟩
  | .faultRead body => some ⟨0x11, body⟩
  | .stopRequestClear body => some ⟨0x12, body⟩
  | .identRead body => some ⟨0x13, body⟩
  | .unknownKindRecord kind body => some ⟨kind, body⟩
  | .powerOnReset | .clRecordDiscard | .receiveGapExpiry | .lrdyAsserted | .lrdyDeasserted | .recordTransmitEnd
  | .heartbeat _ | .minimumIntervalReached _ | .portRateTakesEffect _ | .frameReceived _ _ _ _ _
  | .frameTimerExpiry _ | .scanSlotExpiry _ | .parkedPassStart | .piEdge | .boundCheck | .standstillTimerExpiry
  | .plausibilityTimerExpiry | .frameSpeedNotification | .gaugeInterval | .homingEnd | .sweepComplete | .evaluation _
  | .warningTimerExpiry _ | .requestPlacing _ _ | .requestWithdrawal _ | .onTimeEnd | .burstEnd
  | .doorInputNotification _ | .transitTimerExpiry _ | .faultConditionStart _ _ | .faultConditionEnd _ _ | .agingPass
  | .cliNotification _ | .parkDelayExpiry | .wspSpeedNotification | .readIdent _ | .readFaultCount _
  | .readFaultRecord _ | .clearFaults _ | .readSignal _ | .readLine _ | .readDoor _ | .clearDoorCounters _
  | .readSpeed _ | .writeCal _ | .testTelltale _ | .testGauge _ | .testChime _ | .testEnd _
  | .unknownServiceRequest _ | .testTimerExpiry | .pacingExpiry | .segmentSent | .segmentFailed | .busOffRecovery
  | .receivedByte _ _ | .flashClock => none

/-- The head and the data bytes of the request frame that a workshop row stands for (R184, R198). -/
def requestData : Instr → Option (FrameHead × List Byte)
  | .readIdent r => some (r.head, 0x01 :: r.bytes)
  | .readFaultCount r => some (r.head, 0x02 :: r.bytes)
  | .readFaultRecord r => some (r.head, 0x03 :: r.bytes)
  | .clearFaults r => some (r.head, 0x04 :: r.bytes)
  | .readSignal r => some (r.head, 0x05 :: r.bytes)
  | .readLine r => some (r.head, 0x06 :: r.bytes)
  | .readDoor r => some (r.head, 0x07 :: r.bytes)
  | .clearDoorCounters r => some (r.head, 0x08 :: r.bytes)
  | .readSpeed r => some (r.head, 0x09 :: r.bytes)
  | .writeCal r => some (r.head, 0x0A :: r.bytes)
  | .testTelltale r => some (r.head, 0x0B :: r.bytes)
  | .testGauge r => some (r.head, 0x0C :: r.bytes)
  | .testChime r => some (r.head, 0x0D :: r.bytes)
  | .testEnd r => some (r.head, 0x0E :: r.bytes)
  | .unknownServiceRequest r => some (r.head, r.bytes)
  | _ => none

/-- CLI executes a record as it arrives: a place is free and no record waits before it (R168). -/
def LinkReady (s : State) : Prop := s.cli.inbound = [] ∧ prdy s = true

/-- The port hands the frame on to WSP: it runs, the frame has the format and the identifier of requests, and as many
data bytes as its length code says (R184). -/
def Arrives (head : FrameHead) (data : List Byte) (s : State) : Prop :=
  wsRunning s = true ∧ head.extended = s.wsp.settings.extended ∧ head.ident.toNat = s.wsp.settings.requestId
    ∧ data.length = min 8 head.dlc.toNat

/-- WSP serves a request as it arrives, and nothing of an earlier one stands: the port runs, no output test runs and no
response is in flight (R186, R188, R193). -/
def WorkshopReady (s : State) : Prop := wsRunning s = true ∧ s.wsp.test = none ∧ s.wsp.response = none

/-! ### What stands ready -/

/-- An arrival of the source of a fault code: its reports, and for the speed unit the aging report (R78, R149, R153). -/
def ReportsFor (code : FaultCode) (c : Instr) : Prop :=
  (∃ cls, c = .faultConditionStart code cls ∨ c = .faultConditionEnd code cls) ∨ (code = .speed ∧ c = .agingPass)

/-- The two codes have one source (R149). -/
def OneSource : FaultCode → FaultCode → Prop
  | .line _ _, .line _ _ | .frame _ _, .frame _ _ | .speed, .speed | .door _ _, .door _ _ => True
  | _, _ => False

/-- A placing or a withdrawal of the requester. -/
def RequestOf (who : Requester) (c : Instr) : Prop := (∃ p, c = .requestPlacing who p) ∨ c = .requestWithdrawal who

/-- The two arrivals keep their order: reports of one source (R153), requests of one requester (R122). -/
def KeepOrder (c d : Instr) : Prop :=
  (∃ a b, OneSource a b ∧ ReportsFor a c ∧ ReportsFor b d) ∨ ∃ who, RequestOf who c ∧ RequestOf who d

/-- An arrival in flight with none before it that it keeps its order with (R11, R122, R153; log entries 3, 6). -/
def ArrivalReady (c : Instr) (s : State) : Prop :=
  ∃ before after, s.inFlight = before ++ c :: after ∧ ∀ d ∈ before, ¬KeepOrder d c

/-- A warning entry that PARKED goes on evaluating: RED, no FAULT_CLASS entry, its source slot produced by a line that is
sampled there (R99). -/
def CarriedThroughParked (e : WarnEntry) (s : State) : Prop :=
  e.severity = .red ∧ e.kind ≠ .faultClass
    ∧ (e.source = ignition
      ∨ (12 ≤ e.source.val ∧ ∃ g, s.signal e.source = some g ∧ g.kind = .line
        ∧ (g.index = 0 ∨ ∃ (l : Fin 48) (x : LineEntry), l.val = g.index ∧ s.lsc.table[l] = some x ∧ x.parked = true)))

/-- A warning entry that is evaluated in the present operating state (R99). -/
def EvaluatedNow (e : WarnEntry) (s : State) : Prop :=
  s.opState = .run ∨ s.opState = .sweep ∨ (s.opState = .parked ∧ CarriedThroughParked e s)

/-- The command stands for a timer or a clock that has come to its time: the timers of frame entries (R33), scan slots and
parked passes (R41, R55), bound checks, standstill and plausibility (R67, R68, R72), gauge intervals (R85), warning entries
(R105), the flash clock (R114), bursts (R121), transits (R134), the receive gap (R167), heartbeats and minimum intervals
(R173, R174), the park delay (R180), and the timers of the workshop port (R185, R187, R193). -/
def TimerReady (c : Instr) (s : State) : Prop :=
  let reached (t : Option Nat) : Prop := ∃ d, t = some d ∧ d ≤ s.now
  let live := s.opState = .run ∨ s.opState = .sweep
  match c with
  | .frameTimerExpiry i =>
    ∃ d, ((frameRun i s).timer = .firstWait d ∨ (frameRun i s).timer = .timed d) ∧ d ≤ s.now
  | .parkedPassStart => reached s.lsc.passDue
  | .scanSlotExpiry code => code = Config.lineCode s.freeCount ∧ reached s.lsc.scanDue
  | .boundCheck => reached s.sdu.boundDue
  | .standstillTimerExpiry => ∃ t, s.sdu.standFrom = some t ∧ t + 10000 * (calOf s).standstill ≤ s.now
  | .plausibilityTimerExpiry => ∃ t, s.sdu.plausFrom = some t ∧ t + 10000 * (calOf s).plausTime ≤ s.now
  | .gaugeInterval => s.gdr.intervalDue ≤ s.now
  | .warningTimerExpiry i =>
    (∃ e, warnEntry i s = some e ∧ e.enabled = true ∧ EvaluatedNow e s) ∧ reached (warnRun i s).timer
  | .flashClock => s.wrn.flashDue ≤ s.now
  | .onTimeEnd => ∃ p, s.chg.playing = some p ∧ p.inTone = true ∧ p.due ≤ s.now
  | .burstEnd => ∃ p, s.chg.playing = some p ∧ p.inTone = false ∧ p.due ≤ s.now
  | .transitTimerExpiry l => reached (leafRun l s).transitDue
  | .receiveGapExpiry => s.cli.rx ≠ .hunt ∧ s.cli.gapFrom + 5000 ≤ s.now
  | .heartbeat i =>
    i ∉ s.cli.updates ∧ ∃ e, s.signal i = some e ∧ e.report = true
      ∧ (let beat := if e.heartbeat = 0 then (linkOf s).heartbeat else e.heartbeat
         beat ≠ 0 ∧ s.cli.reports[i].clockFrom + 100000 * beat ≤ s.now)
  | .minimumIntervalReached i =>
    i ∈ s.cli.updates ∧ sendingHeld s = false
      ∧ (s.cli.reports[i].last = none
        ∨ 10000 * (s.signal i).elim 1 SignalEntry.minInterval ≤ s.now - s.cli.reports[i].clockFrom)
  | .parkDelayExpiry => live ∧ reached s.cli.parkDue
  | .testTimerExpiry => reached s.wsp.testDue
  | .pacingExpiry => ∃ r, s.wsp.response = some r ∧ reached r.pacingDue
  | .busOffRecovery => reached s.wsp.busOffUntil
  | _ => False

/-! ### What a change brings with it -/

/-- A slot that no block inside the part writes for its own account, and neither its fallback. -/
def FromOutside (i : Slot) (s : State) : Prop :=
  let outside (k : Slot) : Prop := k = ignition ∨ 12 ≤ k.val
  outside i ∧ ∀ f, fallbackOf i s = some f → outside f

/-- A slot that the door monitor does not write, and neither its fallback. -/
def ApartFromDoors (i : Slot) (s : State) : Prop :=
  let apart (k : Slot) : Prop := k ≠ doorsAllClosed ∧ k ≠ stopRequest ∧ k ≠ openPortals
  apart i ∧ ∀ f, fallbackOf i s = some f → apart f

/-- The record that a value write leaves in a slot (R8). -/
def written (i : Slot) (v : Int) (q : Quality) (s : State) : SlotRecord :=
  ⟨(clamped i v q s).1, (clamped i v q s).2, some s.now⟩

/-- The calibration window is closed by the VEHICLE_SPEED that stands in `t` (R63). -/
def windowCloses (s t : State) : Bool :=
  s.sdu.windowOpen && (t.slot vehicleSpeed).quality.usable && decide (500 ≤ (t.slot vehicleSpeed).value)

/-- Its event. -/
def closingEvents (s t : State) : List Event := if windowCloses s t then [.windowClosed true] else []

/-- The two tests behind a write of VEHICLE_SPEED: at 5.00 km/h the calibration window closes (R63), and in RUN and SWEEP
at 10.00 km/h the drive cycle qualifies (R78). -/
def SpeedTested (s t : State) : Prop :=
  let v := t.slot vehicleSpeed
  let qualifies := (t.opState = .run ∨ t.opState = .sweep) ∧ v.quality.usable = true ∧ 1000 ≤ v.value
    ∧ (s.slot driveCycle).value ≠ 1
  t.sdu.windowOpen = (s.sdu.windowOpen && !windowCloses s t)
    ∧ (qualifies → t.slot driveCycle = ⟨1, .valid, some s.now⟩)
    ∧ (¬qualifies → t.slot driveCycle = s.slot driveCycle)

/-- VEHICLE_SPEED as the four cases form it of the pulse and the frame speed (R70, R71). -/
def SpeedFormed (t : State) : Prop :=
  let p := t.slot pulseSpeed
  let v := t.slot vehicleSpeed
  let pulse := p.quality = .valid ∨ p.quality = .limited
  let frame (i : Slot) : Prop :=
    (t.opState = .run ∨ t.opState = .sweep) ∧ frameSpeedSlot t = some i ∧ (t.slot i).quality.usable = true
  (∀ i, frameSpeedSlot t = some i → 12 ≤ i.val) →
    ((∀ i, ¬frame i) → v.value = p.value ∧ v.quality = p.quality)
    ∧ ∀ i, frame i →
      let f := t.slot i
      (pulse → t.sdu.implausible = false ∨ f.value ≤ p.value → v.value = p.value ∧ v.quality = p.quality)
      ∧ (pulse → t.sdu.implausible = true → p.value < f.value → v.value = f.value ∧ v.quality = f.quality)
      ∧ (¬pulse → v.value = f.value ∧ v.quality = .substituted)

/-- PULSE_SPEED stands at rest and VALID, with nothing to write (R65). -/
def PulseAtRest (s : State) : Prop :=
  (s.slot pulseSpeed).value = 0 ∧ (s.slot pulseSpeed).quality = .valid ∧ s.sdu.cal ≠ none

/-- PULSE_SPEED comes to the rest of a loaded calibration table, out of NOT_AVAILABLE by a write of this moment (R60, R65,
R68). -/
def PulseRests (s t : State) : Prop :=
  (t.slot pulseSpeed).value = 0
  ∧ (t.slot pulseSpeed).quality = (if s.lsc.senderFault then .lineFault else .valid)
  ∧ ((s.slot pulseSpeed).quality = .notAvailable → (t.slot pulseSpeed).writtenAt = some s.now)

/-- What the sender-fault indication of `t` does to the measurement and to PULSE_SPEED where it is not that of `s`, and what
stays where it is (R69); `es` is the event of a calibration window that closes with it. -/
def SenderFaultFollowed (es : List Event) (s t : State) : Prop :=
  let live := s.opState = .run ∨ s.opState = .sweep
  let set := s.lsc.senderFault = false ∧ t.lsc.senderFault = true
  let cleared := s.lsc.senderFault = true ∧ t.lsc.senderFault = false
  let silent := t.lsc.senderFault = s.lsc.senderFault ∨ (set ∧ ¬live ∧ s.sdu.cal = none) ∨ (cleared ∧ PulseAtRest s)
  (set → live → t.sdu.meas = .stopped ∧ t.sdu.boundDue = none ∧ t.sdu.standFrom = none)
  ∧ (cleared → live → t.sdu.meas = .waiting ∧ t.sdu.boundDue = none ∧ t.sdu.standFrom = s.sdu.standFrom)
  ∧ (t.lsc.senderFault = s.lsc.senderFault ∨ ¬live →
    t.sdu.meas = s.sdu.meas ∧ t.sdu.boundDue = s.sdu.boundDue ∧ t.sdu.standFrom = s.sdu.standFrom)
  ∧ t.sdu.filterRef = s.sdu.filterRef
  ∧ (silent → t.slot pulseSpeed = s.slot pulseSpeed ∧ t.slot vehicleSpeed = s.slot vehicleSpeed
    ∧ t.slot driveCycle = s.slot driveCycle ∧ t.sdu.windowOpen = s.sdu.windowOpen ∧ es = [])
  ∧ (¬silent → (t.slot pulseSpeed).value = 0
    ∧ (t.slot pulseSpeed).quality = (if s.sdu.cal = none then .notAvailable
        else if t.lsc.senderFault then .lineFault else .valid)
    ∧ SpeedFormed t ∧ SpeedTested s t ∧ es = closingEvents s t)

/-- The fault memory reports the implausible-active indication as `b`: where that is a change VEHICLE_SPEED is re-formed with
its tests (R73, R159). -/
def IndicationSet (b : Bool) (s t : State) : Prop :=
  t.sdu.implausible = b
  ∧ (b ≠ s.sdu.implausible → SpeedFormed t ∧ SpeedTested s t)
  ∧ (b = s.sdu.implausible → t.slot vehicleSpeed = s.slot vehicleSpeed ∧ t.slot driveCycle = s.slot driveCycle
    ∧ t.sdu.windowOpen = s.sdu.windowOpen)

/-- The response in flight is abandoned (R188): a segment at a port that runs goes on to its end where its transmission had
started, and else nothing of the response is left. -/
def ResponseAbandoned (s t : State) : Prop :=
  t.wsp.response = none
  ∧ (t.wsp.orphan = s.wsp.orphan ∨ (s.wsp.orphan = none ∧ t.wsp.orphan = segmentAtPort s))
  ∧ (wsRunning s = false → t.wsp.orphan = s.wsp.orphan)

/-- What an entry into RUN from CONFIG or PARKED does to the measurement and to VEHICLE_SPEED (R79). -/
def MeasurementStarts (s t : State) : Prop :=
  t.sdu.filterRef = none
  ∧ (s.lsc.senderFault = true → t.sdu.meas = .stopped ∧ t.sdu.boundDue = none ∧ t.sdu.standFrom = none)
  ∧ (s.lsc.senderFault = false → t.sdu.meas = .waiting ∧ t.sdu.boundDue = none)
  ∧ t.slot pulseSpeed = s.slot pulseSpeed ∧ SpeedFormed t ∧ SpeedTested s t
  ∧ ∀ since, t.sdu.plausFrom = some since → since = s.now

/-- Every pointer's filter and hold start from where it stands, and no sweep phase is left (R87, R90). -/
def FiltersRestart (s t : State) : Prop :=
  t.gdr.sweepPhase = none
  ∧ ∀ c, gaugeRun c t = { gaugeRun c s with
      f := if (gaugeEntry c s).enabled then 256 * (gaugeRun c s).p else (gaugeRun c s).f
      prevTarget := (gaugeRun c s).p, holdTimer := none }

/-- The reading of a code by the thresholds and the class of a line (R44). -/
def ReadsAs (e : LineEntry) (code : Nat) (x : Reading) : Prop :=
  let band (inside : Prop) (gnd supply analog sense : Reading) : Prop := inside →
    x = match e.cls with
      | .switchGnd => gnd
      | .switchSupply => supply
      | .analog => analog
      | .pulseSense => sense
  let within := e.t1 ≤ code ∧ code < e.t4
  band (code < e.t1) .shortGnd .shortGnd .shortGnd .shortGnd
  ∧ band (within ∧ code < e.t2) .active .inactive .value .senderOk
  ∧ band (within ∧ e.t2 ≤ code ∧ code < e.t3) .inactive .active .value .senderOk
  ∧ band (within ∧ e.t2 ≤ code ∧ e.t3 ≤ code) .openCircuit .openCircuit .value .senderOk
  ∧ band (e.t1 ≤ code ∧ e.t4 ≤ code) .shortSupply .shortSupply .openCircuit .openCircuit

/-- `r` is the quotient `a / b` rounded to the nearest integer, halves away from zero. -/
def RoundsTo (a : Int) (b : Nat) (r : Int) : Prop :=
  2 * |r * b - a| ≤ b ∧ (2 * |r * b - a| = b → |a| ≤ |r * b|)

/-- A code becomes a value and a quality by the points of a curve (R51). -/
def ConvertsTo (points : List (Nat × Int)) (code : Nat) (v : Int × Quality) : Prop :=
  (∀ p, points[0]? = some p → code < p.1 → v = (p.2, .limited))
  ∧ ∀ i p, points[i]? = some p → (∀ j q, j ≤ i → points[j]? = some q → q.1 ≤ code) →
    ((∀ q, points[i + 1]? = some q → code < q.1) → p.1 = code → v = (p.2, .valid))
    ∧ (points[i + 1]? = none → p.1 < code → v = (p.2, .limited))
    ∧ ∀ q, points[i + 1]? = some q → p.1 < code → code < q.1 →
      ∃ r, RoundsTo ((code - p.1 : Nat) * (q.2 - p.2)) (q.1 - p.1) r
        ∧ v = (if p.2 + r < -2147483648 then (-2147483648, .limited)
            else if 2147483647 < p.2 + r then (2147483647, .limited) else (p.2 + r, .valid))

/-- The truth, the unknown mark and the condition of an entry, formed of the reads in `s` with the truth before it (R100
to R103). -/
def TruthFormed (e : WarnEntry) (before : Option Bool) (s : State) (r : WarnRun) : Prop :=
  let v := (effRead e.source s).1
  let usable := (effRead e.source s).2.usable
  let between := before.getD false
  let byValue := e.kind = .signalAbove ∨ e.kind = .signalBelow ∨ e.kind = .signalMask
  (e.kind = .signalAbove → usable = true → r.unknown = false
    ∧ r.truth = some (if e.setThr ≤ v then true else if v ≤ e.clearThr then false else between))
  ∧ (e.kind = .signalBelow → usable = true → r.unknown = false
    ∧ r.truth = some (if v ≤ e.setThr then true else if e.clearThr ≤ v then false else between))
  ∧ (e.kind = .signalMask → usable = true → r.unknown = false
    ∧ r.truth = some (decide (BitVec.ofInt 32 v &&& e.mask = e.pattern)))
  ∧ (byValue → usable = false → r.unknown = decide (e.loss = .hold)
    ∧ r.truth = some (match e.loss with
      | .hold => between
      | .assert => true
      | .release => false))
  ∧ (e.kind = .signalLost → r.unknown = false ∧ r.truth = some (!usable))
  ∧ (e.kind = .faultClass → r.unknown = false
    ∧ r.truth = some (s.flt.records.any fun x => x.active && decide (x.cls.val = e.sourceClass)))
  ∧ (e.gate = none → some r.cond = r.truth)
  ∧ (∀ g, e.gate = some g →
    let read := effRead g.slot s
    let satisfied := !read.2.usable
      || (if g.below then decide (read.1 < g.threshold) else decide (g.threshold ≤ read.1))
    some r.cond = r.truth.map (· && satisfied))

/-- What an evaluation that formed the condition makes of the state, the timer and the observed flag of an entry, told by
the run-time state before and behind it (R104, R108). -/
def EntryMoved (e : WarnEntry) (s : State) (r r' : WarnRun) : Prop :=
  (e.enabled = false → r'.state = r.state ∧ r'.timer = r.timer ∧ r'.observed = (r.observed || (r'.cond && !r.cond)))
  ∧ (e.enabled = true → r'.cond = r.cond → r'.state = r.state ∧ r'.timer = r.timer ∧ r'.observed = r.observed)
  ∧ (e.enabled = true → r.cond = false → r'.cond = true →
    r'.observed = (r.observed || decide (r.state = .off))
    ∧ r'.state = (match r.state with
      | .off => if e.onDelay ≠ 0 then .onDelay else if e.ackRequired then .onUnack else .onAck
      | .onDelay => .onDelay
      | .onUnack | .offDelayUnacked | .latchedUnack => .onUnack
      | .onAck | .offDelayAcked => .onAck))
  ∧ (e.enabled = true → r.cond = true → r'.cond = false →
    r'.observed = r.observed
    ∧ r'.state = (match r.state with
      | .off | .onDelay => .off
      | .onUnack => if e.latch then .latchedUnack else if e.offDelay = 0 then .off else .offDelayUnacked
      | .onAck => if e.offDelay = 0 then .off else .offDelayAcked
      | .offDelayUnacked => .offDelayUnacked
      | .offDelayAcked => .offDelayAcked
      | .latchedUnack => .latchedUnack))
  ∧ (e.enabled = true → r'.state = r.state → r'.timer = r.timer)
  ∧ (e.enabled = true → r'.state ≠ r.state → r'.timer = (match r'.state with
      | .onDelay => some (s.now + 10000 * e.onDelay)
      | .onAck => if e.reminder = 0 then none else some (s.now + 1000000 * e.reminder)
      | .offDelayUnacked | .offDelayAcked => some (s.now + 10000 * e.offDelay)
      | .off | .onUnack | .latchedUnack => none))

/-- An enabled entry evaluated afresh out of OFF: it stays, or its condition takes it on (R104, R110). -/
def EntersAfresh (e : WarnEntry) (s : State) (r : WarnRun) : Prop :=
  (r.cond = false → r.state = .off ∧ r.timer = none)
  ∧ (r.cond = true → e.onDelay ≠ 0 → r.state = .onDelay ∧ r.timer = some (s.now + 10000 * e.onDelay))
  ∧ (r.cond = true → e.onDelay = 0 → e.ackRequired = true → r.state = .onUnack ∧ r.timer = none)
  ∧ (r.cond = true → e.onDelay = 0 → e.ackRequired = false → r.state = .onAck
    ∧ r.timer = if e.reminder = 0 then none else some (s.now + 1000000 * e.reminder))

/-- The event of a new top warning, where it is another entry than the one that changed (R112). -/
def topEvents (i : Fin 96) (s t : State) : List Event :=
  match topWarning t with
  | some j =>
    if s.wrn.reportedTop = some j ∨ j = i then [] else [.warning j (warnRun j t).state (warnRun j t).unknown true]
  | none => []

/-- An entry's own event, as it stands in `t` (R107). -/
def ownEvent (i : Fin 96) (t : State) : Event :=
  .warning i (warnRun i t).state (warnRun i t).unknown (decide (topWarning t = some i))

/-- What the change of state of one enabled entry brings with it: the join sequence of an entry that joins the active
list (R112), the reported top, ACTIVE_WARNINGS as the length of the list changes (R113), and the chime request of an
entry that enters or leaves ON_UNACK (R116). -/
def EntryFollowed (i : Fin 96) (s t : State) : Prop :=
  let shownBefore := (warnRun i s).state.inList
  let joins := shownBefore = false ∧ (warnRun i t).state.inList = true
  let chime := (warnEntry i s).bind WarnEntry.chime
  let old := (warnRun i s).state
  let new := (warnRun i t).state
  (joins → s.wrn.joinCounter < 65535 →
    (warnRun i t).join = s.wrn.joinCounter ∧ t.wrn.joinCounter = s.wrn.joinCounter + 1)
  ∧ (joins → 65535 ≤ s.wrn.joinCounter → t.wrn.joinCounter = listLength t
    ∧ ∀ j k : Fin 96, inActiveList t j = true → inActiveList t k = true →
      let before (x : Fin 96) : Nat := if x = i then s.wrn.joinCounter else (warnRun x s).join
      (warnRun j t).join < (warnRun k t).join ↔ before j < before k)
  ∧ (¬joins → t.wrn.joinCounter = s.wrn.joinCounter ∧ (warnRun i t).join = (warnRun i s).join)
  ∧ t.wrn.reportedTop = topWarning t
  ∧ t.slot activeWarnings
    = (if listLength t = listLength s then s.slot activeWarnings else ⟨(listLength t : Nat), .valid, some s.now⟩)
  ∧ (∀ p, chime = some p → t.inFlight.count (.requestPlacing (.warning i) p)
    = s.inFlight.count (.requestPlacing (.warning i) p) + if old ≠ .onUnack ∧ new = .onUnack then 1 else 0)
  ∧ t.inFlight.count (.requestWithdrawal (.warning i)) = s.inFlight.count (.requestWithdrawal (.warning i))
    + if chime.isSome ∧ old = .onUnack ∧ new ≠ .onUnack then 1 else 0

/-- The FAULT_CLASS entries of the `changed` classes are evaluated under the records of `t`, and no other entry is (R99,
R101, R159). The change writes ACTIVE_FAULTS, ACTIVE_WARNINGS, VEHICLE_SPEED and DRIVE_CYCLE too: the gate of an entry is read
of `t` where it is none of them. `once` says that no class has changed twice. -/
def ClassesEvaluated (changed : Nat → Prop) (once : Prop) (s t : State) : Prop :=
  let concerned (e : WarnEntry) : Prop := e.kind = .faultClass ∧ changed e.sourceClass ∧ EvaluatedNow e s
  let settled (k : Slot) : Prop := k ≠ activeFaults ∧ k ≠ activeWarnings ∧ k ≠ vehicleSpeed ∧ k ≠ driveCycle
  (∀ i : Fin 96, (∀ e, warnEntry i s = some e → ¬concerned e) →
    { warnRun i t with join := 0 } = { warnRun i s with join := 0 })
  ∧ ∀ (i : Fin 96) (e : WarnEntry), warnEntry i s = some e → concerned e →
    let r := warnRun i s
    let r' := warnRun i t
    (r'.unknown = false ∧ r'.truth = some (t.flt.records.any fun x => x.active && decide (x.cls.val = e.sourceClass)))
    ∧ ((∀ g, e.gate = some g → settled g.slot ∧ ∀ f, fallbackOf g.slot s = some f → settled f) →
      TruthFormed e r.truth t r')
    ∧ (once → EntryMoved e s r r'
      ∧ ((∀ j, j ≠ i → ∀ e', warnEntry j s = some e' → ¬concerned e') → e.enabled = true → r'.state ≠ r.state →
        EntryFollowed i s t))

/-- A request wins the arbitration: none has a higher priority, and none of its priority an earlier stamp (R124). -/
def Wins (w : ChimeRequest) (s : State) : Prop :=
  let priority (r : ChimeRequest) : Nat := (patternOf r.pattern s).priority
  w ∈ s.chg.requests
    ∧ ∀ x ∈ s.chg.requests, priority x ≤ priority w ∧ (priority x = priority w → w.stamp ≤ x.stamp)

/-- The winner plays: it goes on with the burst `kept` where that is its own, and else starts a fresh burst (R121, R124,
R125). -/
def WinnerPlays (kept : Option Playing) (t : State) : Prop :=
  (t.chg.requests = [] → t.chg.playing = none)
    ∧ (t.chg.requests ≠ [] → ∃ w, Wins w t)
    ∧ ∀ w, Wins w t →
      (∀ b, kept = some b → b.who = w.who → t.chg.playing = some b)
      ∧ ((∀ b, kept = some b → b.who ≠ w.who) →
        t.chg.playing = some ⟨w.who, true, t.now + 10000 * (patternOf w.pattern t).onTime⟩)

/-- The state of a leaf by its inputs and the state before (R133). -/
def LeafDerived (l : Fin 8) (before after : LeafState) (s : State) : Prop :=
  let e := doorEntry l s
  let active (i : Slot) : Prop := readInput i s = some true
  let lock := lockFitted l s = true
  let locked := ∃ i, e.lockedSlot = some i ∧ active i
  ((∃ i ∈ leafInputs l s, readInput i s = none) → after = .fault)
  ∧ ((∀ i ∈ leafInputs l s, readInput i s ≠ none) →
    (active e.closedSlot → active e.openSlot → after = .fault)
    ∧ (lock → locked → ¬active e.closedSlot → after = .fault)
    ∧ (active e.closedSlot → ¬active e.openSlot → ¬lock ∨ locked → after = .locked)
    ∧ (active e.closedSlot → ¬active e.openSlot → lock → ¬locked → after = .closed)
    ∧ (¬active e.closedSlot → active e.openSlot → ¬(lock ∧ locked) → after = .opened)
    ∧ (¬active e.closedSlot → ¬active e.openSlot → ¬(lock ∧ locked) →
      after = (match before with
        | .locked | .closed => .opening
        | .opened => .closing
        | .opening => .opening
        | .closing => .closing
        | .ajar => .ajar
        | .fault | .notEvaluated => .ajar)))

/-- What a change of a leaf's state makes of its transit, its flags and its counters, and what of them is reported (R134,
R135, R136, R138). -/
def LeafFollowed (l : Fin 8) (s t : State) : Prop :=
  let r := leafRun l s
  let r' := leafRun l t
  let cls := (doorEntry l s).faultClass
  let moving := r'.state = .opening ∨ r'.state = .closing
  let atEnd := r'.state = .locked ∨ r'.state = .closed ∨ r'.state = .opened
  let more (c : Instr) (b : Prop) [Decidable b] : Prop := t.inFlight.count c = s.inFlight.count c + if b then 1 else 0
  (r'.state = r.state → r'.transitDue = r.transitDue ∧ r'.transitStart = r.transitStart ∧ r'.maxTransit = r.maxTransit
    ∧ r'.cycles = r.cycles ∧ r'.inconsistent = r.inconsistent ∧ r'.transitFlag = r.transitFlag)
  ∧ (r'.state ≠ r.state →
    (moving → r'.transitDue = some (s.now + 10000 * (leader (portalOf l) s).transitLimit) ∧ r'.transitStart = some s.now)
    ∧ (¬moving → r'.transitDue = none)
    ∧ (r'.state = .ajar → r'.transitStart = r.transitStart)
    ∧ (atEnd → r'.transitStart = none ∧ r'.maxTransit =
      (match r.transitStart with
        | none => r.maxTransit
        | some start => max r.maxTransit (min 65535 ((s.now - start) / 1000))))
    ∧ (r'.state = .fault → r'.transitStart = none)
    ∧ (¬atEnd → r'.maxTransit = r.maxTransit)
    ∧ r'.cycles = (if r'.state = .opened ∧ r.state ≠ .fault ∧ r.state ≠ .notEvaluated then
        satSucc 4294967295 r.cycles else r.cycles)
    ∧ r'.inconsistent = decide (r'.state = .fault)
    ∧ (atEnd → r'.transitFlag = false)
    ∧ (¬atEnd → r'.transitFlag = r.transitFlag))
  ∧ more (.faultConditionStart (.door l .inconsistent) cls) (r.inconsistent = false ∧ r'.inconsistent = true)
  ∧ more (.faultConditionEnd (.door l .inconsistent) cls) (r.inconsistent = true ∧ r'.inconsistent = false)
  ∧ more (.faultConditionStart (.door l .transit) cls) (r.transitFlag = false ∧ r'.transitFlag = true)
  ∧ more (.faultConditionEnd (.door l .transit) cls) (r.transitFlag = true ∧ r'.transitFlag = false)

/-- The state and the released flag of a portal, formed of its fitted leaves and its release slot as they stand, where that
is a `steady` one (R139). -/
def PortalFormed (p : Fin 4) (steady : Slot → Prop) (t : State) : Prop :=
  let fitted (l : Fin 8) : Prop := portalOf l = p ∧ leafFitted l t = true
  let faulted := ∃ l, fitted l ∧ (leafRun l t).state = .fault
  let secured := ∀ l, fitted l → (leafRun l t).state = .locked
    ∨ ((leafRun l t).state = .closed ∧ lockFitted l t = false)
  (portalRun p t).state = (match decide faulted, decide secured with
    | true, _ => .fault
    | false, true => .secured
    | false, false => .opened)
  ∧ ((leader p t).releaseSlot = none → (portalRun p t).released = false)
  ∧ ∀ i, (leader p t).releaseSlot = some i → steady i →
    (portalRun p t).released = decide (readInput i t ≠ some false)

/-- DOORS_ALL_CLOSED and OPEN_PORTALS, formed of the portals that exist (R140). -/
def DoorSlotsFormed (s t : State) : Prop :=
  let secured (p : Fin 4) : Prop := (portalRun p t).state = .secured
  t.slot doorsAllClosed = ⟨(if ∀ p, portalExists p t = true → secured p ∧ (portalRun p t).released = false then 1 else 0),
      .valid, some s.now⟩
    ∧ t.slot openPortals
      = ⟨((indices 4).countP fun p => portalExists p t && decide (¬secured p) : Nat), .valid, some s.now⟩

/-- A portal that becomes OPEN while VEHICLE_SPEED is usable and below 3.00 km/h clears the latch (R144). -/
def clearsLatch (p : Fin 4) (s t : State) : Bool :=
  decide ((portalRun p s).state ≠ .opened) && decide ((portalRun p t).state = .opened)
    && (s.slot vehicleSpeed).quality.usable && decide ((s.slot vehicleSpeed).value < 300) && s.drm.latch

/-- The events of a portal that is re-formed once: its change, and the clearing of the latch (R141). -/
def portalEvents (p : Fin 4) (s t : State) : List Event :=
  (if (portalRun p t).state = (portalRun p s).state ∧ (portalRun p t).released = (portalRun p s).released then []
    else [.doorPortal p (portalRun p t).state (portalRun p t).released])
  ++ if clearsLatch p s t then [.stopRequest false (some p)] else []

/-- What one re-forming of the portal `p` brings with it, where nothing else happens at the doors: the latch (R144), the
closing chime (R142) and the door slots (R140). -/
def PortalFollowed (p : Fin 4) (s t : State) : Prop :=
  let idle := (leader p s).chime.isSome = true
    ∧ ∀ l, portalOf l = p → leafFitted l t = true → (leafRun l t).state ≠ .closing
  PortalFormed p (ApartFromDoors · s) t ∧ DoorSlotsFormed s t
    ∧ (clearsLatch p s t = true → t.drm.latch = false ∧ (∀ q, (portalRun q t).requested = false)
      ∧ t.slot stopRequest = ⟨0, .valid, some s.now⟩)
    ∧ (clearsLatch p s t = false → t.drm.latch = s.drm.latch
      ∧ (∀ q, (portalRun q t).requested = (portalRun q s).requested) ∧ t.slot stopRequest = s.slot stopRequest)
    ∧ t.inFlight.count (.requestWithdrawal (.portal p)) = s.inFlight.count (.requestWithdrawal (.portal p))
      + (if idle then 1 else 0)
    ∧ (∀ q, (portalRun q t).held = if q = p ∧ idle then false else (portalRun q s).held)

/-- Records that waited are executed in their order, those behind each waiting on (R168). -/
def executeAll : List ClRecord → State → State
  | [], s => s
  | r :: rest, s => executeAll rest (executeRecord r { s with cli := { s.cli with inbound := rest } })

/-! ### Invariants -/

/-- The fault memory holds at most 32 records, one for a code (R152). -/
def FaultMemoryLegal (s : State) : Prop := s.flt.records.length ≤ 32 ∧ (s.flt.records.map FaultRecord.code).Nodup

/-- The chime generator holds one request for a requester, in the order of their stamps, none in CONFIG, and the winner of
the arbitration plays (R121, R122, R124). -/
def ChimeLegal (s : State) : Prop :=
  (s.chg.requests.map ChimeRequest.who).Nodup
    ∧ s.chg.requests.Pairwise (fun a b => a.stamp < b.stamp)
    ∧ (∀ r ∈ s.chg.requests, r.stamp ≤ s.chg.seq)
    ∧ (s.opState = .config → s.chg.requests = [])
    ∧ (s.chg.playing = none ↔ s.chg.requests = [])
    ∧ ∀ b, s.chg.playing = some b → ∃ w, Wins w s ∧ w.who = b.who

/-- The queues of CL stay within their places: 64 events, four places of the inbound buffer with the responses of
executed records, four discard responses, each pending slot once (R168, R170, R172, R173). On WS a segment left of an
abandoned response stands only at a port that runs, which ends it (R184, R188). -/
def LinkLegal (s : State) : Prop :=
  s.cli.events.length ≤ 64 ∧ placesHeld s ≤ 4 ∧ s.cli.responses.countP Response.discard ≤ 4 ∧ s.cli.updates.Nodup
    ∧ (s.wsp.orphan ≠ none → wsRunning s = true)

/-- A warning entry that is not loaded and enabled is OFF, with no timer (R98, R104), as every entry is in CONFIG, and in
PARKED every loaded one that is not carried through it, with no truth (R111); ACTIVE_WARNINGS is the length of the active list, and its first element is the reported top (R112, R113). -/
def WarningsLegal (s : State) : Prop :=
  (∀ i : Fin 96, warnEnabled i s = false ∨ s.opState = .config → (warnRun i s).state = .off ∧ (warnRun i s).timer = none)
    ∧ (s.opState = .config → ∀ i, (warnRun i s).truth = none ∧ (warnRun i s).cond = false)
    ∧ (s.opState = .parked → ∀ i e, warnEntry i s = some e → ¬CarriedThroughParked e s →
      (warnRun i s).state = .off ∧ (warnRun i s).timer = none ∧ (warnRun i s).truth = none
        ∧ (warnRun i s).cond = false)
    ∧ (s.slot activeWarnings).value = (activeList s).length ∧ (s.slot activeWarnings).quality = .valid
    ∧ s.wrn.reportedTop = topWarning s

/-- Every pointer stands within its channel's span, and so does the filter's position and the last target (R83, R84,
R86, R89); a loaded entry has VMIN below VMAX. -/
def GaugesLegal (s : State) : Prop :=
  ∀ c : Fin 6,
    (gaugeEntry c s).vmin < (gaugeEntry c s).vmax ∧ (gaugeRun c s).p ≤ (gaugeEntry c s).span
      ∧ (gaugeRun c s).f ≤ 256 * (gaugeEntry c s).span ∧ (gaugeRun c s).prevTarget ≤ (gaugeEntry c s).span
      ∧ ∀ position, gaugeTest c s = some position → position ≤ (gaugeEntry c s).span

/-- The distance constant in force is in its range and the residue below it, and the frame speed slot is none of the
internal ones (R59, R62, R74). -/
def DistanceLegal (s : State) : Prop :=
  2000 ≤ (calOf s).kd ∧ (calOf s).kd ≤ 25000 ∧ s.sdu.residue < (calOf s).kd
    ∧ ∀ i, frameSpeedSlot s = some i → 12 ≤ i.val

/-! ### Entry into PARKED -/

/-- The part enters PARKED (R180): the frame timers stop and the good slots of timed entries turn STALE (R35), the
measurement stops with PULSE_SPEED at rest and a qualified drive cycle is reported and ended (R78, R79), sweep, chime
requests and output test are gone (R94, R128, R193), every warning entry outside the parked set is OFF and the others are
kept (R111), and a parked pass is under way (R55). -/
def PartParks (s t : State) : Prop :=
  let timed (k : Slot) : Prop := 12 ≤ k.val ∧ ∃ (g : SignalEntry) (i : Fin 64) (e : FrameEntry),
    s.signal k = some g ∧ g.kind = .frame ∧ g.index = i.val ∧ s.frp.table[i] = some e ∧ e.timeout ≠ 0
  let good (k : Slot) : Prop := (s.slot k).quality = .valid ∨ (s.slot k).quality = .limited
  t.opState = .parked ∧ t.cli.parkDue = none ∧ (∀ i, (frameRun i t).timer = .stopped)
  ∧ (∀ k, timed k → good k → t.slot k = ⟨(s.slot k).value, .stale, some s.now⟩)
  ∧ (∀ k, 12 ≤ k.val ∨ k = ignition → ¬(timed k ∧ good k) → t.slot k = s.slot k)
  ∧ t.sdu.meas = .stopped ∧ t.sdu.boundDue = none ∧ t.sdu.standFrom = none ∧ t.sdu.plausFrom = none
  ∧ t.sdu.plausPresent = s.sdu.plausPresent
  ∧ (t.slot pulseSpeed).value = 0
  ∧ (t.slot pulseSpeed).quality = (if s.sdu.cal = none then .notAvailable
      else if s.lsc.senderFault then .lineFault else .valid)
  ∧ t.slot vehicleSpeed = ⟨0, (t.slot pulseSpeed).quality, some s.now⟩
  ∧ t.slot driveCycle = ⟨0, .valid, some s.now⟩
  ∧ t.inFlight.count .agingPass = s.inFlight.count .agingPass + (if (s.slot driveCycle).value = 1 then 1 else 0)
  ∧ t.gdr.sweepPhase = none ∧ t.chg.requests = [] ∧ t.chg.playing = none
  ∧ (∀ (i : Fin 96) (e : WarnEntry), warnEntry i s = some e →
    (CarriedThroughParked e s → (warnRun i t).state = (warnRun i s).state ∧ (warnRun i t).timer = (warnRun i s).timer
      ∧ (warnRun i t).truth = (warnRun i s).truth ∧ (warnRun i t).unknown = (warnRun i s).unknown)
    ∧ (¬CarriedThroughParked e s → (warnRun i t).state = .off ∧ (warnRun i t).timer = none
      ∧ (warnRun i t).truth = none ∧ (warnRun i t).unknown = false
      ∧ (warnRun i t).observed = (warnRun i s).observed
      ∧ (e.chime.isSome = true → (warnRun i s).state = .onUnack → t.inFlight.count (.requestWithdrawal (.warning i))
        = s.inFlight.count (.requestWithdrawal (.warning i)) + 1)))
  ∧ (WarningsLegal s → WarningsLegal t)
  ∧ (∀ p, (portalRun p t).held = false) ∧ t.wsp.test = none ∧ t.lsc.passDue = some (s.now + 100000)
  ∧ t.flt.records = s.flt.records ∧ t.drm.leaves = s.drm.leaves

/-- The events of the entries that an entry into PARKED puts in OFF are among `es` (R107, R111). -/
def OffEventsAmong (es : List Event) (s : State) : Prop :=
  ∀ (i : Fin 96) (e : WarnEntry), warnEntry i s = some e → e.enabled = true → ¬CarriedThroughParked e s →
    (warnRun i s).state ≠ .off → .warning i .off false false ∈ es

end Sys2Proof.Machine
end

