-- ==== Sys2Proof/Certificates/Slice0/Obligations.lean ====
section
/-! DEFINITION. The statements about this part, for the provers. A statement about a record row holds where CLI executes
the record as it arrives (`LinkReady`), a statement about a request row where the port runs; statement
`RecordIsExecutedHeldOrDiscarded` says what happens where it does not. The frame of each is a `ChangesOnly` over the
pieces of `Safety.lean`. -/

open Sys2Proof Sys2Proof.Machine

/-! ### The step and the reset -/

/-- A step runs the command at the front of the queue on the state with the queue's rest. -/
def Obligations.StepRunsFrontCommand : Prop :=
  ∀ (c : Instr) (rest : List Instr) (s : State),
    s.pending = c :: rest → step s = exec c { s with pending := rest }

/-- With no command waiting the part takes one thing that stands ready, or its reference advances by one microsecond: the
model's choice (log entry 2). Ready are the arrivals in flight, each behind those of its own source or requester, and the
timers and clocks that have come to their time; which of them is taken is open (log entries 3, 6). -/
def Obligations.EmptyQueueRunsByItself : Prop :=
  ∀ s : State,
    (∀ c, c ∈ ready s ↔ ArrivalReady c s ∨ TimerReady c s)
    ∧ (s.pending = [] → ∃ t, step s = .next t
      ∧ ((ready s = [] ∧ t = { s with now := s.now + 1 })
        ∨ ∃ c ∈ ready s, t = { s with freeCount := s.freeCount + 1, pending := [c] }))

/-- What power-on reset leaves in every block, of the values the spec gives. -/
def Obligations.ResetIsPowerOnState : Prop :=
  let s := State.reset
  s.opState = .config ∧ loadStates s = List.replicate 12 false
    ∧ (∀ i : Slot, s.slot i =
        if i.val = 7 ∨ 12 ≤ i.val then ⟨0, .neverReceived, none⟩
        else if i.val < 3 then ⟨0, .notAvailable, some 0⟩ else ⟨0, .valid, some 0⟩)
    ∧ (∀ i : Slot, (s.slot i).age s.now = if i.val = 7 ∨ 12 ≤ i.val then 65535 else 0)
    ∧ (∀ i : Fin 64, frameRun i s = ⟨.stopped, none, 0, false, false, false⟩)
    ∧ (∀ i : Slot, s.frp.senderErr[i] = false)
    ∧ s.frp.vaRate = .off ∧ s.frp.vbRate = .off
    ∧ (∀ l : Fin 48, s.lsc.lines[l] = ⟨none, none, none, none, none⟩) ∧ s.lsc.senderFault = false
    ∧ s.sdu = ⟨none, true, .stopped, none, none, none, 0, 0, false, false, none, false⟩
    ∧ (∀ c : Fin 6, (gaugeRun c s).p = 0) ∧ s.gdr.homingDone = false ∧ s.gdr.sweepPhase = none
    ∧ (∀ i : Fin 96, (warnRun i s).state = .off ∧ (warnRun i s).truth = none ∧ (warnRun i s).observed = false)
    ∧ s.wrn.joinCounter = 0 ∧ s.wrn.reportedTop = none ∧ s.wrn.flashLit = true
    ∧ s.chg.requests = [] ∧ s.chg.playing = none ∧ s.chg.seq = 0 ∧ toneHalfPeriod s = none ∧ levelCode s = 0
    ∧ (∀ l : Fin 8, leafRun l s = ⟨.notEvaluated, none, none, false, false, false, 0, 0, 0⟩)
    ∧ (∀ p : Fin 4, portalRun p s = ⟨.notEvaluated, false, false, false, false⟩) ∧ s.drm.latch = false
    ∧ s.flt.records = [] ∧ s.flt.overflow = false ∧ s.flt.firstStart = false
    ∧ s.cli.rx = .hunt ∧ s.cli.inbound = [] ∧ s.cli.responses = [] ∧ s.cli.updates = []
    ∧ s.cli.events = [.state .config .powerOn] ∧ s.cli.overrun = false ∧ s.cli.parkDue = none
    ∧ (∀ i : Slot, s.cli.reports[i].last = none) ∧ prdy s = true ∧ s.cli.wake = false ∧ s.cli.tx = none
    ∧ s.wsp.settings = ⟨.off, false, 0x6A0, 0x6A8, 5⟩ ∧ s.wsp.txErrors = 0 ∧ s.wsp.busOffUntil = none
    ∧ s.wsp.response = none ∧ s.wsp.test = none

/-- POWER_ON_RESET returns every block to that state; the queue of commands is outside the part, and the level of LRDY
is an input (log entry 13): asserted, it lets the STATE event start at once. -/
def Obligations.PowerOnResetRestarts : Prop :=
  ∀ s : State, ∃ t, exec .powerOnReset s = .next t
    ∧ { t with cli := Cli.reset } = { State.reset with freeCount := s.freeCount, pending := s.pending }
    ∧ t.cli = { Cli.reset with
        lrdy := s.cli.lrdy
        events := if s.cli.lrdy then [] else [.state .config .powerOn]
        tx := if s.cli.lrdy then some (Event.bytes (.state .config .powerOn) false) else none }

/-! ### Records -/

/-- A record row is discarded with a FORMAT response when no place is free, waits in its place behind a held record (or
held itself), and is otherwise executed at once. Held is a START while the homing-done indication is clear, whatever its
body (log entry 25), and no other record. -/
def Obligations.RecordIsExecutedHeldOrDiscarded : Prop :=
  ∀ (c : Instr) (r : ClRecord) (s : State), managementRecord c = some r →
    (∀ x, heldRecord x s = true ↔ x.kind = 0x05 ∧ s.gdr.homingDone = false)
    ∧ (prdy s = false → exec c s = .next (respondDiscard r.kind s))
    ∧ (prdy s = true → (s.cli.inbound ++ [r]).head?.any (fun x => heldRecord x s) = true →
        exec c s = .next { s with cli := { s.cli with inbound := s.cli.inbound ++ [r] } })
    ∧ (LinkReady s → heldRecord r s = false → exec c s = .next (executeRecord r s))

/-- A record that fails a check changes nothing: its response, with the result and no data, is all. (An INCONSISTENT
START names the table and index at fault.) The checks in their order: the length fixed for the kind; for a TABLE_WRITE
the table, the length fixed for it, the operating states it allows (for the calibration table its window), the index, and
the fields; for a TABLE_READ the table, the length, the index. -/
def Obligations.RefusedRecordChangesNothing : Prop :=
  ∀ (c : Instr) (r : ClRecord) (s : State),
    managementRecord c = some r → LinkReady s → heldRecord r s = false →
      let refused (result : Result) : Prop := exec c s = .next (respond r.kind result [] s)
      ((answerRecord r s).result ≠ .ok →
        exec c s = .next (respond r.kind (answerRecord r s).result (answerRecord r s).data s)
        ∧ ((answerRecord r s).result ≠ .inconsistent → (answerRecord r s).data = []))
      ∧ (∀ n, (r.kind.toNat, n) ∈ [(0x03, 1), (0x04, 1), (0x05, 0), (0x06, 0), (0x07, 0), (0x08, 0), (0x09, 1), (0x0A, 2),
          (0x0B, 1), (0x0C, 0), (0x0D, 1), (0x0E, 4), (0x0F, 0), (0x10, 40), (0x11, 1), (0x12, 0), (0x13, 0)] →
        r.body.length ≠ n → refused .format)
      ∧ (r.kind = 0x01 ∨ r.kind = 0x02 → r.body = [] → refused .format)
      ∧ (∀ (table : Byte) (rest : List Byte), r.kind = 0x01 ∨ r.kind = 0x02 → r.body = table :: rest → 11 < table.toNat →
        refused .unknown)
      ∧ (∀ (table : Byte) (rest : List Byte) (n : Nat), r = ⟨0x02, table :: rest⟩ →
        (table.toNat, n) ∈ [(0, 64), (1, 256), (2, 1), (3, 48), (4, 16), (5, 1), (6, 8), (7, 6), (8, 96), (9, 8), (10, 16),
          (11, 1)] →
        (rest.length ≠ 1 → refused .format) ∧ (rest.length = 1 → n ≤ u8 rest 0 → refused .range))
      ∧ (∀ (table : Byte) (rest : List Byte) (len n : Nat) (inRun : Bool),
        r = ⟨0x01, table :: rest⟩ →
        (table.toNat, len, n, inRun) ∈ [(0, 18, 64, false), (1, 28, 256, false), (2, 15, 1, false), (3, 14, 48, false),
          (4, 49, 16, false), (5, 49, 1, false), (6, 11, 8, false), (7, 16, 6, true), (8, 36, 96, true),
          (9, 8, 8, true), (10, 7, 16, true)] →
        (rest.length ≠ len + 1 → exec c s = .next (respond 0x01 .format [] s))
        ∧ (rest.length = len + 1 → s.opState ≠ .config → (inRun = false ∨ s.opState ≠ .run) →
            exec c s = .next (respond 0x01 .state [] s))
        ∧ (rest.length = len + 1 → (s.opState = .config ∨ (inRun = true ∧ s.opState = .run)) →
          (n ≤ u8 rest 0 → exec c s = .next (respond 0x01 .range [] s))
          ∧ (u8 rest 0 < n →
            let body := rest.drop 1
            (table = 0 ∧ readFrameEntry body = none)
              ∨ (table = 1 ∧ ∀ i : Slot, i.val = u8 rest 0 → readSignalEntry i body = none)
              ∨ (table = 2 ∧ readLinkEntry body = none)
              ∨ (table = 3 ∧ ∀ l : Fin 48, l.val = u8 rest 0 → readLineEntry l body = none)
              ∨ (table = 4 ∧ readCurve body = none) ∨ (table = 5 ∧ readScan body = none)
              ∨ (table = 6 ∧ readDoorEntry body = none) ∨ (table = 7 ∧ readGaugeEntry body = none)
              ∨ (table = 8 ∧ readWarnEntry body = none) ∨ (table = 9 ∧ readPattern body = none)
              ∨ (table = 10 ∧ readClass body = none) →
            exec c s = .next (respond 0x01 .range [] s))))
      ∧ ∀ rest : List Byte, r = ⟨0x01, 11 :: rest⟩ →
        (rest.length ≠ 12 → refused .format)
        ∧ (rest.length = 12 → s.sdu.windowOpen = false → refused .locked)
        ∧ (rest.length = 12 → s.sdu.windowOpen = true → u8 rest 0 ≠ 0 ∨ readCal (rest.drop 1) = none → refused .range)

/-! ### The signal store -/

/-- A value write clamps into the limits of a configurable slot and marks what it clamped LIMITED; an internal slot
takes the value as it is; a quality-only write keeps the value. No other slot is written. -/
def Obligations.SlotWriteStoresClampedValue : Prop :=
  ∀ (i : Slot) (v : Int) (q : Quality) (s : State),
    let lo := (s.signal i).elim i32Min SignalEntry.min
    let hi := (s.signal i).elim i32Max SignalEntry.max
    (isInternal i = true → (valueWrite i v q s).slot i = ⟨v, q, some s.now⟩)
    ∧ (isInternal i = false → v < lo → (valueWrite i v q s).slot i = ⟨lo, .limited, some s.now⟩)
    ∧ (isInternal i = false → lo ≤ v → hi < v → (valueWrite i v q s).slot i = ⟨hi, .limited, some s.now⟩)
    ∧ (isInternal i = false → lo ≤ v → v ≤ hi → (valueWrite i v q s).slot i = ⟨v, q, some s.now⟩)
    ∧ (qualityWrite i q s).slot i = ⟨(s.slot i).value, q, some s.now⟩
    ∧ (∀ j ≠ i, (valueWrite i v q s).slot j = s.slot j ∧ (qualityWrite i q s).slot j = s.slot j)
    ∧ ChangesOnly writing s (valueWrite i v q s) ∧ ChangesOnly writing s (qualityWrite i q s)

/-- A write that changes neither value nor quality notifies nobody; a change notifies the consumers of the slot, each
once, and for each dependant whose effective read it may change the consumers of the dependant. No notification is made
twice. -/
def Obligations.WriteNotifiesConsumers : Prop :=
  ∀ (i : Slot) (r : SlotRecord) (s : State),
    let same := (s.slot i).value = r.value ∧ (s.slot i).quality = r.quality
    let reached (d : Slot) : Prop :=
      d ∈ dependants i s ∧ ((s.slot i).quality ≠ r.quality ∨ (s.slot d).quality.usable = false)
    (same → (putRecord i r s).inFlight = s.inFlight)
    ∧ (¬same → ∃ l, (putRecord i r s).inFlight = s.inFlight ++ l ∧ l.Nodup
      ∧ l.count (.evaluation i) = (if wrnUses i s then 1 else 0)
      ∧ l.count (.doorInputNotification i) = (if drmUses i s then 1 else 0)
      ∧ l.count (.cliNotification i)
          = (if i = ignition ∨ i = vehicleSpeed ∨ reportFlag i s = true then 1 else 0)
      ∧ l.count .wspSpeedNotification = (if i = vehicleSpeed then 1 else 0)
      ∧ (.frameSpeedNotification ∈ l ↔ frameSpeedSlot s = some i ∨ ∃ d, d ≠ i ∧ reached d ∧ frameSpeedSlot s = some d)
      ∧ ∀ d ≠ i, (.cliNotification d ∉ l)
        ∧ (.evaluation d ∈ l ↔ reached d ∧ wrnUses d s = true)
        ∧ (.doorInputNotification d ∈ l ↔ reached d ∧ drmUses d s = true))

/-- The effective read of a slot: its own record while that is usable; else the own value of its fallback as SUBSTITUTED
while the fallback's own quality is usable; else its own record. A fallback's fallback is not followed, and an internal
slot has none. -/
def Obligations.EffectiveReadFollowsFallbackOnce : Prop :=
  ∀ (i : Slot) (s : State),
    let own := ((s.slot i).value, (s.slot i).quality)
    ((s.slot i).quality.usable = true → effRead i s = own)
    ∧ (isInternal i = true → effRead i s = own)
    ∧ ((s.signal i).bind SignalEntry.fallback = none → effRead i s = own)
    ∧ (∀ f, isInternal i = false → (s.slot i).quality.usable = false → (s.signal i).bind SignalEntry.fallback = some f →
        effRead i s = if (s.slot f).quality.usable then ((s.slot f).value, .substituted) else own)
    ∧ ∀ q : Quality, q.usable = true ↔ q = .valid ∨ q = .limited ∨ q = .substituted

/-! ### Table writes -/

/-- FRAME_TABLE_WRITE in CONFIG: the entry is replaced, its run-time state cleared with its timer stopped, and its
condition flags with it (the sender-error flags of its slots by the model's reading, log entry 38). -/
def Obligations.FrameTableWriteLoads : Prop :=
  ∀ (rest : List Byte) (i : Fin 64) (e : FrameEntry) (s : State),
    LinkReady s → s.opState = .config → rest.length = 19 → u8 rest 0 = i.val →
    readFrameEntry (rest.drop 1) = some e →
      ∃ t, exec (.frameTableWrite rest) s = .next t ∧ Answered 0x01 .ok [] s t
        ∧ t.frp.table = s.frp.table.set i (some e)
        ∧ t.frp.run = s.frp.run.set i ⟨.stopped, none, 0, false, false, false⟩
        ∧ (∀ k : Slot, t.frp.senderErr[k] = (s.frp.senderErr[k] && !(frameSlots i s).contains k))
        ∧ ChangesOnly (answering ++ [.frameTable, .frameRuns, .senderFlags]) s t

/-- SIGNAL_TABLE_WRITE in CONFIG: the entry is replaced; under the same producer, and in an internal slot, the record is
kept; under another producer the slot returns to value 0, NEVER_RECEIVED, and stays there when the new producer is no
line, or a line with no accepted reading, or with no entry (SL0 with its entry unloaded among them: log entry 19). A line
with an accepted reading brings the slot up to date. The report flag makes the slot pending with no last report, or
removes it. -/
def Obligations.SignalTableWriteLoads : Prop :=
  ∀ (rest : List Byte) (i : Slot) (e : SignalEntry) (s : State),
    LinkReady s → s.opState = .config → rest.length = 29 → u8 rest 0 = i.val →
    readSignalEntry i (rest.drop 1) = some e →
      let put (v : Int) (q : Quality) : SlotRecord :=
        if v < e.min then ⟨e.min, .limited, some s.now⟩
        else if e.max < v then ⟨e.max, .limited, some s.now⟩ else ⟨v, q, some s.now⟩
      ∃ t, exec (.signalTableWrite rest) s = .next t ∧ Answered 0x01 .ok [] s t
        ∧ t.sst.table = s.sst.table.set i (some e)
        ∧ (∀ j ≠ i, t.slot j = s.slot j)
        ∧ ((isInternal i = true ∨ producerOf i s = e.producer) → t.slot i = s.slot i)
        ∧ (isInternal i = false → producerOf i s ≠ e.producer →
            (e.kind ≠ .line ∨ ∀ l : Fin 48, l.val = e.index → s.lsc.lines[l].accepted = none ∨ s.lsc.table[l] = none) →
            t.slot i = ⟨0, .neverReceived, none⟩)
        ∧ (∀ l : Fin 48, isInternal i = false → producerOf i s ≠ e.producer → e.kind = .line → l.val = e.index →
          s.lsc.table[l] ≠ none →
          let r := s.lsc.lines[l]
          let faulted := ∃ x, r.accepted = some x ∧ x.isFault = true
          (∀ b, r.accepted = some .active ∨ r.accepted = some .inactive → r.state = some b →
            t.slot i = put (bitNat b) .valid)
          ∧ (r.accepted = some .senderOk → t.slot i = put 1 .valid)
          ∧ (∀ v q, r.accepted = some .value → r.state = none → r.curveValue = some (v, q) → t.slot i = put v q)
          ∧ (∀ b, faulted → r.state = some b → t.slot i = ⟨(put (bitNat b) .valid).value, .lineFault, some s.now⟩)
          ∧ (∀ v q, faulted → r.state = none → r.curveValue = some (v, q) →
            t.slot i = ⟨(put v q).value, .lineFault, some s.now⟩)
          ∧ (faulted → r.state = none → r.curveValue = none → t.slot i = ⟨0, .lineFault, some s.now⟩))
        ∧ t.cli.updates
            = (if e.report then (if s.cli.updates.contains i then s.cli.updates else s.cli.updates ++ [i])
              else s.cli.updates.erase i)
        ∧ t.cli.reports[i].last = none
        ∧ ChangesOnly (answering ++ [.signalTable, .slots, .inFlight, .senderFlags, .updates]) s t

/-- LINK_, DOOR_, CURVE_ and SCAN_TABLE_WRITE in CONFIG: the entry is replaced. A link write abandons a workshop response
in flight, a segment at a port that does not run being withdrawn, and leaves the ports as they run; a scan write restarts play at scan slot 0 and clears every candidate. -/
def Obligations.ConfigTableWritesLoad : Prop :=
  ∀ (rest : List Byte) (s : State), LinkReady s → s.opState = .config →
    (∀ e, rest.length = 16 → u8 rest 0 = 0 → readLinkEntry (rest.drop 1) = some e →
      ∃ t, exec (.linkTableWrite rest) s = .next t ∧ Answered 0x01 .ok [] s t
        ∧ t.cli.link = some e ∧ ResponseAbandoned s t
        ∧ ChangesOnly (answering ++ [.link, .wsResponse, .freeCount]) s t)
    ∧ (∀ (l : Fin 8) (e : DoorEntry), rest.length = 12 → u8 rest 0 = l.val → readDoorEntry (rest.drop 1) = some e →
      ∃ t, exec (.doorTableWrite rest) s = .next t ∧ Answered 0x01 .ok [] s t
        ∧ t.drm.table = s.drm.table.set l (some e) ∧ ChangesOnly (answering ++ [.doorTable]) s t)
    ∧ (∀ (i : Fin 16) (e : Curve), rest.length = 50 → u8 rest 0 = i.val → readCurve (rest.drop 1) = some e →
      ∃ t, exec (.curveTableWrite rest) s = .next t ∧ Answered 0x01 .ok [] s t
        ∧ t.lsc.curves = s.lsc.curves.set i (some e) ∧ ChangesOnly (answering ++ [.curves]) s t)
    ∧ (∀ l, rest.length = 50 → u8 rest 0 = 0 → readScan (rest.drop 1) = some l →
      ∃ t, exec (.scanTableWrite rest) s = .next t ∧ Answered 0x01 .ok [] s t
        ∧ t.lsc.scan = some l ∧ t.lsc.scanPos = 0 ∧ t.lsc.scanDue = some (s.now + 250) ∧ t.lsc.passDue = none
        ∧ (∀ k : Fin 48, t.lsc.lines[k] = { s.lsc.lines[k] with candidate := none })
        ∧ ChangesOnly (answering ++ [.scanTable, .lines, .scanPlay]) s t)

/-- LINE_TABLE_WRITE in CONFIG: the entry is replaced and the line's debounce state cleared, its last code kept; a fault
condition present on the line ends, and the sender-fault indication is re-formed, which brings PULSE_SPEED to rest where it
changes. -/
def Obligations.LineTableWriteLoads : Prop :=
  ∀ (rest : List Byte) (l : Fin 48) (e : LineEntry) (s : State),
    LinkReady s → s.opState = .config → rest.length = 15 → u8 rest 0 = l.val →
    readLineEntry l (rest.drop 1) = some e →
      ∃ t more es, exec (.lineTableWrite rest) s = .next t ∧ Answered 0x01 .ok [] s t
        ∧ t.lsc.table = s.lsc.table.set l (some e)
        ∧ t.lsc.lines = s.lsc.lines.set l ⟨s.lsc.lines[l].lastCode, none, none, none, none⟩
        ∧ t.inFlight = s.inFlight ++ (lineFault l s).toList.map (fun x => .faultConditionEnd x.1 x.2) ++ more
        ∧ (t.lsc.senderFault = true ↔ ∃ k : Fin 48, (t.lsc.table[k].any fun x => decide (x.cls = .pulseSense)) = true
            ∧ t.lsc.lines[k].accepted.any Reading.isFault = true)
        ∧ SenderFaultFollowed es s t ∧ Queued es s t
        ∧ (∀ i : Slot, i ≠ pulseSpeed → i ≠ vehicleSpeed → i ≠ driveCycle → t.slot i = s.slot i)
        ∧ ChangesOnly (answering ++ .lineTable :: sampling) s t

/-- GAUGE_, PATTERN_ and FAULT_CLASS_TABLE_WRITE in CONFIG and in RUN: the entry is replaced, and in RUN CONFIG_CHANGED
names the table and the index. A gauge write brings the pointer within the new span and restarts the filter from it; a
pattern write in RUN removes the requests that its repeat completes, cuts the burst of a playing request of the pattern,
and lets the winner play; a class write changes no record. -/
def Obligations.RunTableWritesLoad : Prop :=
  ∀ (rest : List Byte) (s : State), LinkReady s → s.opState = .config ∨ s.opState = .run →
    let changed (table : Nat) : List Event := if s.opState = .run then [.configChanged table (u8 rest 0)] else []
    (∀ (c : Fin 6) (e : GaugeEntry), rest.length = 17 → u8 rest 0 = c.val → readGaugeEntry (rest.drop 1) = some e →
      ∃ t, exec (.gaugeTableWrite rest) s = .next t ∧ Answered 0x01 .ok [] s t
        ∧ t.gdr.table = s.gdr.table.set c (some e)
        ∧ (let p := min (gaugeRun c s).p e.span
           gaugeRun c t = { gaugeRun c s with p := p, f := 256 * p, prevTarget := p, holdTimer := none })
        ∧ (∀ k ≠ c, gaugeRun k t = gaugeRun k s)
        ∧ gaugeTest c t = (gaugeTest c s).map (fun position => min position e.span)
        ∧ Queued (changed 7) s t
        ∧ ChangesOnly (answering ++ [.gaugeTable, .gaugeRuns, .wsTest] ++ sending) s t)
    ∧ (∀ (p : Fin 8) (e : PatternEntry), rest.length = 9 → u8 rest 0 = p.val → readPattern (rest.drop 1) = some e →
      let completed (r : ChimeRequest) : Bool :=
        decide (r.pattern = p) && decide (e.repeats ≠ 0) && decide (e.repeats ≤ r.count)
      let cut (b : Playing) : Bool := s.chg.requests.any fun r => decide (r.who = b.who) && decide (r.pattern = p)
      ∃ t, exec (.patternTableWrite rest) s = .next t ∧ Answered 0x01 .ok [] s t
        ∧ t.chg.table = s.chg.table.set p (some e)
        ∧ (s.opState = .config → t.chg.requests = s.chg.requests ∧ t.chg.playing = s.chg.playing ∧ t.drm = s.drm)
        ∧ (s.opState = .run → ChimeLegal s →
            t.chg.requests = s.chg.requests.filter (fun r => !completed r)
            ∧ WinnerPlays (s.chg.playing.filter fun b => !cut b) t
            ∧ ∀ q : Fin 4, portalRun q t = { portalRun q s with
                held := (portalRun q s).held
                  && !(s.chg.requests.any fun r => decide (r.who = .portal q) && completed r) })
        ∧ (∀ r, r ∈ t.chg.requests → r ∈ s.chg.requests)
        ∧ Queued (changed 9) s t
        ∧ ChangesOnly (answering ++ .patternTable :: chiming ++ sending) s t)
    ∧ (∀ (c : Fin 16) (e : ClassEntry), rest.length = 8 → u8 rest 0 = c.val → readClass (rest.drop 1) = some e →
      ∃ t, exec (.faultClassTableWrite rest) s = .next t ∧ Answered 0x01 .ok [] s t
        ∧ t.flt.table = s.flt.table.set c (some e) ∧ Queued (changed 10) s t
        ∧ ChangesOnly (answering ++ .classTable :: sending) s t)

/-- WARNING_TABLE_WRITE: in CONFIG the entry is replaced and put in OFF, with no event; in RUN it is put in OFF with its
chime request withdrawn, a WARNING event of the OFF entry (of an enabled one) and CONFIG_CHANGED are queued, and the new
entry is evaluated afresh; a disabled entry stands in OFF. (The order of the events, and an event of a new top warning
before them: log entry 16.) -/
def Obligations.WarningTableWriteLoads : Prop :=
  ∀ (rest : List Byte) (i : Fin 96) (e : WarnEntry) (s : State),
    LinkReady s → rest.length = 37 → u8 rest 0 = i.val → readWarnEntry (rest.drop 1) = some e →
      (s.opState = .config →
        ∃ t, exec (.warningTableWrite rest) s = .next t ∧ Answered 0x01 .ok [] s t
          ∧ t.wrn.table = s.wrn.table.set i (some e)
          ∧ t.wrn.run = s.wrn.run.set i
              { warnRun i s with state := .off, truth := none, unknown := false, cond := false, timer := none }
          ∧ ChangesOnly (answering ++ [.warnTable, .warnRuns]) s t)
      ∧ (s.opState = .run →
        ∃ t es, exec (.warningTableWrite rest) s = .next t ∧ Answered 0x01 .ok [] s t
          ∧ t.wrn.table = s.wrn.table.set i (some e)
          ∧ Queued es s t ∧ .configChanged 8 i ∈ es
          ∧ (∃ first last, es = first ++ (if e.enabled then [.warning i .off false false] else [])
                ++ .configChanged 8 i :: last
              ∧ (∀ x ∈ first, ∃ j st u, j ≠ i ∧ x = .warning j st u true)
              ∧ (∀ x ∈ last, ∃ j st u top, x = .warning j st u top)
              ∧ (e.enabled = true → (warnRun i t).state ≠ .off → ∃ u top, .warning i (warnRun i t).state u top ∈ last)
              ∧ (e.enabled = false → last = []))
          ∧ ((∀ k, (e.kind ≠ .faultClass ∧ k = e.source) ∨ (∃ g, e.gate = some g ∧ k = g.slot) →
                k ≠ activeWarnings ∧ fallbackOf k s ≠ some activeWarnings) →
              TruthFormed e none s (warnRun i t))
          ∧ (e.enabled = true → EntersAfresh e s (warnRun i t))
          ∧ (e.enabled = false → (warnRun i t).state = .off ∧ (warnRun i t).timer = none)
          ∧ (warnRun i t).observed = ((warnRun i s).observed || (warnRun i t).cond)
          ∧ (∀ j ≠ i, (warnRun j t).state = (warnRun j s).state ∧ (warnRun j t).timer = (warnRun j s).timer
              ∧ (warnRun j t).truth = (warnRun j s).truth)
          ∧ (WarningsLegal s → WarningsLegal t)
          ∧ t.inFlight.count (.requestWithdrawal (.warning i)) = s.inFlight.count (.requestWithdrawal (.warning i))
              + (if ((warnEntry i s).bind WarnEntry.chime).isSome ∧ (warnRun i s).state = .onUnack then 1 else 0)
          ∧ (∀ p, e.chime = some p → t.inFlight.count (.requestPlacing (.warning i) p)
              = s.inFlight.count (.requestPlacing (.warning i) p) + (if (warnRun i t).state = .onUnack then 1 else 0))
          ∧ ChangesOnly (answering ++ .warnTable :: warning) s t)

/-- CALIBRATION_TABLE_WRITE in any operating state: LOCKED while the calibration window is closed; else the entry is
replaced, the residue becomes 0, an open measurement window is abandoned and a measurement without one keeps its state, the
plausibility check starts anew, VEHICLE_SPEED is re-formed with its tests, and CAL_CHANGED names the whole entry. The
standstill timer meets the new timeout at once. PULSE_SPEED keeps its record, but for a standstill that is taken and for
the first load, which bring it to the rest of a loaded table (by a write that log entry 14 infers). -/
def Obligations.CalibrationTableWriteLoads : Prop :=
  ∀ (rest : List Byte) (s : State), LinkReady s → rest.length = 12 →
    (s.sdu.windowOpen = false → exec (.calibrationTableWrite rest) s = .next (respond 0x01 .locked [] s))
    ∧ (s.sdu.windowOpen = true → u8 rest 0 ≠ 0 ∨ readCal (rest.drop 1) = none →
        exec (.calibrationTableWrite rest) s = .next (respond 0x01 .range [] s))
    ∧ (∀ e, s.sdu.windowOpen = true → u8 rest 0 = 0 → readCal (rest.drop 1) = some e →
      let late := ∃ since, s.sdu.standFrom = some since ∧ since + 10000 * e.standstill ≤ s.now
      ∃ t, exec (.calibrationTableWrite rest) s = .next t ∧ Answered 0x01 .ok [] s t
        ∧ t.sdu.cal = some e ∧ t.sdu.residue = 0 ∧ t.sdu.filterRef = s.sdu.filterRef
        ∧ (∀ t0 n, s.sdu.meas = .opened t0 n → t.sdu.meas = .waiting ∧ t.sdu.boundDue = none)
        ∧ ((∀ t0 n, s.sdu.meas ≠ .opened t0 n) → t.sdu.meas = s.sdu.meas ∧ t.sdu.boundDue = s.sdu.boundDue)
        ∧ (∀ since, t.sdu.plausFrom = some since → since = s.now)
        ∧ t.sdu.plausPresent = s.sdu.plausPresent
        ∧ (late → t.sdu.standFrom = none) ∧ (¬late → t.sdu.standFrom = s.sdu.standFrom)
        ∧ (late ∨ s.sdu.cal = none → PulseRests s t)
        ∧ (¬late → s.sdu.cal ≠ none → t.slot pulseSpeed = s.slot pulseSpeed)
        ∧ SpeedFormed t ∧ SpeedTested s t
        ∧ Queued (.calChanged 0xFF .management :: closingEvents s t) s t
        ∧ ChangesOnly (answering ++ .calibration :: .residue :: measuring) s t)

/-! ### Reads -/

/-- TABLE_READ, SIGNAL_READ, LIST_READ, FAULT_READ and IDENT_READ answer from the state at one instant and change
nothing: the response is all. The active list that LIST_READ reads holds exactly the enabled entries in a list state, each
once, by severity, acknowledgement, rank and join sequence. (What the spec leaves open in the data of TABLE_READ is a free
value or the model's choice: log entries 9, 11 and 43.) -/
def Obligations.ReadRecordsAnswerAndChangeNothing : Prop :=
  ∀ s : State,
    (let acked (i : Fin 96) : Nat := if (warnRun i s).state = .onAck ∨ (warnRun i s).state = .offDelayAcked then 1 else 0
     let severity (e : WarnEntry) : Nat := match e.severity with
      | .red => 0
      | .amber => 1
      | .white => 2
     let stands (i : Fin 96) (e : WarnEntry) : Prop :=
      warnEntry i s = some e ∧ e.enabled = true ∧ (warnRun i s).state ≠ .off ∧ (warnRun i s).state ≠ .onDelay
     (∀ i, i ∈ activeList s ↔ ∃ e, stands i e) ∧ (activeList s).Nodup ∧ topWarning s = (activeList s)[0]?
     ∧ (activeList s).length = listLength s
     ∧ (activeList s).Pairwise (fun i j => ∀ d e, warnEntry i s = some d → warnEntry j s = some e →
        severity d ≤ severity e
        ∧ (severity d = severity e → acked i ≤ acked j
          ∧ (acked i = acked j → d.rank ≤ e.rank ∧ (d.rank = e.rank → (warnRun i s).join ≤ (warnRun j s).join)))))
    ∧ (LinkReady s →
    (∀ table index : Byte,
      exec (.tableRead [table, index]) s = .next
        (match tableReadBytes table.toNat index.toNat s with
          | none => respond 0x02 .unknown [] s
          | some none => respond 0x02 .range [] s
          | some (some entry) => respond 0x02 .ok (table :: index :: entry) s))
    ∧ (∀ i : Byte,
      let slot : Slot := ⟨i.toNat, i.isLt⟩
      exec (.signalRead [i]) s = .next (respond 0x03 .ok
        ([i] ++ eInt32 (s.slot slot).value ++ e8 (s.slot slot).quality.code ++ e16 ((s.slot slot).age s.now)
          ++ eInt32 (effRead slot s).1 ++ e8 (effRead slot s).2.code) s))
    ∧ (∀ first : Byte,
      let l := ((activeList s).drop first.toNat).take 12
      exec (.listRead [first]) s = .next
        (if s.opState = .config then respond 0x04 .state [] s
        else if 95 < first.toNat then respond 0x04 .range [] s
        else respond 0x04 .ok (e8 (activeList s).length ++ eOptFF (topWarning s) ++ e8 l.length
          ++ l.flatMap (listElement s)) s))
    ∧ (∀ pos : Byte,
      exec (.faultRead [pos]) s = .next
        (match s.flt.records[pos.toNat]? with
          | none => respond 0x11 .range [] s
          | some r => respond 0x11 .ok (e8 s.flt.records.length ++ e8 (bitNat s.flt.overflow) ++ r.bytes) s))
    ∧ exec (.identRead []) s = .next (respond 0x13 .ok
        (e16 0x0A17 ++ e16 0x0614 ++ e8 0x01 ++ e16 (flagsNat (loadStates s)) ++ e8 s.opState.code
          ++ eFlags [s.gdr.homingDone, s.flt.firstStart, s.sdu.windowOpen]) s))

/-! ### Operating states -/

/-- START in CONFIG after homing: INCONSISTENT with the table and index at fault, the first in R177's order; or RUN with
the first-start mark set, STATE queued first, the park delay started by IGNITION 0, the first timeouts of the enabled
frame entries running, the faulted lines reported again, the measurement waiting, the gauge filters restarted, every
loaded warning entry evaluated afresh, and the doors derived for the first time. (What reads a slot that a block writes at
this entry sees it before or after the write: log entry 5.) With a park delay of 0 and IGNITION 0 the part is PARKED at
once (log entry 28). -/
def Obligations.StartEntersRun : Prop :=
  ∀ s : State, LinkReady s → s.gdr.homingDone = true → s.opState = .config →
    (∀ table index, startFault s = some (table, index) →
      exec (.start []) s = .next (respond 0x05 .inconsistent (e8 table ++ e8 index) s))
    ∧ (let configured (i : Slot) : Prop := i.val < 12 ∨ ∃ e, s.signal i = some e ∧ e.kind ≠ .unused
       let signalFits (i : Slot) : Prop := ∀ e, s.signal i = some e →
        (e.kind = .frame → ∃ (k : Fin 64) (f : FrameEntry), k.val = e.index ∧ s.frp.table[k] = some f ∧ f.enabled = true
          ∧ topBit e.msbFirst e.startBit e.length < 8 * f.minLength
          ∧ ∀ m, e.mux = some m → ∃ start len, f.selector = some (start, len) ∧ m < 2 ^ len)
        ∧ (e.kind = .line → ∃ l : Fin 48, l.val = e.index ∧ (s.lsc.table[l].isSome = true ∨ l.val = 0)
          ∧ (∀ list, s.lsc.scan = some list → l ∈ list) ∧ (s.lsc.scan = none → l.val = 0))
        ∧ (12 ≤ i.val → e.fallback ≠ some i)
       let doorFits (l : Fin 8) : Prop :=
        let e := doorEntry l s
        e.fitted = true →
          portalExists (portalOf l) s = true ∧ configured e.closedSlot ∧ configured e.openSlot ∧ configured e.edgeSlot
          ∧ (lockFitted l s = true → ∃ i, e.lockedSlot = some i ∧ configured i)
          ∧ (l.val % 2 = 0 → ∀ i, e.releaseSlot = some i ∨ e.requestSlot = some i → configured i)
       let gaugeFits (c : Fin 6) : Prop := (gaugeEntry c s).enabled = true → configured (gaugeEntry c s).source
       let warningFits (i : Fin 96) : Prop := ∀ e, warnEntry i s = some e → e.enabled = true →
        (e.kind ≠ .faultClass → configured e.source) ∧ ∀ g, e.gate = some g → configured g.slot
       let pulseSense (l : Fin 48) : Prop := ∃ e, s.lsc.table[l] = some e ∧ e.cls = .pulseSense
       let oneSender : Prop := ∀ k l, pulseSense k → pulseSense l → k = l
       let firstUnfit {n : Nat} (table : Nat) (fits : Fin n → Prop) : Prop :=
        ∀ i, ¬fits i → (∀ j < i, fits j) → startFault s = some (table, i.val)
       (s.sdu.cal = none → startFault s = some (11, 0))
       ∧ (s.sdu.cal ≠ none →
        firstUnfit 1 signalFits
        ∧ ((∀ i, signalFits i) →
          (∀ k l, k < l → pulseSense k → pulseSense l → (∀ m < l, pulseSense m → m = k) → startFault s = some (3, l.val))
          ∧ (oneSender →
            firstUnfit 6 doorFits
            ∧ ((∀ l, doorFits l) →
              firstUnfit 7 gaugeFits
              ∧ ((∀ c, gaugeFits c) →
                firstUnfit 8 warningFits
                ∧ ((∀ i, warningFits i) → startFault s = none)))))))
    ∧ (startFault s = none →
      ∃ t more, exec (.start []) s = .next t ∧ Answered 0x05 .ok [] s t
        ∧ t.flt.firstStart = true ∧ Queued (.state .run .start :: more) s t
        ∧ (ignitionIs 0 s = true → (linkOf s).parkDelay = 0 → t.opState = .parked)
        ∧ ((ignitionIs 0 s = false ∨ (linkOf s).parkDelay ≠ 0) →
            t.opState = .run
            ∧ t.cli.parkDue
                = (if ignitionIs 0 s then some (s.now + 1000 * (1000 * (linkOf s).parkDelay)) else none)
            ∧ (∀ (i : Fin 64) (e : FrameEntry), s.frp.table[i] = some e → e.enabled = true →
                (frameRun i t).timer = .firstWait (s.now + 10000 * e.firstTimeout)
                  ∧ (frameRun i t).aliveRef = none ∧ (frameRun i t).seqRun = 0)
            ∧ (∀ l f, lineFault l s = some f → .faultConditionStart f.1 f.2 ∈ t.inFlight)
            ∧ MeasurementStarts s t ∧ FiltersRestart s t
            ∧ (WarningsLegal s → WarningsLegal t ∧ ∀ (i : Fin 96) (e : WarnEntry), warnEntry i s = some e →
                ((∀ k, (e.kind ≠ .faultClass ∧ k = e.source) ∨ (∃ g, e.gate = some g ∧ k = g.slot) → FromOutside k s) →
                  TruthFormed e none s (warnRun i t))
                ∧ (e.enabled = true → EntersAfresh e s (warnRun i t)))
            ∧ (∀ l, leafFitted l s = true →
              ((∀ i ∈ leafInputs l s, FromOutside i s) → LeafDerived l .notEvaluated (leafRun l t).state s)
              ∧ (FromOutside (doorEntry l s).edgeSlot s →
                (leafRun l t).edge = decide (readInput (doorEntry l s).edgeSlot s = some true))
              ∧ (leafRun l t).inconsistent = decide ((leafRun l t).state = .fault)
              ∧ (leafRun l t).obstructions = (leafRun l s).obstructions ∧ (leafRun l t).cycles = (leafRun l s).cycles)
            ∧ (∀ p, portalExists p s = true → PortalFormed p (FromOutside · s) t
              ∧ ∀ i, (leader p s).requestSlot = some i → FromOutside i s →
                (portalRun p t).reading = decide (readInput i s = some true))
            ∧ DoorSlotsFormed s t ∧ t.drm.latch = s.drm.latch ∧ t.slot stopRequest = s.slot stopRequest)
        ∧ ChangesOnly (.firstStart :: answering ++ runEntry ++ parkEntering) s t)

/-- SWEEP: STATE outside RUN, MOVING unless VEHICLE_SPEED's own record is usable and below 0.50 km/h, and else SWEEP in
its RISE phase with the park delay stopped, an output test ended and STATE queued. -/
def Obligations.SweepEntersSweep : Prop :=
  ∀ s : State, LinkReady s →
    (s.opState ≠ .run → exec (.sweep []) s = .next (respond 0x06 .state [] s))
    ∧ (s.opState = .run → ¬((s.slot vehicleSpeed).quality.usable = true ∧ (s.slot vehicleSpeed).value < 50) →
        exec (.sweep []) s = .next (respond 0x06 .moving [] s))
    ∧ (s.opState = .run → (s.slot vehicleSpeed).quality.usable = true → (s.slot vehicleSpeed).value < 50 →
      ∃ t, exec (.sweep []) s = .next t ∧ Answered 0x06 .ok [] s t
        ∧ t.opState = .sweep ∧ t.gdr.sweepPhase = some .rise ∧ t.wsp.test = none ∧ t.cli.parkDue = none
        ∧ Queued [.state .sweep .sweepRequest] s t
        ∧ ChangesOnly (answering ++ .opState :: .parkDelay :: .sweepPhase :: .wsTest :: .gaugeRuns :: .requests
            :: .playing :: sending) s t)

/-- PARK in RUN or SWEEP, and the expiry of the park delay there: the part is PARKED, its frame timers stopped and the good
slots of timed frame entries STALE, the measurement stopped with PULSE_SPEED at rest, a qualified drive cycle reported and
ended, sweep, chime requests and output test gone, every warning entry outside the parked set OFF, and a parked pass
under way. An expiry that is not due changes nothing. -/
def Obligations.ParkEntersParked : Prop :=
  ∀ s : State,
    (LinkReady s → s.opState ≠ .run → s.opState ≠ .sweep → exec (.park []) s = .next (respond 0x07 .state [] s))
    ∧ (LinkReady s → s.opState = .run ∨ s.opState = .sweep →
      ∃ t more, exec (.park []) s = .next t ∧ Answered 0x07 .ok [] s t ∧ PartParks s t
        ∧ Queued (.state .parked .parkRequest :: more) s t ∧ OffEventsAmong more s
        ∧ ChangesOnly (answering ++ parkEntering) s t)
    ∧ (∀ d, s.opState = .run ∨ s.opState = .sweep → s.cli.parkDue = some d → d ≤ s.now →
      ∃ t, exec .parkDelayExpiry s = .next t ∧ PartParks s t
        ∧ (sendingHeld s = true → ∃ more, Queued (.state .parked .parkDelay :: more) s t ∧ OffEventsAmong more s)
        ∧ ChangesOnly parkEntering s t)
    ∧ ((∀ d, s.cli.parkDue = some d → s.now < d) → exec .parkDelayExpiry s = .next s)

/-- RESET in every operating state: CONFIG, with the RESET event alone in the queue, the pending set empty and no last
report. Every block takes its commanded reset: frame-produced slots never received and every other configurable slot kept,
records STORED, warnings OFF with their observed flags kept and their chime requests withdrawn, no chime request, no output
test and no workshop response, leaves and portals not evaluated with the counters kept, frame state and sender flags
cleared, pointers and homing kept, the slots that count warnings, faults and doors and the drive cycle at 0. Scanning goes
on where it stood, or from PARKED starts again at scan slot 0 (an unloaded list with its first sample 1 ms later: log entry
42). Tables, distance, the calibration window and the two once-only marks are kept. -/
def Obligations.ResetResetsBlocks : Prop :=
  ∀ s : State, LinkReady s →
    ∃ t, exec (.reset []) s = .next t ∧ Answered 0x08 .ok [] s t
      ∧ t.opState = .config ∧ t.cli.parkDue = none
      ∧ t.cli.events = [.state .config .reset] ∧ t.cli.overrun = false ∧ t.cli.updates = []
      ∧ (∀ i : Slot, t.cli.reports[i] = ⟨none, s.now⟩)
      ∧ (∀ i, frameRun i t = ⟨.stopped, none, 0, false, false, false⟩) ∧ (∀ k : Slot, t.frp.senderErr[k] = false)
      ∧ (∀ k : Slot, 12 ≤ k.val → (∃ g, s.signal k = some g ∧ g.kind = .frame) → t.slot k = ⟨0, .neverReceived, none⟩)
      ∧ (∀ k : Slot, 12 ≤ k.val → (∀ g, s.signal k = some g → g.kind ≠ .frame) → t.slot k = s.slot k)
      ∧ t.sdu.meas = .stopped ∧ t.sdu.filterRef = none ∧ t.sdu.plausPresent = false ∧ t.sdu.implausible = false
      ∧ t.sdu.boundDue = none ∧ t.sdu.standFrom = none ∧ t.sdu.plausFrom = none
      ∧ t.sdu.windowOpen = s.sdu.windowOpen ∧ t.sdu.residue = s.sdu.residue
      ∧ (let q : Quality := if s.sdu.cal = none then .notAvailable else if s.lsc.senderFault then .lineFault else .valid
         t.slot pulseSpeed = ⟨0, q, some s.now⟩ ∧ t.slot vehicleSpeed = ⟨0, q, some s.now⟩)
      ∧ (∀ c, gaugeRun c t = ⟨(gaugeRun c s).p, 0, 0, 0, none⟩) ∧ t.gdr.sweepPhase = none
      ∧ (∀ i, warnRun i t = ⟨.off, none, false, false, none, (warnRun i s).observed, 0⟩)
      ∧ t.wrn.joinCounter = 0 ∧ t.wrn.reportedTop = none
      ∧ (∀ i e, warnEntry i s = some e → e.chime.isSome = true → (warnRun i s).state = .onUnack →
        t.inFlight.count (.requestWithdrawal (.warning i)) = s.inFlight.count (.requestWithdrawal (.warning i)) + 1)
      ∧ t.chg.requests = [] ∧ t.chg.playing = none
      ∧ (∀ l, leafRun l t = ⟨.notEvaluated, none, none, false, false, false, (leafRun l s).cycles,
          (leafRun l s).obstructions, (leafRun l s).maxTransit⟩)
      ∧ (∀ p, portalRun p t = ⟨.notEvaluated, false, false, false, false⟩) ∧ t.drm.latch = false
      ∧ t.flt.records = s.flt.records.map (fun r => { r with active := false })
      ∧ ResponseAbandoned s t ∧ t.wsp.test = none
      ∧ (∀ i, i ∈ [doorsAllClosed, stopRequest, openPortals, activeWarnings, activeFaults, driveCycle] →
        t.slot i = ⟨0, .valid, some s.now⟩)
      ∧ (s.opState = .parked → t.lsc.scanPos = 0 ∧ t.lsc.passDue = none
        ∧ t.lsc.scanDue = some (s.now + if s.lsc.scan.isSome then 250 else 1000))
      ∧ (s.opState ≠ .parked → t.lsc.scanPos = s.lsc.scanPos ∧ t.lsc.passDue = s.lsc.passDue
        ∧ t.lsc.scanDue = s.lsc.scanDue)
      ∧ (∀ i, i.val = 2 ∨ i.val = 3 ∨ i.val = 4 ∨ i.val = 7 → t.slot i = s.slot i)
      ∧ ChangesOnly (answering ++ .opState :: .parkDelay :: .queues :: resetting) s t

/-! ### Requests of the display processor -/

/-- WARNING_ACK in RUN and SWEEP acknowledges the entry named, or with FFh every one: the entry moves by R106's table,
and every other entry keeps its state and truth. An acknowledged OFF_DELAY lets its timer run on, and ON_ACK starts its
reminder. The change of one entry is told by its own event and, where the top warning changes to another entry, by that
one's, and brings with it its place in the list, ACTIVE_WARNINGS and its chime request. -/
def Obligations.WarningAckAcknowledges : Prop :=
  ∀ (b : Byte) (s : State), LinkReady s →
    (s.opState ≠ .run → s.opState ≠ .sweep → exec (.warningAck [b]) s = .next (respond 0x09 .state [] s))
    ∧ (s.opState = .run ∨ s.opState = .sweep → 95 < b.toNat → b ≠ 0xFF →
        exec (.warningAck [b]) s = .next (respond 0x09 .range [] s))
    ∧ (s.opState = .run ∨ s.opState = .sweep → b.toNat ≤ 95 ∨ b = 0xFF →
      ∃ t es, exec (.warningAck [b]) s = .next t ∧ Answered 0x09 .ok [] s t
        ∧ (∀ i : Fin 96, (warnRun i t).state =
            (if warnEnabled i s = true ∧ (b = 0xFF ∨ b.toNat = i.val) then
              (match (warnRun i s).state with
                | .onUnack => .onAck
                | .offDelayUnacked => .offDelayAcked
                | .latchedUnack => .off
                | .off => .off
                | .onDelay => .onDelay
                | .onAck => .onAck
                | .offDelayAcked => .offDelayAcked)
            else (warnRun i s).state))
        ∧ (∀ i : Fin 96, (warnRun i t).truth = (warnRun i s).truth ∧ (warnRun i t).unknown = (warnRun i s).unknown
            ∧ (warnRun i t).observed = ((warnRun i s).observed)
            ∧ ((warnRun i t).state = (warnRun i s).state → (warnRun i t).timer = (warnRun i s).timer)
            ∧ ((warnRun i t).state = .offDelayAcked → (warnRun i t).timer = (warnRun i s).timer)
            ∧ ((warnRun i t).state = .off → (warnRun i s).state ≠ .off → (warnRun i t).timer = none)
            ∧ (∀ e, warnEntry i s = some e → (warnRun i t).state = .onAck → (warnRun i s).state ≠ .onAck →
              (warnRun i t).timer = if e.reminder = 0 then none else some (s.now + 1000000 * e.reminder)))
        ∧ (∀ i : Fin 96, b.toNat = i.val →
          ((warnRun i t).state ≠ (warnRun i s).state → EntryFollowed i s t ∧ es = ownEvent i t :: topEvents i s t)
          ∧ ((warnRun i t).state = (warnRun i s).state → es = [] ∧ t.inFlight = s.inFlight ∧ t.wrn = s.wrn
            ∧ t.sst = s.sst))
        ∧ (b = 0xFF → ∀ i : Fin 96, (warnRun i t).state ≠ (warnRun i s).state →
          ∃ u top, .warning i (warnRun i t).state u top ∈ es)
        ∧ (WarningsLegal s → WarningsLegal t)
        ∧ Queued es s t ∧ ChangesOnly (answering ++ warning) s t)

/-- OBSERVED_READ_CLEAR takes the observed flags of its range into the response and clears them, and no other. -/
def Obligations.ObservedReadClearTakesFlags : Prop :=
  ∀ (first count : Byte) (s : State), LinkReady s →
    (¬(first.toNat ≤ 95 ∧ 1 ≤ count.toNat ∧ first.toNat + count.toNat ≤ 96) →
        exec (.observedReadClear [first, count]) s = .next (respond 0x0A .range [] s))
    ∧ (first.toNat ≤ 95 ∧ 1 ≤ count.toNat ∧ first.toNat + count.toNat ≤ 96 →
      ∃ t data, exec (.observedReadClear [first, count]) s = .next t
        ∧ Answered 0x0A .ok (first :: count :: data) s t
        ∧ (∀ (k : Nat) (i : Fin 96), k < count.toNat → i.val = first.toNat + k →
            (data.getD (k / 8) 0).getLsbD (k % 8) = (warnRun i s).observed)
        ∧ (∀ i : Fin 96, warnRun i t =
            { warnRun i s with
              observed := (warnRun i s).observed
                && !(decide (first.toNat ≤ i.val) && decide (i.val < first.toNat + count.toNat)) })
        ∧ ChangesOnly (answering ++ [.warnRuns]) s t)

/-- CHIME_PLAY in RUN and SWEEP places the display processor's request afresh under a new stamp, RANGE above pattern 7;
CHIME_STOP withdraws it. In CONFIG and PARKED each is answered STATE. No other requester's request is touched, and of the
requests held the earliest of the highest priority plays: it plays on, or starts a fresh burst, as the display processor's own
does that is placed anew. -/
def Obligations.ChimePlayAndStop : Prop :=
  ∀ s : State, LinkReady s →
    let others := s.chg.requests.filter fun r => r.who ≠ .display
    let arbitrated (t : State) : Prop :=
      ChimeLegal s → ChimeLegal t ∧ WinnerPlays (s.chg.playing.filter fun b => decide (b.who ≠ .display)) t
    (s.opState = .config ∨ s.opState = .parked →
      (∀ b : Byte, exec (.chimePlay [b]) s = .next (respond 0x0B .state [] s))
      ∧ exec (.chimeStop []) s = .next (respond 0x0C .state [] s))
    ∧ (s.opState = .run ∨ s.opState = .sweep →
      (∀ b : Byte, 7 < b.toNat → exec (.chimePlay [b]) s = .next (respond 0x0B .range [] s))
      ∧ (∀ (b : Byte) (p : Fin 8), b.toNat = p.val →
        ∃ t, exec (.chimePlay [b]) s = .next t ∧ Answered 0x0B .ok [] s t
          ∧ t.chg.requests = others ++ [⟨.display, p, s.chg.seq + 1, 0⟩] ∧ t.chg.seq = s.chg.seq + 1 ∧ arbitrated t
          ∧ ChangesOnly (answering ++ [.requests, .playing]) s t)
      ∧ ∃ t, exec (.chimeStop []) s = .next t ∧ Answered 0x0C .ok [] s t
        ∧ t.chg.requests = others ∧ t.chg.seq = s.chg.seq ∧ arbitrated t
        ∧ ChangesOnly (answering ++ [.requests, .playing]) s t)

/-- TRIP_RESET in any operating state sets the trip named to 0 VALID and touches neither the residue, nor ODOMETER, nor
the other trip; a trip that already holds 0 VALID has its age reset and notifies nobody. -/
def Obligations.TripResetClearsOneTrip : Prop :=
  ∀ (b : Byte) (s : State), LinkReady s →
    (1 < b.toNat → exec (.tripReset [b]) s = .next (respond 0x0D .range [] s))
    ∧ ∀ trip : Slot, (b = 0 ∧ trip = tripA) ∨ (b = 1 ∧ trip = tripB) →
      ∃ t, exec (.tripReset [b]) s = .next t ∧ Answered 0x0D .ok [] s t
        ∧ t.slot trip = ⟨0, .valid, some s.now⟩ ∧ (∀ j ≠ trip, t.slot j = s.slot j)
        ∧ t.sdu.residue = s.sdu.residue
        ∧ ((s.slot trip).value = 0 → (s.slot trip).quality = .valid → t.inFlight = s.inFlight)
        ∧ ChangesOnly (answering ++ writing) s t

/-- ODOMETER_LOAD, once per power-on reset: LOCKED after an accepted one, whatever its value (that an out-of-range one is
LOCKED too is the model's reading: log entry 40, R76 does not order the two refusals); RANGE above 999,999,999, which leaves
the load available; else ODOMETER becomes the loaded value plus the pre-load count, at most 999,999,999, and the residue 0.
CAL_CLOSE closes the calibration window and says so once; at a closed window it changes nothing. -/
def Obligations.OdometerLoadAndCalCloseActOnce : Prop :=
  ∀ s : State, LinkReady s →
    (∀ body : List Byte, body.length = 4 →
      (s.sdu.loadUsed = true → exec (.odometerLoad body) s = .next (respond 0x0E .locked [] s))
      ∧ (s.sdu.loadUsed = false → 999999999 < u32 body 0 →
          exec (.odometerLoad body) s = .next (respond 0x0E .range [] s))
      ∧ (s.sdu.loadUsed = false → u32 body 0 ≤ 999999999 →
        ∃ t, exec (.odometerLoad body) s = .next t ∧ Answered 0x0E .ok [] s t
          ∧ t.slot odometer = ⟨(min 999999999 (u32 body 0 + s.sdu.preload) : Nat), .valid, some s.now⟩
          ∧ (∀ j ≠ odometer, t.slot j = s.slot j)
          ∧ t.sdu = { s.sdu with residue := 0, loadUsed := true }
          ∧ ChangesOnly (answering ++ .residue :: .odometerLoad :: writing) s t))
    ∧ (s.sdu.windowOpen = false → exec (.calClose []) s = .next (respond 0x0F .ok [] s))
    ∧ (s.sdu.windowOpen = true →
      ∃ t, exec (.calClose []) s = .next t ∧ Answered 0x0F .ok [] s t
        ∧ t.sdu = { s.sdu with windowOpen := false } ∧ Queued [.windowClosed false] s t
        ∧ ChangesOnly (answering ++ .calWindow :: sending) s t)

/-- STOP_REQUEST_CLEAR outside CONFIG: when the latch was 1 it becomes 0 with every requested flag, STOP_REQUEST is
written 0 VALID and the event names no portal; when it was 0 nothing changes. -/
def Obligations.StopRequestClearClearsLatch : Prop :=
  ∀ s : State, LinkReady s →
    (s.opState = .config → exec (.stopRequestClear []) s = .next (respond 0x12 .state [] s))
    ∧ (s.opState ≠ .config → s.drm.latch = false → exec (.stopRequestClear []) s = .next (respond 0x12 .ok [] s))
    ∧ (s.opState ≠ .config → s.drm.latch = true →
      ∃ t, exec (.stopRequestClear []) s = .next t ∧ Answered 0x12 .ok [] s t
        ∧ t.drm.latch = false ∧ (∀ p, portalRun p t = { portalRun p s with requested := false })
        ∧ t.drm.leaves = s.drm.leaves
        ∧ t.slot stopRequest = ⟨0, .valid, some s.now⟩ ∧ (∀ j ≠ stopRequest, t.slot j = s.slot j)
        ∧ Queued [.stopRequest false none] s t
        ∧ ChangesOnly (answering ++ .portals :: .latch :: writing ++ sending) s t)

/-- FAULT_RESTORE in CONFIG before the first start: STATE, then RANGE for a field out of range or a code that has a
record, then FULL, else the record stands at the end of the list as STORED, ACTIVE_FAULTS is written and FAULT queued. -/
def Obligations.FaultRestoreAppendsStored : Prop :=
  ∀ (body : List Byte) (s : State), LinkReady s → body.length = 40 →
    (s.opState ≠ .config ∨ s.flt.firstStart = true →
        exec (.faultRestore body) s = .next (respond 0x10 .state [] s))
    ∧ (s.opState = .config → s.flt.firstStart = false →
      (readFaultRecord body = none → exec (.faultRestore body) s = .next (respond 0x10 .range [] s))
      ∧ ∀ r, readFaultRecord body = some r →
        ((∃ x ∈ s.flt.records, x.code = r.code) → exec (.faultRestore body) s = .next (respond 0x10 .range [] s))
        ∧ ((∀ x ∈ s.flt.records, x.code ≠ r.code) → 32 ≤ s.flt.records.length →
            exec (.faultRestore body) s = .next (respond 0x10 .full [] s))
        ∧ ((∀ x ∈ s.flt.records, x.code ≠ r.code) → s.flt.records.length < 32 →
          ∃ t more, exec (.faultRestore body) s = .next t ∧ Answered 0x10 .ok [] s t
            ∧ t.flt.records = s.flt.records ++ [{ r with active := false }]
            ∧ (t.slot activeFaults).value = (s.flt.records.countP FaultRecord.active : Nat)
            ∧ Queued (.fault r.code .stored r.occurrence :: more) s t
            ∧ t.wrn = s.wrn ∧ IndicationSet (if r.code = .speed then false else s.sdu.implausible) s t
            ∧ ChangesOnly (answering ++ recording) s t))

/-! ### The cluster link -/

/-- The receiver takes a byte by its state, and a gap of 5 ms inside a record discards it. A discarded record has a
FORMAT response of kind 0, unless four discard responses wait; a complete one is executed as a record row is; one of a
kind that is none of the nineteen is answered UNKNOWN. -/
def Obligations.ReceiverTakesBytes : Prop :=
  ∀ s : State,
    let discarded (t : State) : Prop :=
      t.cli.rx = .hunt
        ∧ (4 ≤ s.cli.responses.countP Response.discard → t.cli.responses = s.cli.responses ∧ t.cli.tx = s.cli.tx)
        ∧ (s.cli.responses.countP Response.discard < 4 →
            let all := s.cli.responses ++ [⟨0, .format, [], true⟩]
            if sendingHeld s then t.cli.responses = all ∧ t.cli.tx = s.cli.tx
            else t.cli.responses = all.tail ∧ t.cli.tx = all.head?.map Response.bytes)
        ∧ ChangesOnly (.receiver :: answering) s t
    let rx (r : Receiver) : State := { s with cli := { s.cli with rx := r, gapFrom := s.now } }
    let hunt : State := { s with cli := { s.cli with rx := .hunt } }
    (∃ t, exec .clRecordDiscard s = .next t ∧ discarded t)
    ∧ (s.cli.rx ≠ .hunt → s.cli.gapFrom + 5000 ≤ s.now → ∃ t, exec .receiveGapExpiry s = .next t ∧ discarded t)
    ∧ (s.cli.rx = .hunt ∨ s.now < s.cli.gapFrom + 5000 → exec .receiveGapExpiry s = .next s)
    ∧ (∀ (kind : Byte) (body : List Byte), LinkReady s → kind.toNat = 0 ∨ 0x13 < kind.toNat →
        exec (.unknownKindRecord kind body) s = .next (respond kind .unknown [] s))
    ∧ ∀ (b : Byte) (err : Bool),
      (s.cli.rx = .hunt → b = 0xA5 → err = false → exec (.receivedByte b err) s = .next (rx .length))
      ∧ (s.cli.rx = .hunt → b ≠ 0xA5 ∨ err = true → exec (.receivedByte b err) s = .next s)
      ∧ (s.cli.rx ≠ .hunt → err = true → ∃ t, exec (.receivedByte b err) s = .next t ∧ discarded t)
      ∧ (s.cli.rx = .length → err = false → 1 ≤ b.toNat → b.toNat ≤ 61 →
          exec (.receivedByte b err) s = .next (rx (.body b.toNat [] b)))
      ∧ (s.cli.rx = .length → err = false → b = 0 ∨ 62 ≤ b.toNat →
          ∃ t, exec (.receivedByte b err) s = .next t ∧ discarded t)
      ∧ (∀ len taken sum, s.cli.rx = .body len taken sum → err = false →
          exec (.receivedByte b err) s = .next
            (if taken.length + 1 < len then rx (.body len (taken ++ [b]) (sum + b))
            else rx (.check (taken ++ [b]) (sum + b))))
      ∧ (∀ kind body sum, s.cli.rx = .check (kind :: body) sum → err = false →
          (sum + b ≠ 0 → ∃ t, exec (.receivedByte b err) s = .next t ∧ discarded t)
          ∧ (sum + b = 0 → prdy s = false → exec (.receivedByte b err) s = .next (respondDiscard kind hunt))
          ∧ (sum + b = 0 → LinkReady s → heldRecord ⟨kind, body⟩ s = false →
              exec (.receivedByte b err) s = .next (executeRecord ⟨kind, body⟩ hunt)))

/-- At the assertion of LRDY and at the end of a record the free transmitter chooses the oldest response, else the oldest
event with its overrun mark, else the eligible slot pending longest; else it stays free. LRDY deasserted, it starts
nothing. -/
def Obligations.TransmitterChooses : Prop :=
  ∀ (c : Instr) (s s0 : State),
    (c = .lrdyAsserted ∧ s0 = { s with cli := { s.cli with lrdy := true } })
      ∨ (c = .recordTransmitEnd ∧ s.cli.tx.isSome = true ∧ s0 = { s with cli := { s.cli with tx := none } }) →
    (sendingHeld s0 = true → exec c s = .next s0)
    ∧ (sendingHeld s0 = false →
      (∀ r rest, s.cli.responses = r :: rest →
        exec c s = .next { s0 with cli := { s0.cli with responses := rest, tx := some r.bytes, wake := false } })
      ∧ (∀ e rest, s.cli.responses = [] → s.cli.events = e :: rest →
        exec c s = .next { s0 with cli := { s0.cli with
          events := rest, overrun := false, tx := some (e.bytes s.cli.overrun), wake := false } })
      ∧ (∀ front i back, s.cli.responses = [] → s.cli.events = [] → s.cli.updates = front ++ i :: back →
        (∀ k ∈ front, eligible s k = false) → eligible s i = true →
        exec c s = .next { s0 with cli := { s0.cli with
          updates := front ++ back, tx := some (updateBytes i s), wake := false
          reports := s.cli.reports.set i ⟨some ((s.slot i).value, (s.slot i).quality), s.now⟩ } })
      ∧ (s.cli.responses = [] → s.cli.events = [] → (∀ k ∈ s.cli.updates, eligible s k = false) →
        exec c s = .next s0))
    ∧ exec .lrdyDeasserted s = .next { s with cli := { s.cli with lrdy := false } }
    ∧ (s.cli.tx = none → exec .recordTransmitEnd s = .next s)

/-- A report-flagged slot whose report clock has reached its heartbeat becomes pending, at the end of the set, unless it
is pending; a pending slot that has reached its minimum interval makes the transmitter choose. -/
def Obligations.ReportingTimersMakeSlotsPending : Prop :=
  ∀ (i : Slot) (e : SignalEntry) (s : State), s.signal i = some e →
    let beat := if e.heartbeat = 0 then (linkOf s).heartbeat else e.heartbeat
    let due := e.report = true ∧ beat ≠ 0 ∧ s.cli.reports[i].clockFrom + 100000 * beat ≤ s.now
    let ripe := s.cli.reports[i].last = none ∨ 10000 * e.minInterval ≤ s.now - s.cli.reports[i].clockFrom
    let sent : State := { s with cli := { s.cli with
      tx := some (updateBytes i s), wake := false, updates := s.cli.updates.erase i
      reports := s.cli.reports.set i ⟨some ((s.slot i).value, (s.slot i).quality), s.now⟩ } }
    (¬due ∨ i ∈ s.cli.updates → exec (.heartbeat i) s = .next s)
    ∧ (due → i ∉ s.cli.updates → sendingHeld s = true →
        exec (.heartbeat i) s = .next { s with cli := { s.cli with updates := s.cli.updates ++ [i] } })
    ∧ (due → s.cli.updates = [] → sendingHeld s = false → s.cli.responses = [] → s.cli.events = [] → ripe →
        exec (.heartbeat i) s = .next sent)
    ∧ (due → ∃ t, exec (.heartbeat i) s = .next t ∧ ChangesOnly sending s t)
    ∧ (i ∉ s.cli.updates ∨ ¬ripe ∨ sendingHeld s = true → exec (.minimumIntervalReached i) s = .next s)
    ∧ (∀ back, s.cli.updates = i :: back → ripe → sendingHeld s = false → s.cli.responses = [] → s.cli.events = [] →
        exec (.minimumIntervalReached i) s = .next sent)
    ∧ ∃ t, exec (.minimumIntervalReached i) s = .next t ∧ ChangesOnly sending s t

/-! ### Frames and lines -/

/-- FRAME_RECEIVED: a port that is OFF, CONFIG, and a frame that no entry matches leave no trace. The first entry that
matches takes the frame: a short one sets the LENGTH flag and nothing else; in PARKED one that is long enough clears
that flag and asserts WAKE with a STATE event, unless WAKE is asserted. -/
def Obligations.FrameIsTakenByFirstMatch : Prop :=
  ∀ (port : VehiclePort) (extended : Bool) (ident : BitVec 29) (dlc : BitVec 4) (data : List Byte) (s : State),
    data.length = min 8 dlc.toNat →
    let c := Instr.frameReceived port extended ident dlc data
    let takes (e : FrameEntry) : Prop :=
      e.enabled = true ∧ (port = .va → e.onVa = true) ∧ (port = .vb → e.onVb = true) ∧ e.extended = extended
        ∧ ident.setWidth 32 &&& e.mask = e.ident &&& e.mask ∧ (s.opState = .parked → e.wake = true)
    (vehicleRate port s = .off ∨ s.opState = .config ∨ (∀ (j : Fin 64) (e : FrameEntry),
        s.frp.table[j] = some e → ¬takes e) → exec c s = .next s)
    ∧ ∀ (i : Fin 64) (e : FrameEntry), vehicleRate port s ≠ .off → s.opState ≠ .config → s.frp.table[i] = some e →
      takes e → (∀ j < i, ∀ e', s.frp.table[j] = some e' → ¬takes e') →
        (data.length < e.minLength →
          ∃ t, exec c s = .next t
            ∧ frameRun i t = { frameRun i s with lengthFlag := true } ∧ (∀ j ≠ i, frameRun j t = frameRun j s)
            ∧ t.inFlight = s.inFlight ++ (if (frameRun i s).lengthFlag then []
                else [.faultConditionStart (.frame i .length) e.faultClass])
            ∧ ChangesOnly [.frameRuns, .inFlight] s t)
        ∧ (e.minLength ≤ data.length → s.opState = .parked →
          ∃ t, exec c s = .next t
            ∧ frameRun i t = { frameRun i s with lengthFlag := false } ∧ (∀ j ≠ i, frameRun j t = frameRun j s)
            ∧ t.inFlight = s.inFlight ++ (if (frameRun i s).lengthFlag then
                [.faultConditionEnd (.frame i .length) e.faultClass] else [])
            ∧ (s.cli.wake = true → t.cli = s.cli)
            ∧ (s.cli.wake = false → sendingHeld s = true → t.cli.wake = true ∧ Queued [.state .parked .wakeFrame] s t)
            ∧ ChangesOnly (.frameRuns :: .inFlight :: sending) s t)

/-- The raw value of a signal holds the data bits it names, LSB-first or MSB-first; its scaled value is rounded to the
nearest integer and offset. FRAME_RECEIVED in RUN and SWEEP, for the entry that takes a frame of at least its minimum
length: a repeat and a jump of the alive counter write no slot, and the third jump on end sets SEQUENCE; an accepted frame
restarts the timer, ends TIMEOUT, LENGTH and (after a reference) SEQUENCE, and writes each slot it carries, as a code or as
the scaled value. The start and the end of each condition, SENDER_ERROR among them, is reported once (SENDER_ERROR slot by
slot: log entry 46). -/
def Obligations.FrameIsCheckedAndExtracted : Prop :=
  (∀ (g : SignalEntry) (data : List Byte),
    let bit (k : Nat) : Bool := (data.getD (k / 8) 0).getLsbD (k % 8)
    let next (k : Nat) : Nat := if k % 8 = 0 then k + 15 else k - 1
    let half : Int := if g.shift = 0 then 0 else 2 ^ (g.shift - 1)
    (∃ u : Nat, u < 2 ^ g.length
      ∧ (∀ j, j < g.length → g.msbFirst = false → u.testBit j = bit (g.startBit + j))
      ∧ (∀ j, j < g.length → g.msbFirst = true → u.testBit (g.length - 1 - j) = bit (next^[j] g.startBit))
      ∧ rawValue g data = if g.signed = true ∧ 2 ^ (g.length - 1) ≤ u then (u : Int) - 2 ^ g.length else u)
    ∧ ∀ r : Int, scale g r = Int.fdiv (r * g.mult + half) (2 ^ g.shift) + g.offset)
  ∧ ∀ (port : VehiclePort) (extended : Bool) (ident : BitVec 29) (dlc : BitVec 4) (data : List Byte) (i : Fin 64)
    (e : FrameEntry) (s : State),
    vehicleRate port s ≠ .off → s.opState = .run ∨ s.opState = .sweep →
    takingEntry port extended ident s = some (i, e) → data.length = min 8 dlc.toNat → e.minLength ≤ data.length →
    let c := Instr.frameReceived port extended ident dlc data
    let r := { frameRun i s with lengthFlag := false }
    let counter := e.alive.map fun place =>
      let byte := data.getD place.1 0
      if place.2 then byte.extractLsb' 4 4 else byte.extractLsb' 0 4
    let reported (t : State) (failure : FrameFailure) (before after : Bool) : Prop :=
      let starts := Instr.faultConditionStart (.frame i failure) e.faultClass
      let ends := Instr.faultConditionEnd (.frame i failure) e.faultClass
      t.inFlight.count starts = s.inFlight.count starts + (if before = false ∧ after = true then 1 else 0)
        ∧ t.inFlight.count ends = s.inFlight.count ends + (if before = true ∧ after = false then 1 else 0)
    let flagsReported (t : State) : Prop :=
      reported t .length (frameRun i s).lengthFlag false
        ∧ reported t .sequence r.sequenceFlag (frameRun i t).sequenceFlag
        ∧ reported t .timeout r.timeoutFlag (frameRun i t).timeoutFlag
    (∀ n, counter = some n → r.aliveRef = some n →
      ∃ t, exec c s = .next t ∧ frameRun i t = r ∧ (∀ j ≠ i, frameRun j t = frameRun j s) ∧ flagsReported t
        ∧ ChangesOnly [.frameRuns, .inFlight] s t)
    ∧ (∀ n a, counter = some n → r.aliveRef = some a → n ≠ a → n ≠ a + 1 →
      let run := if r.seqRun < 255 then r.seqRun + 1 else 255
      ∃ t, exec c s = .next t
        ∧ frameRun i t = { r with
            seqRun := run, aliveRef := if 3 ≤ run then some n else some a
            sequenceFlag := r.sequenceFlag || decide (run = 3) }
        ∧ (∀ j ≠ i, frameRun j t = frameRun j s) ∧ flagsReported t
        ∧ ChangesOnly [.frameRuns, .inFlight] s t)
    ∧ ((∀ n a, counter = some n → r.aliveRef = some a → n = a + 1) →
      ∃ t, exec c s = .next t
        ∧ frameRun i t = { r with
            timer := if e.timeout = 0 then .untimed else .timed (s.now + 10000 * e.timeout)
            aliveRef := if e.alive.isSome then counter else r.aliveRef
            seqRun := if e.alive.isSome then 0 else r.seqRun
            sequenceFlag := r.sequenceFlag && !(e.alive.isSome && r.aliveRef.isSome)
            timeoutFlag := false }
        ∧ (∀ j ≠ i, frameRun j t = frameRun j s) ∧ flagsReported t
        ∧ (let present (x : State) : Bool := decide (∃ k : Slot, k ∈ frameSlots i s ∧ x.frp.senderErr[k] = true)
           let net (x : State) : Int := (x.inFlight.count (.faultConditionStart (.frame i .senderError) e.faultClass) : Int)
            - x.inFlight.count (.faultConditionEnd (.frame i .senderError) e.faultClass)
           net t - net s = (if present t then 1 else 0) - (if present s then 1 else 0)
           ∧ (∀ k, frameSlots i s = [k] → reported t .senderError (s.frp.senderErr[k]) (t.frp.senderErr[k])))
        ∧ (∀ k : Slot, k ∈ frameSlots i s → ∀ g, s.signal k = some g →
          let given := ∀ start len m, e.selector = some (start, len) → g.mux = some m →
            m = rawUnsigned data (lsbBits start len)
          let coded := g.signed = false ∧ 2 ≤ g.length ∧ g.naCheck = true
          (given → coded → rawValue g data = 2 ^ g.length - 1 →
            t.slot k = ⟨(s.slot k).value, .notAvailable, some s.now⟩ ∧ t.frp.senderErr[k] = s.frp.senderErr[k])
          ∧ (given → coded → rawValue g data = 2 ^ g.length - 2 →
            t.slot k = ⟨(s.slot k).value, .senderError, some s.now⟩ ∧ t.frp.senderErr[k] = true)
          ∧ (given → ¬(coded ∧ (rawValue g data = 2 ^ g.length - 1 ∨ rawValue g data = 2 ^ g.length - 2)) →
            let v := scale g (rawValue g data)
            t.slot k = (if v < g.min then ⟨g.min, .limited, some s.now⟩
              else if g.max < v then ⟨g.max, .limited, some s.now⟩ else ⟨v, .valid, some s.now⟩)
            ∧ t.frp.senderErr[k] = false)
          ∧ (¬given → t.slot k = s.slot k ∧ t.frp.senderErr[k] = s.frp.senderErr[k]))
        ∧ (∀ k : Slot, k ∉ frameSlots i s → t.slot k = s.slot k ∧ t.frp.senderErr[k] = s.frp.senderErr[k])
        ∧ ChangesOnly framing s t)

/-- FRAME_TIMER_EXPIRY: at the timeout every slot of the entry that was ever received turns STALE with its value kept; at
the first timeout no slot is written. Both clear the alive reference, keep the sequence-error run and set the TIMEOUT
flag. A timer that is not due changes nothing. -/
def Obligations.FrameTimerExpiryMakesStale : Prop :=
  ∀ (i : Fin 64) (s : State),
    let r := frameRun i s
    let lapsed (t : State) : Prop :=
      frameRun i t = { r with timer := .lapsed, aliveRef := none, timeoutFlag := true }
        ∧ (∀ j ≠ i, frameRun j t = frameRun j s)
        ∧ (r.timeoutFlag = false → .faultConditionStart (.frame i .timeout) (frameClass i s) ∈ t.inFlight)
    (∀ d, r.timer = .timed d → d ≤ s.now →
      ∃ t, exec (.frameTimerExpiry i) s = .next t ∧ lapsed t
        ∧ (∀ k : Slot, t.slot k =
            if k ∈ frameSlots i s ∧ (s.slot k).quality ≠ .neverReceived then ⟨(s.slot k).value, .stale, some s.now⟩
            else s.slot k)
        ∧ ChangesOnly (.frameRuns :: writing) s t)
    ∧ (∀ d, r.timer = .firstWait d → d ≤ s.now →
      ∃ t, exec (.frameTimerExpiry i) s = .next t ∧ lapsed t
        ∧ t.inFlight = s.inFlight ++ (if r.timeoutFlag then [] else
            [.faultConditionStart (.frame i .timeout) (frameClass i s)])
        ∧ ChangesOnly [.frameRuns, .inFlight] s t)
    ∧ ((∀ d, r.timer = .timed d ∨ r.timer = .firstWait d → s.now < d) → exec (.frameTimerExpiry i) s = .next s)

/-- SCAN_SLOT_EXPIRY samples the line of its scan slot: the last code is kept, the code is read by the thresholds and the
class of the line (SL0's built-in settings while its entry is unloaded), and the reading is debounced by the count of its
time, 20 for those settings. An accepted reading ends the fault condition of the one before; a switch reading writes its state
to the line's slots, SENDER_OK writes 1, every VALUE sample the value of its code along the curve, and a fault reading reports
its start and marks them LINE_FAULT. A PULSE_SENSE line's reading re-forms the sender-fault indication, whose change stops the
measurement or lets it wait again and brings PULSE_SPEED to rest (how: log entry 14). Where a slot of that line is the frame
speed slot, VEHICLE_SPEED is formed of the slot as the reading has left it, since the model writes the line's slots before it
re-forms the indication (its choice: log entry 49). PARKED_PASS_START starts a pass (its first sample 250 µs later: log entry
20). Neither acts before its time. -/
def Obligations.ScanSlotSamplesLine : Prop :=
  ∀ (code : BitVec 10) (s : State),
    let parked (l : Fin 48) : Prop := l.val = 0 ∨ ∃ e, s.lsc.table[l] = some e ∧ e.parked = true
    ((∀ d, s.lsc.scanDue = some d → s.now < d) → exec (.scanSlotExpiry code) s = .next s)
    ∧ ((∀ d, s.lsc.passDue = some d → s.now < d) → exec .parkedPassStart s = .next s)
    ∧ (∀ d, s.lsc.passDue = some d → d ≤ s.now →
      ∃ t, exec .parkedPassStart s = .next t ∧ t.lsc.passDue = some (d + 100000)
        ∧ (∀ p l, (scanList s)[p]? = some l → parked l →
            (∀ q k, q < p → (scanList s)[q]? = some k → ¬parked k) →
            t.lsc.scanPos = p ∧ t.lsc.scanDue = some (d + 250))
        ∧ ChangesOnly [.scanPlay] s t)
    ∧ ∀ d line, s.lsc.scanDue = some d → d ≤ s.now → (scanList s)[s.lsc.scanPos]? = some line →
      let r := s.lsc.lines[line]
      ∃ t, exec (.scanSlotExpiry code) s = .next t
        ∧ t.lsc.lines[line].lastCode = some code ∧ (∀ k : Fin 48, k ≠ line → t.lsc.lines[k] = s.lsc.lines[k])
        ∧ (s.opState ≠ .parked →
            t.lsc.scanPos = (if s.lsc.scanPos + 1 < (scanList s).length then s.lsc.scanPos + 1 else 0)
            ∧ t.lsc.scanDue = some (d + if s.lsc.scan.isSome then 250 else 1000) ∧ t.lsc.passDue = s.lsc.passDue)
        ∧ (s.opState = .parked →
            (∀ p l, s.lsc.scanPos < p → (scanList s)[p]? = some l → parked l →
              (∀ q k, s.lsc.scanPos < q → q < p → (scanList s)[q]? = some k → ¬parked k) →
              t.lsc.scanPos = p ∧ t.lsc.scanDue = some (d + 250))
            ∧ ((∀ p l, s.lsc.scanPos < p → (scanList s)[p]? = some l → ¬parked l) → t.lsc.scanDue = none))
        ∧ (∀ e, s.lsc.table[line] = some e → lineInForce line s = some e)
        ∧ (s.lsc.table[line] = none → line.val ≠ 0 → lineInForce line s = none)
        ∧ (s.lsc.table[line] = none → line.val = 0 → ∃ e, lineInForce line s = some e ∧ e.cls = .switchSupply
          ∧ (e.t1, e.t2, e.t3, e.t4) = (100, 300, 600, 1000) ∧ e.inverted = false ∧ e.faultClass = 0)
        ∧ (∃ es, SenderFaultFollowed es s t ∧ (sendingHeld s = true → Queued es s t))
        ∧ (lineInForce line s = none → t.lsc.lines[line] = { r with lastCode := some code } ∧ t.sst = s.sst
          ∧ t.lsc.senderFault = s.lsc.senderFault)
        ∧ (∀ e, lineInForce line s = some e →
          let x := classify e code.toNat
          let run := match r.candidate with
            | some (y, n) => if y = x then n + 1 else 1
            | none => 1
          let share : Nat × Nat := match s.lsc.scan with
            | some l => (l.count line, l.length)
            | none => (if line.val = 0 then 1 else 0, 4)
          let count (time : Nat) : Nat := min 255 (max 1 ((4 * share.1 * (10 * time) + share.2 - 1) / share.2))
          let need := if s.lsc.table[line].isNone then 20 else count (if x.isFault then e.faultDebounce else e.debounce)
          ReadsAs e code.toNat x
          ∧ (r.accepted = some x → t.lsc.lines[line].accepted = some x ∧ t.lsc.lines[line].candidate = none)
          ∧ (r.accepted ≠ some x → need ≤ run ∨ (x = .value ∧ r.accepted = none) →
              t.lsc.lines[line].accepted = some x ∧ t.lsc.lines[line].candidate = none
              ∧ (∃ more, t.inFlight = s.inFlight
                  ++ (lineFault line s).toList.map (fun f => Instr.faultConditionEnd f.1 f.2)
                  ++ x.failure?.toList.map (fun f => Instr.faultConditionStart (.line line f) e.faultClass) ++ more)
              ∧ (x = .active ∨ x = .inactive →
                  let b := if e.inverted then x = .inactive else x = .active
                  t.lsc.lines[line].state = some (decide b)
                  ∧ ∀ k ∈ lineSlots line s, t.slot k = written k (bitNat (decide b)) .valid s)
              ∧ (x.isFault = true → t.lsc.lines[line].state = r.state
                  ∧ ∀ k ∈ lineSlots line s, t.slot k = ⟨(s.slot k).value, .lineFault, some s.now⟩)
              ∧ (x = .senderOk → ∀ k ∈ lineSlots line s, t.slot k = written k 1 .valid s)
              ∧ (e.cls = .pulseSense → (t.lsc.senderFault = true ↔ ∃ k : Fin 48,
                  (s.lsc.table[k].any fun y => decide (y.cls = .pulseSense)) = true
                    ∧ t.lsc.lines[k].accepted.any Reading.isFault = true))
              ∧ (e.cls ≠ .pulseSense → t.lsc.senderFault = s.lsc.senderFault))
          ∧ (x = .value → r.accepted = some .value ∨ r.accepted = none ∨ need ≤ run →
              let points := match s.lsc.curves[e.curve] with
                | some c => c.points
                | none => [(0, 0), (1023, 1023)]
              ∃ v, t.lsc.lines[line].curveValue = some v ∧ ConvertsTo points code.toNat v ∧ ∀ k ∈ lineSlots line s, t.slot k = written k v.1 v.2 s)
          ∧ (r.accepted = some x → t.lsc.senderFault = s.lsc.senderFault ∧ (x ≠ .value → t.sst = s.sst))
          ∧ (r.accepted ≠ some x → run < need → (x ≠ .value ∨ r.accepted ≠ none) →
              t.lsc.lines[line] = { r with lastCode := some code, candidate := some (x, run) } ∧ t.sst = s.sst
                ∧ t.lsc.senderFault = s.lsc.senderFault))
        ∧ ChangesOnly (.scanPlay :: sampling) s t

/-! ### Speed and distance -/

/-- PI_EDGE: ignored in CONFIG and PARKED and within the filter width of the last accepted edge. An accepted edge adds
100 to the residue, with a step of the distance slots when that reaches Kd; it opens a window, counts in it, or closes
it with its rounded speed, at most 25,000, upon which VEHICLE_SPEED is re-formed with its two tests; and it restarts the
standstill time. -/
def Obligations.PulseEdgeMeasuresAndCounts : Prop :=
  ∀ s : State,
    let cal := calOf s
    let total := s.sdu.residue + 100
    (s.opState = .config ∨ s.opState = .parked ∨ (∃ r, s.sdu.filterRef = some r ∧ s.now < r + cal.filter) →
      exec .piEdge s = .next s)
    ∧ (s.opState = .run ∨ s.opState = .sweep → (∀ r, s.sdu.filterRef = some r → r + cal.filter ≤ s.now) →
      ∃ t, exec .piEdge s = .next t
        ∧ t.sdu.filterRef = some s.now ∧ t.sdu.standFrom = some s.now ∧ t.sdu.loadUsed = s.sdu.loadUsed
        ∧ (total < cal.kd → t.sdu.residue = total ∧ t.sdu.preload = s.sdu.preload
            ∧ ∀ i, i = odometer ∨ i = tripA ∨ i = tripB → t.slot i = s.slot i)
        ∧ (cal.kd ≤ total → t.sdu.residue = total - cal.kd
            ∧ (∀ i, i = tripA ∨ i = tripB → t.slot i =
                ⟨if (s.slot i).value < 9999999 then (s.slot i).value + 1 else 0, .valid, some s.now⟩)
            ∧ (s.sdu.loadUsed = true → t.sdu.preload = s.sdu.preload
                ∧ t.slot odometer = (if (s.slot odometer).value < 999999999 then
                    ⟨(s.slot odometer).value + 1, .valid, some s.now⟩ else s.slot odometer))
            ∧ (s.sdu.loadUsed = false → t.slot odometer = s.slot odometer
                ∧ t.sdu.preload = if s.sdu.preload < 999999999 then s.sdu.preload + 1 else 999999999))
        ∧ (s.sdu.meas = .stopped → t.sdu.meas = .stopped ∧ t.slot pulseSpeed = s.slot pulseSpeed)
        ∧ (s.sdu.meas = .waiting → t.sdu.meas = .opened s.now 0 ∧ t.sdu.boundDue = some (s.now + 10000)
            ∧ t.slot pulseSpeed = s.slot pulseSpeed)
        ∧ (∀ t0 n, s.sdu.meas = .opened t0 n → s.now < t0 + 10000 * cal.window →
            t.sdu.meas = .opened t0 (n + 1) ∧ t.slot pulseSpeed = s.slot pulseSpeed)
        ∧ (∀ t0 n, s.sdu.meas = .opened t0 n → t0 + 10000 * cal.window ≤ s.now →
            let d := cal.kd * (s.now - t0)
            let v := ((n + 1) * 360000000000 + d / 2) / d
            t.sdu.meas = .opened s.now 0 ∧ t.sdu.boundDue = s.sdu.boundDue
            ∧ t.slot pulseSpeed = (if 25000 < v then ⟨25000, .limited, some s.now⟩ else ⟨(v : Int), .valid, some s.now⟩)
            ∧ SpeedFormed t ∧ SpeedTested s t ∧ (sendingHeld s = true → Queued (closingEvents s t) s t))
        ∧ ((∀ t0 n, s.sdu.meas = .opened t0 n → s.now < t0 + 10000 * cal.window) →
            t.slot vehicleSpeed = s.slot vehicleSpeed ∧ t.slot driveCycle = s.slot driveCycle
            ∧ t.sdu.windowOpen = s.sdu.windowOpen ∧ t.cli = s.cli)
        ∧ (∀ i : Slot, 5 ≤ i.val → i ≠ driveCycle → t.slot i = s.slot i)
        ∧ ChangesOnly (.residue :: .odometerLoad :: measuring) s t)

/-- BOUND_CHECK lowers PULSE_SPEED to the highest speed consistent with the time since the last edge, or writes nothing;
STANDSTILL_TIMER_EXPIRY brings PULSE_SPEED to rest and abandons the window; upon a write of either VEHICLE_SPEED is
re-formed with its two tests. PLAUSIBILITY_TIMER_EXPIRY turns the reported state and reports it. None acts before its time. (How PULSE_SPEED comes to rest: log entry 14.) -/
def Obligations.SpeedTimersAct : Prop :=
  ∀ s : State,
    let cal := calOf s
    ((∀ d, s.sdu.boundDue = some d → s.now < d) → exec .boundCheck s = .next s)
    ∧ (∀ d e, s.sdu.boundDue = some d → d ≤ s.now → s.sdu.filterRef = some e →
      let b := 360000000000 / (cal.kd * (s.now - e))
      ∃ t, exec .boundCheck s = .next t ∧ t.sdu.boundDue = some (d + 10000) ∧ t.sdu.meas = s.sdu.meas
        ∧ (e < s.now → (b : Int) < (s.slot pulseSpeed).value → t.slot pulseSpeed = ⟨(b : Int), .valid, some s.now⟩
            ∧ SpeedFormed t ∧ SpeedTested s t ∧ (sendingHeld s = true → Queued (closingEvents s t) s t))
        ∧ (s.now ≤ e ∨ (s.slot pulseSpeed).value ≤ (b : Int) → t.sst = s.sst ∧ t.cli = s.cli)
        ∧ ChangesOnly measuring s t)
    ∧ ((∀ e, s.sdu.standFrom = some e → s.now < e + 10000 * cal.standstill) →
        exec .standstillTimerExpiry s = .next s)
    ∧ (∀ e, s.sdu.standFrom = some e → e + 10000 * cal.standstill ≤ s.now →
      ∃ t, exec .standstillTimerExpiry s = .next t ∧ t.sdu.standFrom = none
        ∧ (t.slot pulseSpeed).value = 0
        ∧ (t.slot pulseSpeed).quality = (if s.sdu.cal = none then .notAvailable
            else if s.lsc.senderFault then .lineFault else .valid)
        ∧ (∀ t0 n, s.sdu.meas = .opened t0 n → t.sdu.meas = .waiting ∧ t.sdu.boundDue = none)
        ∧ ((∀ t0 n, s.sdu.meas ≠ .opened t0 n) → t.sdu.meas = s.sdu.meas)
        ∧ (let rest := (s.slot pulseSpeed).value = 0 ∧ (s.slot pulseSpeed).quality = .valid ∧ s.sdu.cal ≠ none
              ∧ s.lsc.senderFault = false
           (rest → t.sst = s.sst ∧ t.cli = s.cli ∧ t.sdu.windowOpen = s.sdu.windowOpen)
           ∧ (¬rest → SpeedFormed t ∧ SpeedTested s t ∧ (sendingHeld s = true → Queued (closingEvents s t) s t)))
        ∧ (∀ i : Slot, i ≠ pulseSpeed → i ≠ vehicleSpeed → i ≠ driveCycle → t.slot i = s.slot i)
        ∧ ChangesOnly measuring s t)
    ∧ ((∀ e, s.sdu.plausFrom = some e → s.now < e + 10000 * cal.plausTime) →
        exec .plausibilityTimerExpiry s = .next s)
    ∧ (∀ e, s.sdu.plausFrom = some e → e + 10000 * cal.plausTime ≤ s.now →
      exec .plausibilityTimerExpiry s = .next { s with
        sdu := { s.sdu with plausPresent := !s.sdu.plausPresent, plausFrom := none }
        inFlight := s.inFlight ++
          [if s.sdu.plausPresent then .faultConditionEnd .speed 0 else .faultConditionStart .speed 0] })

/-- FRAME_SPEED_NOTIFICATION re-forms VEHICLE_SPEED from the pulse and the frame source: the pulse speed, or the larger
of the two under the implausible-active indication, or the frame speed SUBSTITUTED when the pulse is unusable; upon the
write the calibration window closes at 5.00 km/h and the drive cycle qualifies at 10.00 km/h; and the plausibility timer
runs while the sources disagree in state ABSENT or agree in state PRESENT. -/
def Obligations.FrameSpeedReformsVehicleSpeed : Prop :=
  ∀ s : State,
    let p := s.slot pulseSpeed
    let pulse := p.quality = .valid ∨ p.quality = .limited
    ∃ t, exec .frameSpeedNotification s = .next t
      ∧ (((s.opState ≠ .run ∧ s.opState ≠ .sweep) ∨ frameSpeedSlot s = none
            ∨ (∃ i, frameSpeedSlot s = some i ∧ (s.slot i).quality.usable = false) →
          t.slot vehicleSpeed = ⟨p.value, p.quality, some s.now⟩ ∧ (12 ≤ (frameSpeedSlot s).elim 12 Fin.val →
            t.sdu.plausFrom = none)))
      ∧ (∀ i : Slot, s.opState = .run ∨ s.opState = .sweep → frameSpeedSlot s = some i → 12 ≤ i.val →
          (s.slot i).quality.usable = true →
          let f := s.slot i
          (pulse → s.sdu.implausible = false ∨ f.value ≤ p.value →
            t.slot vehicleSpeed = ⟨p.value, p.quality, some s.now⟩)
          ∧ (pulse → s.sdu.implausible = true → p.value < f.value →
            t.slot vehicleSpeed = ⟨f.value, f.quality, some s.now⟩)
          ∧ (¬pulse → t.slot vehicleSpeed = ⟨f.value, .substituted, some s.now⟩ ∧ t.sdu.plausFrom = none)
          ∧ (pulse → t.sdu.plausFrom =
              if decide (((calOf s).tolerance : Int) < |p.value - f.value|) = s.sdu.plausPresent then none
              else some (s.sdu.plausFrom.getD s.now)))
      ∧ SpeedFormed t ∧ SpeedTested s t ∧ (sendingHeld s = true → Queued (closingEvents s t) s t)
      ∧ (∀ j : Slot, j ≠ vehicleSpeed → j ≠ driveCycle → t.slot j = s.slot j)
      ∧ ChangesOnly (.arrivals :: reforming) s t

/-! ### Gauges -/

/-- GAUGE_INTERVAL: while homing, the interval is counted with 64 microsteps of the drive's travel, 4 at the 65th and 4,100
in all, no pointer position changes, and the 65th reports the end. (The patterns at the phase outputs: log entry 34.)
After it every pointer moves toward the command of its mode by at most its rate: the test position, the sweep target, the
filtered target of a channel that tracks, or 0; and the sweep passes from RISE to HOLD to FALL to its end. -/
def Obligations.GaugeIntervalStepsPointers : Prop :=
  ∀ s : State,
    (s.now < s.gdr.intervalDue → exec .gaugeInterval s = .next s)
    ∧ (s.gdr.intervalDue ≤ s.now → s.gdr.homingDone = false →
      exec .gaugeInterval s = .next
        (if s.gdr.homingIntervals < 65 then
          { s with
            gdr := { s.gdr with intervalDue := s.gdr.intervalDue + 10000, homingIntervals := s.gdr.homingIntervals + 1 }
            inFlight := s.inFlight ++ if s.gdr.homingIntervals = 64 then [.homingEnd] else [] }
        else { s with gdr := { s.gdr with intervalDue := s.gdr.intervalDue + 10000 } }))
    ∧ (s.gdr.intervalDue ≤ s.now → s.gdr.homingDone = false →
      ∃ t, exec .gaugeInterval s = .next t
        ∧ homingTravel t = homingTravel s
          + (if s.gdr.homingIntervals < 64 then 64 else if s.gdr.homingIntervals = 64 then 4 else 0)
        ∧ (s.gdr.homingIntervals = 0 → homingTravel s = 0)
        ∧ (s.gdr.homingIntervals = 65 → homingTravel s = 4100)
        ∧ ∀ c, phaseOutputs c t = Config.homingPattern (homingTravel t))
    ∧ (s.gdr.intervalDue ≤ s.now → s.gdr.homingDone = true →
      ∃ t, exec .gaugeInterval s = .next t
        ∧ t.gdr.intervalDue = s.gdr.intervalDue + 10000
        ∧ (∀ c : Fin 6,
          let e := gaugeEntry c s
          let r := gaugeRun c s
          let r' := gaugeRun c t
          let toward (command : Nat) : Prop :=
            if r.p ≤ command then r'.p = (if command - r.p ≤ e.rate then command else r.p + e.rate)
            else r'.p = if r.p - command ≤ e.rate then command else r.p - e.rate
          let formed : Prop :=
            let read := effRead e.source s
            (read.2.usable = true → r'.holdTimer = none ∧ r'.prevTarget = r'.target
              ∧ (e.vmin < e.vmax → (r'.target : Int) =
                  ((clampInt e.vmin e.vmax read.1 - e.vmin) * e.span + (e.vmax - e.vmin) / 2) / (e.vmax - e.vmin)))
            ∧ (read.2.usable = false →
              let held := r.holdTimer.elim 0 (· + 10)
              r'.holdTimer = some held ∧ r'.prevTarget = r.prevTarget
              ∧ r'.target = if held < 10 * e.hold then r.prevTarget else 0)
          (∀ position, gaugeTest c s = some position →
            toward position ∧ r'.f = r.f ∧ (e.enabled = true → formed) ∧ (e.enabled = false → r' = { r with p := r'.p }))
          ∧ (gaugeTest c s = none → e.enabled = true → s.opState = .sweep →
            toward (match s.gdr.sweepPhase with
              | some .rise | some (.hold _) => e.span
              | some .fall | some .complete | none => 0)
            ∧ r' = { r with p := r'.p })
          ∧ (gaugeTest c s = none → e.enabled = true → s.opState = .run →
            let goal := 256 * r'.target
            formed
            ∧ r'.f = (if r.f ≤ goal then
                (if (goal - r.f) / 2 ^ e.damping = 0 then goal else r.f + (goal - r.f) / 2 ^ e.damping)
              else if (r.f - goal) / 2 ^ e.damping = 0 then goal else r.f - (r.f - goal) / 2 ^ e.damping)
            ∧ toward ((r'.f + 128) / 256))
          ∧ (gaugeTest c s = none → e.enabled = false ∨ s.opState = .config ∨ s.opState = .parked →
            toward 0 ∧ r' = { r with p := r'.p }))
        ∧ (s.opState ≠ .sweep ∨ s.gdr.sweepPhase = none ∨ s.gdr.sweepPhase = some .complete →
            t.gdr.sweepPhase = s.gdr.sweepPhase ∧ t.inFlight = s.inFlight)
        ∧ (s.opState = .sweep →
          let all (place : GaugeEntry → Nat) : Prop :=
            ∀ c, (gaugeEntry c s).enabled = true → (gaugeRun c t).p = place (gaugeEntry c s)
          (s.gdr.sweepPhase = some .rise →
            (all GaugeEntry.span → t.gdr.sweepPhase = some (.hold 0))
            ∧ (¬all GaugeEntry.span → t.gdr.sweepPhase = some .rise))
          ∧ (∀ n, s.gdr.sweepPhase = some (.hold n) →
            t.gdr.sweepPhase = some (if n + 1 < 50 then .hold (n + 1) else .fall))
          ∧ (s.gdr.sweepPhase = some .fall →
            (all (fun _ => 0) → t.gdr.sweepPhase = some .complete ∧ t.inFlight = s.inFlight ++ [.sweepComplete])
            ∧ (¬all (fun _ => 0) → t.gdr.sweepPhase = some .fall ∧ t.inFlight = s.inFlight)))
        ∧ ChangesOnly [.gaugeClock, .gaugeRuns, .sweepPhase, .inFlight] s t)

/-- HOMING_END, taken after the 65th interval: every channel stands at 0, the indication is set, and a START that was
held is executed, with the records behind it in their order. SWEEP_COMPLETE, taken after the fall: the part is in RUN with
the sweep gone and STATE queued; with IGNITION 0 the park delay starts, and one of 0 s takes the part to PARKED at once (log
entry 28). Taken at another time each is discarded (log entry 31). -/
def Obligations.GaugeReportsAreTaken : Prop :=
  ∀ s : State,
    let atZero (t : State) : Prop :=
      t.gdr.homingDone = true ∧ (∀ c, gaugeRun c t = ⟨0, 0, 0, 0, none⟩) ∧ t.inFlight = s.inFlight.erase .homingEnd
        ∧ ChangesOnly [.gaugeRuns, .homing, .inFlight, .arrivals] s t
    let homed (t : State) : Prop :=
      t.gdr.homingDone = true ∧ (∀ c, gaugeRun c t = ⟨0, 0, 0, 0, none⟩) ∧ t.inFlight = s.inFlight.erase .homingEnd
        ∧ t.cli.inbound = [] ∧ ChangesOnly [.gaugeRuns, .homing, .inFlight, .arrivals, .inbound] s t
    (s.gdr.homingIntervals = 65 → s.gdr.homingDone = false → s.cli.inbound = [] →
      ∃ t, exec .homingEnd s = .next t ∧ homed t)
    ∧ (∀ r, s.gdr.homingIntervals = 65 → s.gdr.homingDone = false → s.cli.inbound = [r] →
      ∃ u, homed u ∧ exec .homingEnd s = .next (executeRecord r u))
    ∧ (s.gdr.homingIntervals = 65 → s.gdr.homingDone = false →
      ∃ u, atZero u ∧ exec .homingEnd s = .next (executeAll s.cli.inbound u))
    ∧ (s.gdr.homingIntervals ≠ 65 ∨ s.gdr.homingDone = true →
      exec .homingEnd s = .next { s with inFlight := s.inFlight.erase .homingEnd })
    ∧ (s.opState = .sweep → s.gdr.sweepPhase = some .complete →
      ignitionIs 0 s = false ∨ (linkOf s).parkDelay ≠ 0 →
      ∃ t, exec .sweepComplete s = .next t ∧ t.opState = .run ∧ FiltersRestart s t
        ∧ t.cli.parkDue = (if ignitionIs 0 s then some (s.now + 1000 * (1000 * (linkOf s).parkDelay)) else none)
        ∧ (sendingHeld s = true → Queued [.state .run .sweepComplete] s t)
        ∧ ChangesOnly ([.opState, .parkDelay, .sweepPhase, .gaugeRuns, .inFlight, .arrivals] ++ sending) s t)
    ∧ (s.opState = .sweep → s.gdr.sweepPhase = some .complete → ignitionIs 0 s = true → (linkOf s).parkDelay = 0 →
      ∃ t, exec .sweepComplete s = .next t ∧ t.opState = .parked ∧ t.gdr.sweepPhase = none ∧ t.cli.parkDue = none
        ∧ (∀ i, (frameRun i t).timer = .stopped) ∧ t.sdu.meas = .stopped ∧ t.chg.requests = []
        ∧ (sendingHeld s = true → ∃ more,
            Queued (.state .run .sweepComplete :: .state .parked .parkDelay :: more) s t))
    ∧ (s.opState ≠ .sweep ∨ s.gdr.sweepPhase ≠ some .complete →
      exec .sweepComplete s = .next { s with inFlight := s.inFlight.erase .sweepComplete })

/-! ### Warnings and chime -/

/-- EVALUATION in RUN and SWEEP for every loaded entry that uses the slot, and in PARKED for those carried through it: truth,
unknown mark and condition are formed, and an enabled entry changes its state as the condition changes, with the time that
the state loads. A disabled one keeps its state, and no entry that does not use the slot, or is not evaluated in PARKED,
changes its state. In CONFIG nothing is evaluated. The change of the one entry that uses the slot is told by its events (an
unknown mark first: log entry 15) and brings with it its place in the list, ACTIVE_WARNINGS and its chime request. (An entry
that reads ACTIVE_WARNINGS sees what the entries before it have written, and is left out of the second part.) -/
def Obligations.EvaluationFormsConditionAndState : Prop :=
  ∀ (slot : Slot) (s : State),
    (s.opState = .config →
      exec (.evaluation slot) s = .next { s with inFlight := s.inFlight.erase (.evaluation slot) })
    ∧ ∃ t, exec (.evaluation slot) s = .next t ∧ ChangesOnly (.arrivals :: warning) s t
      ∧ (∀ i : Fin 96, (∀ e, warnEntry i s = some e → e.uses slot = false ∨ e.enabled = false ∨ ¬EvaluatedNow e s) →
          (warnRun i t).state = (warnRun i s).state ∧ (warnRun i t).timer = (warnRun i s).timer)
      ∧ (∀ i : Fin 96, (∀ e, warnEntry i s = some e → e.uses slot = false ∨ ¬EvaluatedNow e s) →
          (warnRun i t).truth = (warnRun i s).truth ∧ (warnRun i t).cond = (warnRun i s).cond
            ∧ (warnRun i t).observed = (warnRun i s).observed)
      ∧ (WarningsLegal s → WarningsLegal t)
      ∧ ∀ (i : Fin 96) (e : WarnEntry), EvaluatedNow e s → warnEntry i s = some e → e.uses slot = true →
        let r := warnRun i s
        let r' := warnRun i t
        ((∀ k, (e.kind ≠ .faultClass ∧ k = e.source) ∨ (∃ g, e.gate = some g ∧ k = g.slot) →
            k ≠ activeWarnings ∧ fallbackOf k s ≠ some activeWarnings) → TruthFormed e r.truth s r')
        ∧ EntryMoved e s r r'
        ∧ ((∀ j e', j ≠ i → warnEntry j s = some e' → e'.uses slot = false) →
          (e.enabled = true → r'.state ≠ r.state → EntryFollowed i s t)
          ∧ (sendingHeld s = true →
            Queued ((if e.enabled ∧ r'.unknown ≠ r.unknown then
                [.warning i r.state r'.unknown (decide (topWarning s = some i))] else [])
              ++ (if r'.state ≠ r.state then ownEvent i t :: topEvents i s t else [])) s t))

/-- WARNING_TIMER_EXPIRY moves an evaluated enabled entry by R105's table, in PARKED one that is carried through it, and no
other entry's state; the change is told by its events and brings with it its place in the list, ACTIVE_WARNINGS and its chime
request. The timer of an entry that is not evaluated, or that is not due, moves nothing. FLASH_CLOCK turns the flash phase
every 500 ms. -/
def Obligations.WarningTimersMoveEntries : Prop :=
  ∀ s : State,
    (∀ (i : Fin 96) (e : WarnEntry) (d : Nat), warnEntry i s = some e → e.enabled = true →
      EvaluatedNow e s → (warnRun i s).timer = some d → d ≤ s.now →
      ∃ t, exec (.warningTimerExpiry i) s = .next t
        ∧ (warnRun i t).state = (match (warnRun i s).state with
          | .onDelay => if e.ackRequired then .onUnack else .onAck
          | .offDelayUnacked | .offDelayAcked => .off
          | .onAck => .onUnack
          | .off => .off
          | .onUnack => .onUnack
          | .latchedUnack => .latchedUnack)
        ∧ ((warnRun i s).state = .onDelay → (warnRun i t).timer =
            if e.ackRequired = false ∧ e.reminder ≠ 0 then some (s.now + 1000000 * e.reminder) else none)
        ∧ ((warnRun i s).state = .onAck ∨ (warnRun i s).state = .offDelayUnacked ∨ (warnRun i s).state = .offDelayAcked →
            (warnRun i t).timer = none)
        ∧ (warnRun i t).truth = (warnRun i s).truth ∧ (warnRun i t).cond = (warnRun i s).cond
        ∧ (warnRun i t).unknown = (warnRun i s).unknown
        ∧ (∀ j ≠ i, (warnRun j t).state = (warnRun j s).state ∧ (warnRun j t).timer = (warnRun j s).timer)
        ∧ ((warnRun i t).state ≠ (warnRun i s).state → EntryFollowed i s t
          ∧ (sendingHeld s = true → Queued (ownEvent i t :: topEvents i s t) s t))
        ∧ (WarningsLegal s → WarningsLegal t)
        ∧ ChangesOnly warning s t)
    ∧ (∀ i : Fin 96, (∀ e, warnEntry i s = some e → e.enabled = false ∨ ¬EvaluatedNow e s) →
      exec (.warningTimerExpiry i) s = .next s)
    ∧ (∀ i : Fin 96, (∀ d, (warnRun i s).timer = some d → s.now < d) → exec (.warningTimerExpiry i) s = .next s)
    ∧ (s.wrn.flashDue ≤ s.now → exec .flashClock s = .next { s with wrn := { s.wrn with
        flashLit := !s.wrn.flashLit, flashDue := s.wrn.flashDue + 500000 } })
    ∧ (s.now < s.wrn.flashDue → exec .flashClock s = .next s)

/-- A telltale output is lit in SWEEP, follows a workshop test that forces it, and else is composed of the enabled
entries that name it: it follows the flash clock while one of them flashes, and is lit while one of them is shown. -/
def Obligations.TelltalesAreComposed : Prop :=
  ∀ (o : Fin 32) (s : State),
    let named (i : Fin 96) (e : WarnEntry) : Prop :=
      warnEntry i s = some e ∧ e.enabled = true ∧ e.telltale = some o
    let flashing : Prop := ∃ i e, named i e ∧ e.flash = true ∧ (warnRun i s).state = .onUnack
    (s.opState = .sweep → telltaleLit o s = true)
    ∧ (s.opState ≠ .sweep →
      (∀ lit, s.wsp.test = some (.telltale o lit) → telltaleLit o s = lit)
      ∧ ((∀ lit, s.wsp.test ≠ some (.telltale o lit)) →
        (flashing → telltaleLit o s = s.wrn.flashLit)
        ∧ (¬flashing → (telltaleLit o s = true ↔ ∃ i e, named i e ∧ (warnRun i s).state ≠ .off
            ∧ (warnRun i s).state ≠ .onDelay))))

/-- REQUEST_PLACING replaces what the requester holds by a fresh request under the next stamp, where CHG takes it, and
else leaves the requester none; REQUEST_WITHDRAWAL removes it. A portal's mark follows. Of the requests held, the earliest
of the highest priority plays: it plays on, or starts a fresh burst, as a replaced request that was playing does. -/
def Obligations.ChimeRequestsAreArbitrated : Prop :=
  ∀ (who : Requester) (p : Fin 8) (s : State), ChimeLegal s →
    let others := s.chg.requests.filter fun r => r.who ≠ who
    let kept := s.chg.playing.filter fun b => decide (b.who ≠ who)
    let marked (b : Bool) (t : State) : Prop :=
      ∀ q : Fin 4, portalRun q t = if who = .portal q then { portalRun q s with held := b } else portalRun q s
    let heard := s.opState = .run ∨ s.opState = .sweep ∨ (s.opState = .parked ∧ ∃ i, who = .warning i)
    (heard → ∃ t, exec (.requestPlacing who p) s = .next t
      ∧ t.chg.requests = others ++ [⟨who, p, s.chg.seq + 1, 0⟩] ∧ t.chg.seq = s.chg.seq + 1 ∧ WinnerPlays kept t
      ∧ marked true t ∧ ChimeLegal t
      ∧ ChangesOnly (.inFlight :: .arrivals :: chiming) s t)
    ∧ (¬heard → ∃ t, exec (.requestPlacing who p) s = .next t
      ∧ t.chg.requests = others ∧ t.chg.seq = s.chg.seq ∧ WinnerPlays kept t ∧ t.drm = s.drm ∧ ChimeLegal t
      ∧ ChangesOnly (.inFlight :: .arrivals :: chiming) s t)
    ∧ ∃ t, exec (.requestWithdrawal who) s = .next t
      ∧ t.chg.requests = others ∧ t.chg.seq = s.chg.seq ∧ WinnerPlays kept t ∧ marked false t ∧ ChimeLegal t
      ∧ ChangesOnly (.inFlight :: .arrivals :: chiming) s t

/-- The outputs of the playing request: TONE is a square wave of its prescale and divider during an on-time (high first: log
entry 34) and low during an off-time, at the pattern's level; with nothing playing it is low at level 1. ON_TIME_END ends
the tone and starts the off-time of the burst. BURST_END counts the burst: a finite pattern that has played its repeats is
removed, and a portal told; otherwise the request stays; and the earliest of the highest priority starts a fresh burst.
Neither acts before its time. -/
def Obligations.BurstsEndAndAreCounted : Prop :=
  (∀ s : State, s.chg.playing = none → toneHalfPeriod s = none ∧ tonePin s = false ∧ levelCode s = 0)
  ∧ ∀ (r : ChimeRequest) (due : Nat) (inTone : Bool) (s : State), ChimeLegal s → r ∈ s.chg.requests →
    s.chg.playing = some ⟨r.who, inTone, due⟩ →
    let e := patternOf r.pattern s
    let count := if r.count < 255 then r.count + 1 else 255
    (inTone = true → toneHalfPeriod s = some (e.prescale * e.divider)
      ∧ ∀ began, due = began + 10000 * e.onTime → began ≤ s.now → s.now < due →
        tonePin s = decide ((s.now - began) / (e.prescale * e.divider) % 2 = 0))
    ∧ (inTone = false → toneHalfPeriod s = none ∧ tonePin s = false)
    ∧ levelCode s = BitVec.ofNat 2 (e.level - 1)
    ∧ (inTone = true → due ≤ s.now → exec .onTimeEnd s = .next { s with chg := { s.chg with
        playing := some ⟨r.who, false, due + 10000 * e.offTime⟩ } })
    ∧ (inTone = false ∨ s.now < due → exec .onTimeEnd s = .next s)
    ∧ (inTone = true ∨ s.now < due → exec .burstEnd s = .next s)
    ∧ (inTone = false → due ≤ s.now → e.repeats = 0 ∨ count < e.repeats →
      ∃ t, exec .burstEnd s = .next t ∧ WinnerPlays none t ∧ ChimeLegal t
        ∧ t.chg.requests = s.chg.requests.map (fun x => if x.who = r.who then { x with count := count } else x)
        ∧ t.chg.seq = s.chg.seq ∧ t.drm = s.drm ∧ ChangesOnly [.requests, .playing] s t)
    ∧ (inTone = false → due ≤ s.now → e.repeats ≠ 0 → e.repeats ≤ count →
      ∃ t, exec .burstEnd s = .next t ∧ WinnerPlays none t ∧ ChimeLegal t
        ∧ t.chg.requests = s.chg.requests.filter (fun x => x.who ≠ r.who)
        ∧ (∀ q : Fin 4, portalRun q t =
            if r.who = .portal q then { portalRun q s with held := false } else portalRun q s)
        ∧ t.chg.seq = s.chg.seq ∧ ChangesOnly chiming s t)

/-! ### Doors -/

/-- DOOR_INPUT_NOTIFICATION outside CONFIG: a fitted leaf that has the slot as an input derives its state by the rows of
R133 (where the inputs are no slots that the door monitor writes), its edge reading, its transit, its flags and its counters
follow, and what its flags report; a portal whose leaf changed, or whose release slot it is, is re-formed and the door slots
with it; and a request slot that turns active is a press. For a leaf that alone has the slot, the events stand in the order
of R141, the closing chime is placed and withdrawn, and the clearing test is made at a portal that opens; in PARKED WAKE is
asserted with them. In CONFIG the notification is ignored. TRANSIT_TIMER_EXPIRY takes the leaf to AJAR with its TRANSIT
flag and re-forms its portal; not due, it changes nothing. (A part of a millisecond of a transit: log entry 44; WAKE before
its event: log entry 21.) -/
def Obligations.DoorsFollowTheirInputs : Prop :=
  ∀ (slot : Slot) (s : State),
    let apart (i : Slot) : Prop := ApartFromDoors i s
    let input (l : Fin 8) : Prop := leafFitted l s = true ∧ slot ∈ leafInputs l s
    let asksPortal (q : Fin 4) : Prop := portalExists q s = true
      ∧ ((leader q s).releaseSlot = some slot ∨ (leader q s).requestSlot = some slot)
    let woken (es : List Event) (t : State) : Prop :=
      sendingHeld s = true → Queued es s t ∧ t.cli.wake = (s.cli.wake || (decide (s.opState = .parked) && !es.isEmpty))
    (s.opState = .config → exec (.doorInputNotification slot) s = .next
      { s with inFlight := s.inFlight.erase (.doorInputNotification slot) })
    ∧ (s.opState ≠ .config → ∃ t, exec (.doorInputNotification slot) s = .next t
      ∧ ChangesOnly (.arrivals :: doors) s t
      ∧ (∀ l, leafFitted l s = false ∨ slot ∉ leafInputs l s → leafRun l t = leafRun l s)
      ∧ (∀ l, input l →
        let e := doorEntry l s
        let before := (leafRun l s).state
        let after := (leafRun l t).state
        let pressed := e.edgeSlot = slot ∧ readInput slot s = some true ∧ (leafRun l s).edge = false
        LeafFollowed l s t
        ∧ ((∀ i ∈ leafInputs l s, apart i) →
          LeafDerived l before after s
          ∧ (pressed → (leafRun l t).edge = true ∧ (leafRun l t).obstructions =
            if before = .closing then satSucc 65535 (leafRun l s).obstructions else (leafRun l s).obstructions)
          ∧ (¬pressed → (leafRun l t).obstructions = (leafRun l s).obstructions)
          ∧ (e.edgeSlot = slot → ∀ b, readInput slot s = some b → (leafRun l t).edge = b)
          ∧ (e.edgeSlot ≠ slot ∨ readInput slot s = none → (leafRun l t).edge = (leafRun l s).edge)))
      ∧ (∀ p,
        let reformed := portalExists p s = true
          ∧ ((∃ l, portalOf l = p ∧ (leafRun l t).state ≠ (leafRun l s).state) ∨ (leader p s).releaseSlot = some slot)
        (reformed → PortalFormed p (ApartFromDoors · s) t ∧ DoorSlotsFormed s t)
        ∧ (¬reformed → (portalRun p t).state = (portalRun p s).state ∧ (portalRun p t).released = (portalRun p s).released))
      ∧ ((∀ l, (leafRun l t).state = (leafRun l s).state) →
        (∀ q, portalExists q s = true → (leader q s).releaseSlot ≠ some slot) →
        t.slot doorsAllClosed = s.slot doorsAllClosed ∧ t.slot openPortals = s.slot openPortals)
      ∧ (∀ p, portalExists p s = true → (leader p s).requestSlot = some slot → apart slot →
        (∀ l, leafFitted l s = true → slot ∉ leafInputs l s) →
        (∀ q, portalExists q s = true → (leader q s).releaseSlot ≠ some slot) →
        (∀ b, readInput slot s = some b → (portalRun p t).reading = b)
        ∧ (readInput slot s = none → (portalRun p t).reading = (portalRun p s).reading)
        ∧ (readInput slot s = some true → (portalRun p s).reading = false → (portalRun p s).requested = false →
          (portalRun p t).requested = true ∧ t.drm.latch = true
          ∧ t.slot stopRequest = ⟨1, .valid, some s.now⟩
          ∧ ((∀ q, q ≠ p → ¬asksPortal q) → woken [.stopRequest true (some p)] t))
        ∧ (readInput slot s ≠ some true ∨ (portalRun p s).reading = true ∨ (portalRun p s).requested = true →
          (portalRun p t).requested = (portalRun p s).requested))
      ∧ (∀ l, input l → (∀ k, input k → k = l) → (∀ q, ¬asksPortal q) → (∀ i ∈ leafInputs l s, apart i) →
        let p := portalOf l
        let after := (leafRun l t).state
        let changed := after ≠ (leafRun l s).state
        let alone := ∀ k, portalOf k = p → leafFitted k s = true → k ≠ l → (leafRun k s).state ≠ .closing
        let pressed := (doorEntry l s).edgeSlot = slot ∧ readInput slot s = some true ∧ (leafRun l s).edge = false
        woken ((if pressed then [.obstruction l] else [])
          ++ (if changed then .doorLeaf l after :: portalEvents p s t else [])) t
        ∧ (changed → PortalFollowed p s t)
        ∧ (¬changed → t.drm.latch = s.drm.latch ∧ t.drm.portals = s.drm.portals ∧ t.sst = s.sst)
        ∧ ∀ c, (leader p s).chime = some c → t.inFlight.count (.requestPlacing (.portal p) c)
          = s.inFlight.count (.requestPlacing (.portal p) c)
            + (if changed ∧ after = .closing ∧ alone then 1 else 0)))
    ∧ ∀ l : Fin 8,
      ((∀ d, (leafRun l s).transitDue = some d → s.now < d) → exec (.transitTimerExpiry l) s = .next s)
      ∧ (∀ d, (leafRun l s).transitDue = some d → d ≤ s.now →
        ∃ t, exec (.transitTimerExpiry l) s = .next t
          ∧ leafRun l t = { leafRun l s with
              state := .ajar, transitDue := none, inconsistent := false, transitFlag := true }
          ∧ (∀ k ≠ l, leafRun k t = leafRun k s)
          ∧ t.inFlight.count (.faultConditionStart (.door l .transit) (doorEntry l s).faultClass)
            = s.inFlight.count (.faultConditionStart (.door l .transit) (doorEntry l s).faultClass)
              + (if (leafRun l s).transitFlag then 0 else 1)
          ∧ (portalExists (portalOf l) s = true → PortalFollowed (portalOf l) s t
            ∧ woken (.doorLeaf l .ajar :: portalEvents (portalOf l) s t) t)
          ∧ ChangesOnly doors s t)

/-! ### Fault memory -/

/-- FAULT_CONDITION_START: an ACTIVE record is left as it is; a STORED one turns ACTIVE in its place, its count gaining 1
up to 255, its last odometer stamped and its aging count 0; without a record one is created at the end of the list with
its freeze frame; into a full list the STORED record of lowest class priority, then highest aging count, then earliest
position gives way (the freeze frame is captured after it has gone); and with 32 ACTIVE records only the overflow flag is
set. A change is handed on: the FAULT_CLASS entries of the record's class are evaluated, and a SPEED record sets the
implausible-active indication. (An unused slot in a freeze frame: log entry 48.) -/
def Obligations.FaultStartIsRecorded : Prop :=
  ∀ (code : FaultCode) (cls : Fin 16) (s : State),
    let c := Instr.faultConditionStart code cls
    let taken : State := { s with inFlight := s.inFlight.erase c }
    let stamp := if (s.slot odometer).quality = .valid then some (s.slot odometer).value.toNat else none
    let listed := s.flt.table[cls].elim [] ClassEntry.freeze
    let frozen := listed.map fun i => ⟨i, (effRead i s).1, (effRead i s).2⟩
    let priority (r : FaultRecord) : Nat := s.flt.table[r.cls].elim 0 ClassEntry.priority
    let told (t : State) (events : List Event) : Prop :=
      (t.slot activeFaults).value = (t.flt.records.countP FaultRecord.active : Nat)
        ∧ (sendingHeld s = true → ∃ more, Queued (events ++ more) s t)
        ∧ IndicationSet (code = .speed || s.sdu.implausible) s t ∧ (WarningsLegal s → WarningsLegal t)
        ∧ ChangesOnly (.arrivals :: recording) s t
    (∀ r, recordOf code s = some r → r.active = true → exec c s = .next taken)
    ∧ (∀ r, recordOf code s = some r → r.active = false →
      ∃ t, exec c s = .next t
        ∧ t.flt.records = s.flt.records.map (fun x => if x.code = code then
            { x with
              active := true, occurrence := if x.occurrence < 255 then x.occurrence + 1 else 255
              lastOdo := stamp, aging := 0 }
            else x)
        ∧ t.flt.overflow = s.flt.overflow
        ∧ told t [.fault code .active (if r.occurrence < 255 then r.occurrence + 1 else 255)]
        ∧ ClassesEvaluated (· = r.cls.val) True s t)
    ∧ (recordOf code s = none → s.flt.records.length < 32 →
      ∃ t, exec c s = .next t
        ∧ t.flt.records = s.flt.records ++ [⟨code, cls, true, 1, stamp, stamp, 0, frozen⟩]
        ∧ t.flt.overflow = s.flt.overflow ∧ told t [.fault code .active 1]
        ∧ ClassesEvaluated (· = cls.val) True s t)
    ∧ (recordOf code s = none → 32 ≤ s.flt.records.length → (∃ x ∈ s.flt.records, x.active = false) →
      ∃ t r new front back, exec c s = .next t ∧ s.flt.records = front ++ r :: back ∧ r.active = false
        ∧ (∀ x ∈ s.flt.records, x.active = false → priority r ≤ priority x ∧
            (priority x = priority r → x.aging ≤ r.aging))
        ∧ (∀ x ∈ front, x.active = false → priority x = priority r → x.aging ≠ r.aging)
        ∧ t.flt.records = s.flt.records.filter (fun x => x.code ≠ r.code) ++ [new]
        ∧ new.code = code ∧ new.cls = cls ∧ new.active = true ∧ new.occurrence = 1 ∧ new.aging = 0
        ∧ new.firstOdo = stamp ∧ new.lastOdo = stamp
        ∧ new.freeze.map FreezeElement.slot = listed
        ∧ (let kept (i : Slot) : Prop := i ≠ activeFaults ∧ i ≠ activeWarnings ∧ i ≠ vehicleSpeed ∧ i ≠ driveCycle
           ∀ x ∈ new.freeze, kept x.slot → (∀ f, fallbackOf x.slot s = some f → kept f) →
            (x.value, x.quality) = effRead x.slot s)
        ∧ (t.slot activeFaults).value = (t.flt.records.countP FaultRecord.active : Nat)
        ∧ (sendingHeld s = true → ∃ between more,
            Queued (.fault r.code .removed r.occurrence :: between ++ .fault code .active 1 :: more) s t)
        ∧ IndicationSet (code = .speed || (s.sdu.implausible && decide (r.code ≠ .speed))) s t
        ∧ (WarningsLegal s → WarningsLegal t)
        ∧ ClassesEvaluated (fun c => c = r.cls.val ∨ c = cls.val) (r.cls ≠ cls) s t
        ∧ ChangesOnly (.arrivals :: recording) s t)
    ∧ (recordOf code s = none → 32 ≤ s.flt.records.length → (∀ x ∈ s.flt.records, x.active = true) →
      exec c s = .next { taken with flt := { s.flt with overflow := true } })

/-- FAULT_CONDITION_END: an ACTIVE record turns STORED, all else of it kept; the change is handed on, the FAULT_CLASS
entries of the record's class evaluated and the implausible-active indication of a SPEED record cleared; for a STORED record
or none nothing changes. -/
def Obligations.FaultEndIsStored : Prop :=
  ∀ (code : FaultCode) (cls : Fin 16) (s : State),
    let c := Instr.faultConditionEnd code cls
    (∀ r, recordOf code s = some r → r.active = true →
      ∃ t, exec c s = .next t
        ∧ t.flt.records = s.flt.records.map (fun x => if x.code = code then { x with active := false } else x)
        ∧ t.flt.overflow = s.flt.overflow
        ∧ (t.slot activeFaults).value = (t.flt.records.countP FaultRecord.active : Nat)
        ∧ (sendingHeld s = true → ∃ more, Queued (.fault code .stored r.occurrence :: more) s t)
        ∧ IndicationSet (s.sdu.implausible && decide (code ≠ .speed)) s t ∧ (WarningsLegal s → WarningsLegal t)
        ∧ ClassesEvaluated (· = r.cls.val) True s t
        ∧ ChangesOnly (.arrivals :: recording) s t)
    ∧ ((recordOf code s).all (fun r => !r.active) = true →
      exec c s = .next { s with inFlight := s.inFlight.erase c })

/-- AGING_PASS: every STORED record's aging count gains 1, up to 63, and those that have reached the aging limit of their
class, where that is not 0, are removed, each told by a FAULT event, with ACTIVE_FAULTS written and the FAULT_CLASS entries
of its class evaluated; ACTIVE records are kept as they are. -/
def Obligations.AgingPassAgesStoredRecords : Prop :=
  ∀ s : State, FaultMemoryLegal s →
    let limit (r : FaultRecord) : Nat := s.flt.table[r.cls].elim 0 ClassEntry.agingLimit
    let aged (r : FaultRecord) : FaultRecord :=
      if r.active then r else { r with aging := if r.aging < 63 then r.aging + 1 else 63 }
    let stays (r : FaultRecord) : Bool := r.active || decide (limit r = 0) || decide (r.aging < limit r)
    let gone := (s.flt.records.map aged).filter fun r => !stays r
    ∃ t, exec .agingPass s = .next t
      ∧ t.flt.records = (s.flt.records.map aged).filter stays
      ∧ (gone = [] → t.sst = s.sst ∧ t.cli = s.cli)
      ∧ (gone ≠ [] → t.slot activeFaults = ⟨(t.flt.records.countP FaultRecord.active : Nat), .valid, some s.now⟩)
      ∧ (sendingHeld s = true → ∃ es, Queued es s t
        ∧ es.filter (fun e => match e with | .fault _ _ _ => true | _ => false)
          = gone.map fun r => .fault r.code .removed r.occurrence)
      ∧ IndicationSet (s.sdu.implausible && !gone.any fun r => decide (r.code = .speed)) s t
      ∧ ClassesEvaluated (fun c => ∃ r ∈ gone, c = r.cls.val) (gone.length ≤ 1) s t ∧ (WarningsLegal s → WarningsLegal t)
      ∧ t.flt.overflow = s.flt.overflow
      ∧ ChangesOnly (.arrivals :: recording) s t

/-! ### CLI's notifications -/

/-- CLI_NOTIFICATION: IGNITION 1 VALID returns a PARKED part to RUN, where the first timeouts and the scan start anew, the
measurement waits, the gauge filters restart from their pointers, every warning entry that was not carried through PARKED is
evaluated afresh and the doors are derived again from the state they stand in. (By the model's own readings, what reads a
slot that a block writes at this entry sees it before or after the write, log entry 5; an unloaded scan list gives its first
sample 1 ms later, log entry 42; and a transit that ends there drops a part of a millisecond, log entry 44.) IGNITION 0 VALID
starts the park delay in RUN and SWEEP, and any other IGNITION stops it; IGNITION in CONFIG, and any other IGNITION in PARKED,
changes no operating state. VEHICLE_SPEED at 3.00 km/h aborts a sweep, with the filters restarted and the park delay started
by IGNITION 0. A park delay of 0 s parks the part at the moment it starts (log entry 28). A change of a report-flagged slot
makes it pending, by the quality and the deadband (log entry 22), whatever else the notification brings (log entry 27). Of
VEHICLE_SPEED at an abort that parks the part, which writes it, the last is not said. -/
def Obligations.CliTakesNotifications : Prop :=
  ∀ s : State,
    let plain (i : Slot) : State := { s with inFlight := s.inFlight.erase (.cliNotification i) }
    let zeroDelay : Prop := ignitionIs 0 s = true ∧ (linkOf s).parkDelay = 0
    let pends (i : Slot) : Prop := ∃ e, s.signal i = some e ∧ e.report = true
      ∧ ∀ v q, s.cli.reports[i].last = some (v, q) → (s.slot i).quality ≠ q
        ∨ ((s.slot i).value ≠ v ∧ (e.deadband : Int) ≤ |(s.slot i).value - v|)
    (s.opState = .parked → (s.slot ignition).value = 1 → (s.slot ignition).quality = .valid →
      ∃ t, exec (.cliNotification ignition) s = .next t ∧ t.opState = .run ∧ t.cli.parkDue = none
        ∧ (∀ (i : Fin 64) (e : FrameEntry), s.frp.table[i] = some e → e.enabled = true →
            (frameRun i t).timer = .firstWait (s.now + 10000 * e.firstTimeout) ∧ (frameRun i t).aliveRef = none)
        ∧ t.lsc.scanPos = 0 ∧ t.lsc.passDue = none
        ∧ t.lsc.scanDue = some (s.now + if s.lsc.scan.isSome then 250 else 1000)
        ∧ MeasurementStarts s t ∧ FiltersRestart s t
        ∧ (WarningsLegal s → WarningsLegal t ∧ ∀ (i : Fin 96) (e : WarnEntry), warnEntry i s = some e →
          (CarriedThroughParked e s → { warnRun i t with join := 0 } = { warnRun i s with join := 0 })
          ∧ (¬CarriedThroughParked e s →
            ((∀ k, (e.kind ≠ .faultClass ∧ k = e.source) ∨ (∃ g, e.gate = some g ∧ k = g.slot) → FromOutside k s) →
              TruthFormed e none s (warnRun i t))
            ∧ (e.enabled = true → EntersAfresh e s (warnRun i t))))
        ∧ (∀ l, leafFitted l s = true → LeafFollowed l s t ∧ (leafRun l t).edge = (leafRun l s).edge
          ∧ (leafRun l t).obstructions = (leafRun l s).obstructions
          ∧ ((∀ i ∈ leafInputs l s, FromOutside i s) → LeafDerived l (leafRun l s).state (leafRun l t).state t))
        ∧ (∀ l, leafFitted l s = false → leafRun l t = leafRun l s)
        ∧ (∀ p, portalExists p s = true → PortalFormed p (FromOutside · s) t ∧ DoorSlotsFormed s t
          ∧ (portalRun p t).reading = (portalRun p s).reading)
        ∧ (sendingHeld s = true → ∃ more, Queued (.state .run .ignition :: more) s t)
        ∧ ChangesOnly (.inFlight :: .arrivals :: .updates :: runEntry) s t)
    ∧ (s.opState = .run ∨ s.opState = .sweep →
      ∃ t, exec (.cliNotification ignition) s = .next t
        ∧ (¬((s.slot ignition).value = 0 ∧ (s.slot ignition).quality = .valid) →
          t.opState = s.opState ∧ t.cli.parkDue = none
          ∧ ChangesOnly (.parkDelay :: .inFlight :: .arrivals :: sending) s t)
        ∧ ((s.slot ignition).value = 0 → (s.slot ignition).quality = .valid → s.cli.parkDue.isSome = true →
          t.opState = s.opState ∧ t.cli.parkDue = s.cli.parkDue
          ∧ ChangesOnly (.inFlight :: .arrivals :: sending) s t)
        ∧ ((s.slot ignition).value = 0 → (s.slot ignition).quality = .valid → s.cli.parkDue = none →
          (linkOf s).parkDelay ≠ 0 →
          t.opState = s.opState ∧ t.cli.parkDue = some (s.now + 1000 * (1000 * (linkOf s).parkDelay))
          ∧ ChangesOnly (.parkDelay :: .inFlight :: .arrivals :: sending) s t)
        ∧ ((s.slot ignition).value = 0 → (s.slot ignition).quality = .valid → s.cli.parkDue = none →
          (linkOf s).parkDelay = 0 → PartParks s t
            ∧ (sendingHeld s = true → ∃ more, Queued (.state .parked .parkDelay :: more) s t ∧ OffEventsAmong more s)
            ∧ ChangesOnly (.inFlight :: parkEntering) s t))
    ∧ (s.opState = .sweep → (s.slot vehicleSpeed).quality.usable = true → 300 ≤ (s.slot vehicleSpeed).value →
      (¬zeroDelay →
        ∃ t, exec (.cliNotification vehicleSpeed) s = .next t ∧ t.opState = .run ∧ FiltersRestart s t
        ∧ t.cli.parkDue = (if ignitionIs 0 s then some (s.now + 1000 * (1000 * (linkOf s).parkDelay)) else none)
        ∧ (sendingHeld s = true → Queued [.state .run .abort] s t)
        ∧ ChangesOnly ([.opState, .parkDelay, .sweepPhase, .gaugeRuns, .inFlight, .arrivals] ++ sending) s t)
      ∧ (zeroDelay →
        ∃ t, exec (.cliNotification vehicleSpeed) s = .next t ∧ PartParks s t ∧ FiltersRestart s t
        ∧ (sendingHeld s = true → ∃ more, Queued (.state .run .abort :: .state .parked .parkDelay :: more) s t
          ∧ OffEventsAmong more s)
        ∧ ChangesOnly (.inFlight :: parkEntering) s t))
    ∧ (∀ i : Slot,
      (i = ignition → s.opState = .config
        ∨ (s.opState = .parked ∧ ¬((s.slot ignition).value = 1 ∧ (s.slot ignition).quality = .valid))) →
      (i = vehicleSpeed → s.opState ≠ .sweep ∨ (s.slot vehicleSpeed).quality.usable = false
        ∨ (s.slot vehicleSpeed).value < 300) →
      (¬pends i ∨ i ∈ s.cli.updates → exec (.cliNotification i) s = .next (plain i))
      ∧ (pends i → i ∉ s.cli.updates → sendingHeld s = true → exec (.cliNotification i) s = .next
          { plain i with cli := { s.cli with updates := s.cli.updates ++ [i] } })
      ∧ (pends i → ∃ t, exec (.cliNotification i) s = .next t
          ∧ ChangesOnly (.inFlight :: .arrivals :: sending) s t))
    ∧ ∀ i : Slot, (i = vehicleSpeed → s.opState = .sweep → ¬zeroDelay) → sendingHeld s = true →
      ∃ t, exec (.cliNotification i) s = .next t
        ∧ (pends i → i ∉ s.cli.updates → t.cli.updates = s.cli.updates ++ [i])
        ∧ (¬pends i ∨ i ∈ s.cli.updates → t.cli.updates = s.cli.updates)

/-! ### The workshop port -/

/-- A request frame is taken by a port that runs and when its format and identifier are those of requests, and else passed
over. Taken, the read services answer from the state at one instant and change nothing else; a frame with no data byte, one
with an unknown service and one with too few parameter bytes are answered FORMAT, UNKNOWN and FORMAT; and bytes beyond the
parameters are ignored. (Free values and conventions in the data of READ_DOOR and READ_SPEED: log entries 9, 10, 26 and
40.) -/
def Obligations.WorkshopReadsAnswer : Prop :=
  ∀ s : State,
    (∀ c head data, requestData c = some (head, data) →
      wsRunning s = false ∨ head.extended ≠ s.wsp.settings.extended ∨ head.ident.toNat ≠ s.wsp.settings.requestId →
      exec c s = .next s)
    ∧ (WorkshopReady s → ∀ head : FrameHead,
      let ok (code : Byte) (payload : List Byte) : State := startResponse code .ok payload s
      let takes (data : List Byte) : Prop := Arrives head data s
      (takes [] → exec (.unknownServiceRequest ⟨head, []⟩) s = .next (startResponse 0 .format [] s))
      ∧ (∀ (code : Byte) params, code.toNat = 0 ∨ 14 < code.toNat → takes (code :: params) →
          exec (.unknownServiceRequest ⟨head, code :: params⟩) s = .next (startResponse code .unknown [] s))
      ∧ (∀ c (code : Byte) params n, requestData c = some (head, code :: params) → takes (code :: params) →
          (code.toNat, n) ∈ [(3, 1), (5, 1), (6, 1), (7, 2), (8, 1), (10, 5), (11, 2), (12, 3), (13, 1)] →
          params.length < n → exec c s = .next (startResponse code .format [] s))
      ∧ (∀ more, takes (1 :: more) → exec (.readIdent ⟨head, more⟩) s = .next (ok 1
          (e16 0x0A17 ++ e16 0x0614 ++ e8 0x01 ++ e8 s.opState.code ++ e8 (bitNat s.sdu.windowOpen)
            ++ e16 (flagsNat (loadStates s)))))
      ∧ (∀ more, takes (2 :: more) → exec (.readFaultCount ⟨head, more⟩) s = .next (ok 2
          (e8 s.flt.records.length ++ e8 (bitNat s.flt.overflow))))
      ∧ (∀ (pos : Byte) more, takes (3 :: pos :: more) → exec (.readFaultRecord ⟨head, pos :: more⟩) s = .next
          (match s.flt.records[pos.toNat]? with
            | none => startResponse 3 .range [] s
            | some r => ok 3 (e8 s.flt.records.length ++ e8 (bitNat s.flt.overflow) ++ r.bytes)))
      ∧ (∀ (b : Byte) more, takes (5 :: b :: more) →
          let i : Slot := ⟨b.toNat, b.isLt⟩
          exec (.readSignal ⟨head, b :: more⟩) s = .next (ok 5
            ([b] ++ eInt32 (s.slot i).value ++ e8 (s.slot i).quality.code ++ e16 ((s.slot i).age s.now)
              ++ eInt32 (effRead i s).1 ++ e8 (effRead i s).2.code)))
      ∧ (∀ (b : Byte) more, takes (6 :: b :: more) →
          (48 ≤ b.toNat → exec (.readLine ⟨head, b :: more⟩) s = .next (startResponse 6 .range [] s))
          ∧ ∀ l : Fin 48, b.toNat = l.val → exec (.readLine ⟨head, b :: more⟩) s = .next (ok 6
            (e16 (s.lsc.lines[l].lastCode.elim 0xFFFF BitVec.toNat) ++ e8 (s.lsc.lines[l].accepted.elim 0xFF Reading.code)
              ++ lineStateByte l s
              ++ s.lsc.lines[l].curveValue.elim (eInt32 0 ++ e8 0xFF) fun v => eInt32 v.1 ++ e8 v.2.code)))
      ∧ (∀ (b d : Byte) more, takes (7 :: b :: d :: more) →
          (3 < b.toNat ∨ 1 < d.toNat → exec (.readDoor ⟨head, b :: d :: more⟩) s = .next (startResponse 7 .range [] s))
          ∧ ∀ l : Fin 8, 2 * b.toNat + d.toNat = l.val → d.toNat ≤ 1 →
            let r := leafRun l s
            let e := doorEntry l s
            let p := portalRun (portalOf l) s
            let reading (i : Slot) : Nat := if leafFitted l s then
              (match readInput i s with
                | some false => 0
                | some true => 1
                | none => 2) else 3
            let locked : Nat := (e.lockedSlot.filter fun _ => (leader (portalOf l) s).lockFitted).elim 3 reading
            exec (.readDoor ⟨head, b :: d :: more⟩) s = .next (ok 7
              (e8 r.state.code ++ e8 (reading e.closedSlot + 4 * reading e.openSlot + 16 * locked + 64 * reading e.edgeSlot)
                ++ e8 (bitNat r.edge + 2 * bitNat r.inconsistent + 4 * bitNat r.transitFlag)
                ++ timeLeftBytes r.transitDue s ++ e32 r.cycles ++ e16 r.obstructions ++ e16 r.maxTransit
                ++ if d = 0 then
                    e8 (if portalExists (portalOf l) s then p.state.code else 0)
                      ++ e8 (bitNat p.released + 2 * bitNat p.requested + 4 * bitNat p.reading + 8 * bitNat p.held)
                  else [0, 0])))
      ∧ (∀ more, takes (9 :: more) →
          let record (i : Slot) : List Byte :=
            eInt32 (s.slot i).value ++ e8 (s.slot i).quality.code ++ e16 ((s.slot i).age s.now)
          let answers (measurement : List Byte) : Prop := exec (.readSpeed ⟨head, more⟩) s = .next (ok 9
            (record pulseSpeed ++ (frameSpeedSlot s).elim (eInt32 0 ++ [0xFF] ++ e16 0) record ++ record vehicleSpeed
              ++ measurement ++ e16 s.sdu.residue
              ++ e8 (bitNat s.sdu.plausPresent + 2 * bitNat s.sdu.implausible + 4 * bitNat s.sdu.windowOpen)))
          (s.sdu.meas = .stopped → answers ([0] ++ e16 0 ++ e32 0))
          ∧ (s.sdu.meas = .waiting → answers ([1] ++ e16 0 ++ e32 0))
          ∧ ∀ t0 n, s.sdu.meas = .opened t0 n →
            (n < 65536 → answers ([2] ++ e16 n ++ e32 (s.now - t0)))
            ∧ ∃ count : Nat, answers ([2] ++ e16 count ++ e32 (s.now - t0))))

/-- CLEAR_FAULTS, CLEAR_DOOR_COUNTERS and WRITE_CAL: refused by their checks in order with nothing changed; else the
records are removed, every FAULT_CLASS entry evaluated and every present condition reported again once, the counters of the named leaves are 0, or the field
is written and CAL_CHANGED queued, and the measurement, the standstill or the plausibility timer follows the group of the
field; the first load brings PULSE_SPEED to the rest of a loaded table (by a write that log entry 14 infers). -/
def Obligations.WorkshopWritesAct : Prop :=
  ∀ (s : State) (head : FrameHead), WorkshopReady s →
    let still := (s.slot vehicleSpeed).quality.usable = true ∧ (s.slot vehicleSpeed).value < 50
    let answered (code : Byte) (t : State) : Prop := t.wsp.response = some ⟨segmentsOf code .ok [], none⟩
    (∀ more, Arrives head (4 :: more) s → ¬still → exec (.clearFaults ⟨head, more⟩) s = .next (startResponse 4 .moving [] s))
    ∧ (∀ more, Arrives head (4 :: more) s → still → ∃ t, exec (.clearFaults ⟨head, more⟩) s = .next t ∧ answered 4 t
      ∧ t.flt.records = [] ∧ t.flt.overflow = false ∧ t.slot activeFaults = ⟨0, .valid, some s.now⟩
      ∧ IndicationSet false s t ∧ ClassesEvaluated (fun _ => True) True s t ∧ (WarningsLegal s → WarningsLegal t)
      ∧ (let again (c : Instr) (b : Bool) : Prop := t.inFlight.count c = s.inFlight.count c + bitNat b
         (∀ l code cls, again (.faultConditionStart (.line l code) cls)
            (decide (lineFault l s = some (.line l code, cls))))
         ∧ (∀ i, again (.faultConditionStart (.frame i .length) (frameClass i s)) (frameRun i s).lengthFlag
            ∧ again (.faultConditionStart (.frame i .sequence) (frameClass i s)) (frameRun i s).sequenceFlag
            ∧ again (.faultConditionStart (.frame i .timeout) (frameClass i s)) (frameRun i s).timeoutFlag
            ∧ again (.faultConditionStart (.frame i .senderError) (frameClass i s)) (senderErrorPresent i s))
         ∧ again (.faultConditionStart .speed 0) s.sdu.plausPresent
         ∧ ∀ l, let cls := (doorEntry l s).faultClass
            again (.faultConditionStart (.door l .inconsistent) cls) (leafFitted l s && (leafRun l s).inconsistent)
            ∧ again (.faultConditionStart (.door l .transit) cls) (leafFitted l s && (leafRun l s).transitFlag))
      ∧ (sendingHeld s = true → ∃ more, Queued (.faultsCleared .workshop :: more) s t)
      ∧ ChangesOnly (.wsResponse :: recording) s t)
    ∧ (∀ (b : Byte) more, Arrives head (8 :: b :: more) s →
      (3 < b.toNat → b ≠ 0xFF → exec (.clearDoorCounters ⟨head, b :: more⟩) s = .next (startResponse 8 .range [] s))
      ∧ (b.toNat ≤ 3 ∨ b = 0xFF → ¬still →
          exec (.clearDoorCounters ⟨head, b :: more⟩) s = .next (startResponse 8 .moving [] s))
      ∧ (b.toNat ≤ 3 ∨ b = 0xFF → still →
        ∃ t, exec (.clearDoorCounters ⟨head, b :: more⟩) s = .next t ∧ answered 8 t
          ∧ (∀ l : Fin 8, leafRun l t = if b = 0xFF ∨ l.val / 2 = b.toNat then
              { leafRun l s with cycles := 0, obstructions := 0, maxTransit := 0 } else leafRun l s)
          ∧ ChangesOnly [.leaves, .wsResponse] s t))
    ∧ (∀ (b : Byte) (rest : List Byte), 4 ≤ rest.length → Arrives head (10 :: b :: rest) s →
      let v := s32 (b :: rest) 1
      (CalField.ofCode? b.toNat = none → exec (.writeCal ⟨head, b :: rest⟩) s = .next (startResponse 10 .unknown [] s))
      ∧ ∀ field, CalField.ofCode? b.toNat = some field →
        (s.sdu.windowOpen = false → exec (.writeCal ⟨head, b :: rest⟩) s = .next (startResponse 10 .locked [] s))
        ∧ (s.sdu.windowOpen = true → v < 0 ∨ (calOf s).setField field v.toNat = none →
            exec (.writeCal ⟨head, b :: rest⟩) s = .next (startResponse 10 .range [] s))
        ∧ (∀ e, s.sdu.windowOpen = true → 0 ≤ v → (calOf s).setField field v.toNat = some e →
          ∃ t, exec (.writeCal ⟨head, b :: rest⟩) s = .next t ∧ answered 10 t ∧ t.sdu.cal = some e
            ∧ (let abandoned := ∀ t0 n, s.sdu.meas = .opened t0 n → t.sdu.meas = .waiting ∧ t.sdu.boundDue = none
               let unmoved := (∀ t0 n, s.sdu.meas ≠ .opened t0 n) →
                 t.sdu.meas = s.sdu.meas ∧ t.sdu.boundDue = s.sdu.boundDue
               let stands := s.sdu.cal ≠ none → t.slot pulseSpeed = s.slot pulseSpeed
               let late := ∃ f, s.sdu.standFrom = some f ∧ f + 10000 * e.standstill ≤ s.now
               (field = .distance ∨ field = .filter ∨ field = .window →
                t.sdu.residue = 0 ∧ abandoned ∧ unmoved ∧ stands ∧ t.sdu.standFrom = s.sdu.standFrom)
               ∧ (field = .standstill → t.sdu.residue = s.sdu.residue ∧ unmoved
                ∧ (late → t.sdu.standFrom = none ∧ abandoned ∧ PulseRests s t)
                ∧ (¬late → t.sdu.standFrom = s.sdu.standFrom ∧ t.sdu.meas = s.sdu.meas
                  ∧ t.sdu.boundDue = s.sdu.boundDue ∧ stands))
               ∧ (field = .frameSlot ∨ field = .tolerance ∨ field = .plausTime →
                t.sdu.residue = s.sdu.residue ∧ t.sdu.meas = s.sdu.meas ∧ t.sdu.standFrom = s.sdu.standFrom
                  ∧ stands ∧ (t.sdu.plausFrom = none ∨ t.sdu.plausFrom = some s.now))
               ∧ (s.sdu.cal = none → PulseRests s t))
            ∧ t.sdu.plausPresent = s.sdu.plausPresent ∧ t.sdu.implausible = s.sdu.implausible
            ∧ t.sdu.filterRef = s.sdu.filterRef ∧ SpeedFormed t
            ∧ ((∀ i, frameSpeedSlot t = some i → 12 ≤ i.val) → SpeedTested s t
              ∧ (sendingHeld s = true → Queued (.calChanged b.toNat .workshop :: closingEvents s t) s t))
            ∧ (sendingHeld s = true → ∃ more, Queued (.calChanged b.toNat .workshop :: more) s t)
            ∧ ChangesOnly (.calibration :: .residue :: .wsResponse :: measuring) s t))

/-- TEST_TELLTALE, TEST_GAUGE and TEST_CHIME: STATE outside RUN, then RANGE, then MOVING, and else the test runs for 10 s.
TEST_END and every other request taken on WS first ends a running test and abandons a response in flight, and is then
served as one that finds neither; the end of the 10 s and VEHICLE_SPEED at 3.00 km/h end a test too. At its end its output
is released. (Whether an abandoned segment had started: log entry 8.) -/
def Obligations.OutputTestsRunAndEnd : Prop :=
  ∀ s : State,
    let still := (s.slot vehicleSpeed).quality.usable = true ∧ (s.slot vehicleSpeed).value < 50
    let run (code : Byte) (test : OutputTest) (t : State) : Prop :=
      t.wsp.test = some test ∧ t.wsp.testDue = some (s.now + 10000000)
        ∧ t.wsp.response = some ⟨segmentsOf code .ok [], none⟩
    let ended (t : State) : Prop :=
      t.wsp.test = none ∧ t.wsp.testDue = none
        ∧ t.chg.requests = (if s.wsp.test = some .chime then s.chg.requests.filter (fun r => r.who ≠ .workshop)
            else s.chg.requests)
        ∧ (ChimeLegal s → ChimeLegal t)
        ∧ ∀ c, gaugeRun c t =
          if (gaugeTest c s).isSome ∧ (gaugeEntry c s).enabled = true ∧ s.opState = .run then
            { gaugeRun c s with f := 256 * (gaugeRun c s).p } else gaugeRun c s
    (WorkshopReady s → ∀ head : FrameHead,
      (∀ c (code : Byte) params n, requestData c = some (head, code :: params) → Arrives head (code :: params) s →
        (code.toNat, n) ∈ [(11, 2), (12, 3), (13, 1)] → n ≤ params.length →
        (s.opState ≠ .run → exec c s = .next (startResponse code .state [] s))
        ∧ (s.opState = .run → (code = 11 ∧ (31 < u8 params 0 ∨ 1 < u8 params 1)) ∨ (code = 12 ∧ 5 < u8 params 0)
            ∨ (code = 13 ∧ 7 < u8 params 0) → exec c s = .next (startResponse code .range [] s))
        ∧ (s.opState = .run → (code = 11 ∧ u8 params 0 ≤ 31 ∧ u8 params 1 ≤ 1) ∨ (code = 12 ∧ u8 params 0 ≤ 5)
            ∨ (code = 13 ∧ u8 params 0 ≤ 7) → ¬still → exec c s = .next (startResponse code .moving [] s)))
      ∧ (s.opState = .run → still →
        (∀ (o : Fin 32) (lit : Bool) more,
          let params : List Byte := BitVec.ofNat 8 o.val :: BitVec.ofNat 8 (bitNat lit) :: more
          Arrives head (11 :: params) s → ∃ t, exec (.testTelltale ⟨head, params⟩) s = .next t
            ∧ run 11 (.telltale o lit) t ∧ ChangesOnly [.wsTest, .wsResponse] s t)
        ∧ (∀ (c : Fin 6) (b d : Byte) more,
          let params : List Byte := BitVec.ofNat 8 c.val :: b :: d :: more
          Arrives head (12 :: params) s → ∃ t, exec (.testGauge ⟨head, params⟩) s = .next t
            ∧ run 12 (.gauge c (min (b.toNat + 256 * d.toNat) (gaugeEntry c s).span)) t
            ∧ ChangesOnly [.wsTest, .wsResponse] s t)
        ∧ (∀ (p : Fin 8) more,
          let params : List Byte := BitVec.ofNat 8 p.val :: more
          Arrives head (13 :: params) s → ∃ t, exec (.testChime ⟨head, params⟩) s = .next t ∧ run 13 .chime t
            ∧ t.chg.requests = s.chg.requests.filter (fun r => r.who ≠ .workshop) ++ [⟨.workshop, p, s.chg.seq + 1, 0⟩]
            ∧ (ChimeLegal s → ChimeLegal t)
            ∧ ChangesOnly [.requests, .playing, .wsTest, .wsResponse] s t)))
    ∧ (∀ head params, Arrives head (14 :: params) s →
      (s.wsp.test = none → s.wsp.response = none → exec (.testEnd ⟨head, params⟩) s = .next (startResponse 14 .ok [] s))
      ∧ (s.wsp.test ≠ none →
        ∃ t, exec (.testEnd ⟨head, params⟩) s = .next t ∧ ended t ∧ t.wsp.response = some ⟨segmentsOf 14 .ok [], none⟩
          ∧ ChangesOnly [.wsTest, .gaugeRuns, .requests, .playing, .wsResponse, .freeCount] s t))
    ∧ (∀ c head data, requestData c = some (head, data) → Arrives head data s →
      ∃ u, exec c s = exec c u ∧ u.wsp.response = none
        ∧ (s.wsp.test ≠ none → ended u)
        ∧ (s.wsp.test = none → ChangesOnly [.wsResponse, .freeCount] s u)
        ∧ (s.wsp.response = none → u.wsp.orphan = s.wsp.orphan ∧ u.freeCount = s.freeCount)
        ∧ (u.wsp.orphan = s.wsp.orphan ∨ (s.wsp.orphan = none
          ∧ ∃ seg rest, s.wsp.response = some ⟨seg :: rest, none⟩ ∧ u.wsp.orphan = some seg))
        ∧ ChangesOnly [.wsTest, .gaugeRuns, .requests, .playing, .wsResponse, .freeCount] s u)
    ∧ (∀ d, s.wsp.test ≠ none → s.wsp.testDue = some d → d ≤ s.now →
      ∃ t, exec .testTimerExpiry s = .next t ∧ ended t
        ∧ ChangesOnly [.wsTest, .gaugeRuns, .requests, .playing] s t)
    ∧ (s.wsp.test = none ∨ (∀ d, s.wsp.testDue = some d → s.now < d) → exec .testTimerExpiry s = .next s)
    ∧ ((s.slot vehicleSpeed).quality.usable = true → 300 ≤ (s.slot vehicleSpeed).value → s.wsp.test ≠ none →
      ∃ t, exec .wspSpeedNotification s = .next t ∧ ended t
        ∧ ChangesOnly [.wsTest, .gaugeRuns, .requests, .playing, .inFlight, .arrivals] s t)
    ∧ (¬((s.slot vehicleSpeed).quality.usable = true ∧ 300 ≤ (s.slot vehicleSpeed).value) ∨ s.wsp.test = none →
      exec .wspSpeedNotification s = .next { s with inFlight := s.inFlight.erase .wspSpeedNotification })

/-- The ports: a rate takes effect at the next idle of its segment, on WS with its other settings (when WS is bus-off or
a segment still runs: log entry 23). A response is sent segment by segment, each a data frame under the response identifier
in the format of the settings, and each after the pacing time; a failed attempt adds 8 to the transmit error count, above
255 WS goes bus-off for one second, and a segment sent takes 1 off. -/
def Obligations.PortsRunAndSendSegments : Prop :=
  ∀ s : State,
    let e := linkOf s
    let settings : WsSettings := ⟨e.ws, e.wsExtended, e.requestId, e.responseId, e.pacing⟩
    let withResponse (r : Option WsResponse) : State := { s with wsp := { s.wsp with response := r } }
    exec (.portRateTakesEffect .va) s = .next { s with frp := { s.frp with vaRate := e.va } }
    ∧ exec (.portRateTakesEffect .vb) s = .next { s with frp := { s.frp with vbRate := e.vb } }
    ∧ (s.wsp.busOffUntil = none → s.wsp.orphan = none →
      exec (.portRateTakesEffect .ws) s = .next { s with wsp := { s.wsp with
        settings, txErrors := if s.wsp.settings.rate = .off then 0 else s.wsp.txErrors } })
    ∧ (s.wsp.busOffUntil ≠ none ∨ s.wsp.orphan ≠ none → exec (.portRateTakesEffect .ws) s = .next s)
    ∧ (∀ d, s.wsp.busOffUntil = some d → d ≤ s.now → exec .busOffRecovery s = .next { s with wsp := { s.wsp with
        settings, txErrors := 0, busOffUntil := none } })
    ∧ ((∀ d, s.wsp.busOffUntil = some d → s.now < d) → exec .busOffRecovery s = .next s)
    ∧ (∀ l d, s.wsp.response = some ⟨l, some d⟩ → d ≤ s.now → exec .pacingExpiry s = .next (withResponse (some ⟨l, none⟩)))
    ∧ ((∀ l d, s.wsp.response = some ⟨l, some d⟩ → s.now < d) → exec .pacingExpiry s = .next s)
    ∧ (wsRunning s = false → exec .segmentSent s = .next s ∧ exec .segmentFailed s = .next s)
    ∧ (wsRunning s = true → s.wsp.orphan = none →
      (∀ seg, s.wsp.response = some ⟨[seg], none⟩ → exec .segmentSent s = .next { s with wsp := { s.wsp with
        response := none, txErrors := s.wsp.txErrors - 1 } })
      ∧ (∀ seg next rest, s.wsp.response = some ⟨seg :: next :: rest, none⟩ →
        exec .segmentSent s = .next { s with wsp := { s.wsp with
          response := some ⟨next :: rest, some (s.now + 1000 * s.wsp.settings.pacing)⟩
          txErrors := s.wsp.txErrors - 1 } })
      ∧ (∀ seg rest, s.wsp.response = some ⟨seg :: rest, none⟩ →
        (s.wsp.txErrors + 8 ≤ 255 → exec .segmentFailed s = .next { s with wsp := { s.wsp with
          txErrors := s.wsp.txErrors + 8 } })
        ∧ (255 < s.wsp.txErrors + 8 → exec .segmentFailed s = .next { s with wsp := { s.wsp with
          txErrors := s.wsp.txErrors + 8, busOffUntil := some (s.now + 1000000), response := none } }))
      ∧ ((∀ seg rest, s.wsp.response ≠ some ⟨seg :: rest, none⟩) →
        exec .segmentSent s = .next s ∧ exec .segmentFailed s = .next s))
    ∧ (∀ seg, wsRunning s = true → s.wsp.orphan = some seg →
      exec .segmentSent s = .next { s with wsp := { s.wsp with orphan := none, txErrors := s.wsp.txErrors - 1 } }
      ∧ (s.wsp.txErrors + 8 ≤ 255 → exec .segmentFailed s = .next { s with wsp := { s.wsp with
        orphan := none, txErrors := s.wsp.txErrors + 8 } })
      ∧ (255 < s.wsp.txErrors + 8 → exec .segmentFailed s = .next { s with wsp := { s.wsp with
        orphan := none, response := none, txErrors := s.wsp.txErrors + 8, busOffUntil := some (s.now + 1000000) } }))
    ∧ (let framed (seg : List Byte) : FrameHead × List Byte :=
        (⟨s.wsp.settings.extended, BitVec.ofNat 29 s.wsp.settings.responseId, BitVec.ofNat 4 seg.length⟩, seg)
       (wsRunning s = false → frameAtPort s = none)
       ∧ (wsRunning s = true →
        (∀ seg, s.wsp.orphan = some seg → frameAtPort s = some (framed seg))
        ∧ (s.wsp.orphan = none →
          (∀ seg rest, s.wsp.response = some ⟨seg :: rest, none⟩ → frameAtPort s = some (framed seg))
          ∧ ((∀ seg rest, s.wsp.response ≠ some ⟨seg :: rest, none⟩) → frameAtPort s = none))))
    ∧ ∀ (service : Byte) (result : Result) (payload : List Byte),
      let segments := segmentsOf service result payload
      segments.length = 1 + (payload.length - 4 + 6) / 7
      ∧ (segments.map fun x => x.drop 1).flatten = service :: e8 result.code ++ e8 payload.length ++ payload
      ∧ (∀ k x, segments[k]? = some x →
          x.take 1 = e8 (if k + 1 = segments.length then k + 128 else k) ∧ 1 < x.length ∧ x.length ≤ 8)

/-! ### Invariants -/

/-- The part right after reset satisfies every invariant below. -/
def Obligations.ResetIsLegal : Prop :=
  FaultMemoryLegal State.reset ∧ ChimeLegal State.reset ∧ LinkLegal State.reset ∧ WarningsLegal State.reset
    ∧ GaugesLegal State.reset ∧ DistanceLegal State.reset

/-- No step takes the fault memory beyond 32 records, or to two records of one code. -/
def Obligations.StepKeepsFaultMemory : Prop :=
  ∀ s t : State, FaultMemoryLegal s → step s = .next t → FaultMemoryLegal t

/-- Whatever step is taken, a requester holds at most one chime request, and while requests are held the earliest of the
highest priority plays. -/
def Obligations.StepKeepsChime : Prop :=
  ∀ s t : State, ChimeLegal s → step s = .next t → ChimeLegal t

/-- No step takes the queues of the cluster link beyond their places, or leaves a segment of an abandoned response at a WS port
that does not run. -/
def Obligations.StepKeepsLinkQueues : Prop :=
  ∀ s t : State, LinkLegal s → step s = .next t → LinkLegal t

/-- No step takes a pointer, a filter or a test position out of its channel's span. -/
def Obligations.StepKeepsGauges : Prop :=
  ∀ s t : State, GaugesLegal s → step s = .next t → GaugesLegal t

/-- Whatever step is taken, a warning entry that is not enabled stays OFF, ACTIVE_WARNINGS stays the length of the active
list and the reported top its first element, the distance residue stays below the distance constant in force, and the frame
speed slot is none of the internal ones. -/
def Obligations.StepKeepsWarningsAndDistance : Prop :=
  ∀ s t : State, step s = .next t → (WarningsLegal s → WarningsLegal t) ∧ (DistanceLegal s → DistanceLegal t)
end

