-- ==== Sys2Proof/Laws/State.lean ====
section
/-! SUPPORT. One lemma for each field of `State` under each plain update of the model, true by `rfl`: no later proof
unfolds an update of the state. -/

namespace Sys2Proof.Machine

/-! ### bumpFree -/

@[simp] theorem bumpFree_now (s : State) : (bumpFree s).now = s.now := rfl
@[simp] theorem bumpFree_freeCount (s : State) : (bumpFree s).freeCount = s.freeCount + 1 := rfl
@[simp] theorem bumpFree_opState (s : State) : (bumpFree s).opState = s.opState := rfl
@[simp] theorem bumpFree_sst (s : State) : (bumpFree s).sst = s.sst := rfl
@[simp] theorem bumpFree_frp (s : State) : (bumpFree s).frp = s.frp := rfl
@[simp] theorem bumpFree_lsc (s : State) : (bumpFree s).lsc = s.lsc := rfl
@[simp] theorem bumpFree_sdu (s : State) : (bumpFree s).sdu = s.sdu := rfl
@[simp] theorem bumpFree_gdr (s : State) : (bumpFree s).gdr = s.gdr := rfl
@[simp] theorem bumpFree_wrn (s : State) : (bumpFree s).wrn = s.wrn := rfl
@[simp] theorem bumpFree_chg (s : State) : (bumpFree s).chg = s.chg := rfl
@[simp] theorem bumpFree_drm (s : State) : (bumpFree s).drm = s.drm := rfl
@[simp] theorem bumpFree_flt (s : State) : (bumpFree s).flt = s.flt := rfl
@[simp] theorem bumpFree_cli (s : State) : (bumpFree s).cli = s.cli := rfl
@[simp] theorem bumpFree_wsp (s : State) : (bumpFree s).wsp = s.wsp := rfl
@[simp] theorem bumpFree_inFlight (s : State) : (bumpFree s).inFlight = s.inFlight := rfl
@[simp] theorem bumpFree_pending (s : State) : (bumpFree s).pending = s.pending := rfl

/-! ### post -/

@[simp] theorem post_now (cs : List Instr) (s : State) : (post cs s).now = s.now := rfl
@[simp] theorem post_freeCount (cs : List Instr) (s : State) : (post cs s).freeCount = s.freeCount := rfl
@[simp] theorem post_opState (cs : List Instr) (s : State) : (post cs s).opState = s.opState := rfl
@[simp] theorem post_sst (cs : List Instr) (s : State) : (post cs s).sst = s.sst := rfl
@[simp] theorem post_frp (cs : List Instr) (s : State) : (post cs s).frp = s.frp := rfl
@[simp] theorem post_lsc (cs : List Instr) (s : State) : (post cs s).lsc = s.lsc := rfl
@[simp] theorem post_sdu (cs : List Instr) (s : State) : (post cs s).sdu = s.sdu := rfl
@[simp] theorem post_gdr (cs : List Instr) (s : State) : (post cs s).gdr = s.gdr := rfl
@[simp] theorem post_wrn (cs : List Instr) (s : State) : (post cs s).wrn = s.wrn := rfl
@[simp] theorem post_chg (cs : List Instr) (s : State) : (post cs s).chg = s.chg := rfl
@[simp] theorem post_drm (cs : List Instr) (s : State) : (post cs s).drm = s.drm := rfl
@[simp] theorem post_flt (cs : List Instr) (s : State) : (post cs s).flt = s.flt := rfl
@[simp] theorem post_cli (cs : List Instr) (s : State) : (post cs s).cli = s.cli := rfl
@[simp] theorem post_wsp (cs : List Instr) (s : State) : (post cs s).wsp = s.wsp := rfl
@[simp] theorem post_inFlight (cs : List Instr) (s : State) : (post cs s).inFlight = s.inFlight ++ cs := rfl
@[simp] theorem post_pending (cs : List Instr) (s : State) : (post cs s).pending = s.pending := rfl

/-! ### takeArrival -/

@[simp] theorem takeArrival_now (c : Instr) (s : State) : (takeArrival c s).now = s.now := rfl
@[simp] theorem takeArrival_freeCount (c : Instr) (s : State) : (takeArrival c s).freeCount = s.freeCount := rfl
@[simp] theorem takeArrival_opState (c : Instr) (s : State) : (takeArrival c s).opState = s.opState := rfl
@[simp] theorem takeArrival_sst (c : Instr) (s : State) : (takeArrival c s).sst = s.sst := rfl
@[simp] theorem takeArrival_frp (c : Instr) (s : State) : (takeArrival c s).frp = s.frp := rfl
@[simp] theorem takeArrival_lsc (c : Instr) (s : State) : (takeArrival c s).lsc = s.lsc := rfl
@[simp] theorem takeArrival_sdu (c : Instr) (s : State) : (takeArrival c s).sdu = s.sdu := rfl
@[simp] theorem takeArrival_gdr (c : Instr) (s : State) : (takeArrival c s).gdr = s.gdr := rfl
@[simp] theorem takeArrival_wrn (c : Instr) (s : State) : (takeArrival c s).wrn = s.wrn := rfl
@[simp] theorem takeArrival_chg (c : Instr) (s : State) : (takeArrival c s).chg = s.chg := rfl
@[simp] theorem takeArrival_drm (c : Instr) (s : State) : (takeArrival c s).drm = s.drm := rfl
@[simp] theorem takeArrival_flt (c : Instr) (s : State) : (takeArrival c s).flt = s.flt := rfl
@[simp] theorem takeArrival_cli (c : Instr) (s : State) : (takeArrival c s).cli = s.cli := rfl
@[simp] theorem takeArrival_wsp (c : Instr) (s : State) : (takeArrival c s).wsp = s.wsp := rfl
@[simp] theorem takeArrival_inFlight (c : Instr) (s : State) : (takeArrival c s).inFlight = s.inFlight.erase c := rfl
@[simp] theorem takeArrival_pending (c : Instr) (s : State) : (takeArrival c s).pending = s.pending := rfl

/-! ### startRecord -/

@[simp] theorem startRecord_now (b : List Byte) (s : State) : (startRecord b s).now = s.now := rfl
@[simp] theorem startRecord_freeCount (b : List Byte) (s : State) : (startRecord b s).freeCount = s.freeCount := rfl
@[simp] theorem startRecord_opState (b : List Byte) (s : State) : (startRecord b s).opState = s.opState := rfl
@[simp] theorem startRecord_sst (b : List Byte) (s : State) : (startRecord b s).sst = s.sst := rfl
@[simp] theorem startRecord_frp (b : List Byte) (s : State) : (startRecord b s).frp = s.frp := rfl
@[simp] theorem startRecord_lsc (b : List Byte) (s : State) : (startRecord b s).lsc = s.lsc := rfl
@[simp] theorem startRecord_sdu (b : List Byte) (s : State) : (startRecord b s).sdu = s.sdu := rfl
@[simp] theorem startRecord_gdr (b : List Byte) (s : State) : (startRecord b s).gdr = s.gdr := rfl
@[simp] theorem startRecord_wrn (b : List Byte) (s : State) : (startRecord b s).wrn = s.wrn := rfl
@[simp] theorem startRecord_chg (b : List Byte) (s : State) : (startRecord b s).chg = s.chg := rfl
@[simp] theorem startRecord_drm (b : List Byte) (s : State) : (startRecord b s).drm = s.drm := rfl
@[simp] theorem startRecord_flt (b : List Byte) (s : State) : (startRecord b s).flt = s.flt := rfl
@[simp] theorem startRecord_cli (b : List Byte) (s : State) :
    (startRecord b s).cli = { s.cli with tx := some b, wake := false } := rfl
@[simp] theorem startRecord_wsp (b : List Byte) (s : State) : (startRecord b s).wsp = s.wsp := rfl
@[simp] theorem startRecord_inFlight (b : List Byte) (s : State) : (startRecord b s).inFlight = s.inFlight := rfl
@[simp] theorem startRecord_pending (b : List Byte) (s : State) : (startRecord b s).pending = s.pending := rfl

/-! ### assertWake -/

@[simp] theorem assertWake_now (s : State) : (assertWake s).now = s.now := rfl
@[simp] theorem assertWake_freeCount (s : State) : (assertWake s).freeCount = s.freeCount := rfl
@[simp] theorem assertWake_opState (s : State) : (assertWake s).opState = s.opState := rfl
@[simp] theorem assertWake_sst (s : State) : (assertWake s).sst = s.sst := rfl
@[simp] theorem assertWake_frp (s : State) : (assertWake s).frp = s.frp := rfl
@[simp] theorem assertWake_lsc (s : State) : (assertWake s).lsc = s.lsc := rfl
@[simp] theorem assertWake_sdu (s : State) : (assertWake s).sdu = s.sdu := rfl
@[simp] theorem assertWake_gdr (s : State) : (assertWake s).gdr = s.gdr := rfl
@[simp] theorem assertWake_wrn (s : State) : (assertWake s).wrn = s.wrn := rfl
@[simp] theorem assertWake_chg (s : State) : (assertWake s).chg = s.chg := rfl
@[simp] theorem assertWake_drm (s : State) : (assertWake s).drm = s.drm := rfl
@[simp] theorem assertWake_flt (s : State) : (assertWake s).flt = s.flt := rfl
@[simp] theorem assertWake_cli (s : State) : (assertWake s).cli = { s.cli with wake := true } := rfl
@[simp] theorem assertWake_wsp (s : State) : (assertWake s).wsp = s.wsp := rfl
@[simp] theorem assertWake_inFlight (s : State) : (assertWake s).inFlight = s.inFlight := rfl
@[simp] theorem assertWake_pending (s : State) : (assertWake s).pending = s.pending := rfl

/-! ### silence -/

@[simp] theorem silence_now (s : State) : (silence s).now = s.now := rfl
@[simp] theorem silence_freeCount (s : State) : (silence s).freeCount = s.freeCount := rfl
@[simp] theorem silence_opState (s : State) : (silence s).opState = s.opState := rfl
@[simp] theorem silence_sst (s : State) : (silence s).sst = s.sst := rfl
@[simp] theorem silence_frp (s : State) : (silence s).frp = s.frp := rfl
@[simp] theorem silence_lsc (s : State) : (silence s).lsc = s.lsc := rfl
@[simp] theorem silence_sdu (s : State) : (silence s).sdu = s.sdu := rfl
@[simp] theorem silence_gdr (s : State) : (silence s).gdr = s.gdr := rfl
@[simp] theorem silence_wrn (s : State) : (silence s).wrn = s.wrn := rfl
@[simp] theorem silence_chg (s : State) : (silence s).chg = { s.chg with playing := none } := rfl
@[simp] theorem silence_drm (s : State) : (silence s).drm = s.drm := rfl
@[simp] theorem silence_flt (s : State) : (silence s).flt = s.flt := rfl
@[simp] theorem silence_cli (s : State) : (silence s).cli = s.cli := rfl
@[simp] theorem silence_wsp (s : State) : (silence s).wsp = s.wsp := rfl
@[simp] theorem silence_inFlight (s : State) : (silence s).inFlight = s.inFlight := rfl
@[simp] theorem silence_pending (s : State) : (silence s).pending = s.pending := rfl

/-! ### setHeld -/

@[simp] theorem setHeld_now (p : Fin 4) (b : Bool) (s : State) : (setHeld p b s).now = s.now := rfl
@[simp] theorem setHeld_freeCount (p : Fin 4) (b : Bool) (s : State) : (setHeld p b s).freeCount = s.freeCount := rfl
@[simp] theorem setHeld_opState (p : Fin 4) (b : Bool) (s : State) : (setHeld p b s).opState = s.opState := rfl
@[simp] theorem setHeld_sst (p : Fin 4) (b : Bool) (s : State) : (setHeld p b s).sst = s.sst := rfl
@[simp] theorem setHeld_frp (p : Fin 4) (b : Bool) (s : State) : (setHeld p b s).frp = s.frp := rfl
@[simp] theorem setHeld_lsc (p : Fin 4) (b : Bool) (s : State) : (setHeld p b s).lsc = s.lsc := rfl
@[simp] theorem setHeld_sdu (p : Fin 4) (b : Bool) (s : State) : (setHeld p b s).sdu = s.sdu := rfl
@[simp] theorem setHeld_gdr (p : Fin 4) (b : Bool) (s : State) : (setHeld p b s).gdr = s.gdr := rfl
@[simp] theorem setHeld_wrn (p : Fin 4) (b : Bool) (s : State) : (setHeld p b s).wrn = s.wrn := rfl
@[simp] theorem setHeld_chg (p : Fin 4) (b : Bool) (s : State) : (setHeld p b s).chg = s.chg := rfl
@[simp] theorem setHeld_drm (p : Fin 4) (b : Bool) (s : State) :
    (setHeld p b s).drm = { s.drm with portals := s.drm.portals.set p { s.drm.portals[p] with held := b } } := rfl
@[simp] theorem setHeld_flt (p : Fin 4) (b : Bool) (s : State) : (setHeld p b s).flt = s.flt := rfl
@[simp] theorem setHeld_cli (p : Fin 4) (b : Bool) (s : State) : (setHeld p b s).cli = s.cli := rfl
@[simp] theorem setHeld_wsp (p : Fin 4) (b : Bool) (s : State) : (setHeld p b s).wsp = s.wsp := rfl
@[simp] theorem setHeld_inFlight (p : Fin 4) (b : Bool) (s : State) : (setHeld p b s).inFlight = s.inFlight := rfl
@[simp] theorem setHeld_pending (p : Fin 4) (b : Bool) (s : State) : (setHeld p b s).pending = s.pending := rfl

/-! ### clearRequests -/

@[simp] theorem clearRequests_now (s : State) : (clearRequests s).now = s.now := rfl
@[simp] theorem clearRequests_freeCount (s : State) : (clearRequests s).freeCount = s.freeCount := rfl
@[simp] theorem clearRequests_opState (s : State) : (clearRequests s).opState = s.opState := rfl
@[simp] theorem clearRequests_sst (s : State) : (clearRequests s).sst = s.sst := rfl
@[simp] theorem clearRequests_frp (s : State) : (clearRequests s).frp = s.frp := rfl
@[simp] theorem clearRequests_lsc (s : State) : (clearRequests s).lsc = s.lsc := rfl
@[simp] theorem clearRequests_sdu (s : State) : (clearRequests s).sdu = s.sdu := rfl
@[simp] theorem clearRequests_gdr (s : State) : (clearRequests s).gdr = s.gdr := rfl
@[simp] theorem clearRequests_wrn (s : State) : (clearRequests s).wrn = s.wrn := rfl
@[simp] theorem clearRequests_chg (s : State) :
    (clearRequests s).chg = { s.chg with requests := [], playing := none } := rfl
@[simp] theorem clearRequests_drm (s : State) : (clearRequests s).drm = s.drm := rfl
@[simp] theorem clearRequests_flt (s : State) : (clearRequests s).flt = s.flt := rfl
@[simp] theorem clearRequests_cli (s : State) : (clearRequests s).cli = s.cli := rfl
@[simp] theorem clearRequests_wsp (s : State) : (clearRequests s).wsp = s.wsp := rfl
@[simp] theorem clearRequests_inFlight (s : State) : (clearRequests s).inFlight = s.inFlight := rfl
@[simp] theorem clearRequests_pending (s : State) : (clearRequests s).pending = s.pending := rfl

/-! ### stopMeasurement -/

@[simp] theorem stopMeasurement_now (s : State) : (stopMeasurement s).now = s.now := rfl
@[simp] theorem stopMeasurement_freeCount (s : State) : (stopMeasurement s).freeCount = s.freeCount := rfl
@[simp] theorem stopMeasurement_opState (s : State) : (stopMeasurement s).opState = s.opState := rfl
@[simp] theorem stopMeasurement_sst (s : State) : (stopMeasurement s).sst = s.sst := rfl
@[simp] theorem stopMeasurement_frp (s : State) : (stopMeasurement s).frp = s.frp := rfl
@[simp] theorem stopMeasurement_lsc (s : State) : (stopMeasurement s).lsc = s.lsc := rfl
@[simp] theorem stopMeasurement_sdu (s : State) :
    (stopMeasurement s).sdu = { s.sdu with meas := .stopped, boundDue := none, standFrom := none } := rfl
@[simp] theorem stopMeasurement_gdr (s : State) : (stopMeasurement s).gdr = s.gdr := rfl
@[simp] theorem stopMeasurement_wrn (s : State) : (stopMeasurement s).wrn = s.wrn := rfl
@[simp] theorem stopMeasurement_chg (s : State) : (stopMeasurement s).chg = s.chg := rfl
@[simp] theorem stopMeasurement_drm (s : State) : (stopMeasurement s).drm = s.drm := rfl
@[simp] theorem stopMeasurement_flt (s : State) : (stopMeasurement s).flt = s.flt := rfl
@[simp] theorem stopMeasurement_cli (s : State) : (stopMeasurement s).cli = s.cli := rfl
@[simp] theorem stopMeasurement_wsp (s : State) : (stopMeasurement s).wsp = s.wsp := rfl
@[simp] theorem stopMeasurement_inFlight (s : State) : (stopMeasurement s).inFlight = s.inFlight := rfl
@[simp] theorem stopMeasurement_pending (s : State) : (stopMeasurement s).pending = s.pending := rfl

/-! ### awaitEdge -/

@[simp] theorem awaitEdge_now (s : State) : (awaitEdge s).now = s.now := rfl
@[simp] theorem awaitEdge_freeCount (s : State) : (awaitEdge s).freeCount = s.freeCount := rfl
@[simp] theorem awaitEdge_opState (s : State) : (awaitEdge s).opState = s.opState := rfl
@[simp] theorem awaitEdge_sst (s : State) : (awaitEdge s).sst = s.sst := rfl
@[simp] theorem awaitEdge_frp (s : State) : (awaitEdge s).frp = s.frp := rfl
@[simp] theorem awaitEdge_lsc (s : State) : (awaitEdge s).lsc = s.lsc := rfl
@[simp] theorem awaitEdge_sdu (s : State) :
    (awaitEdge s).sdu = { s.sdu with meas := .waiting, boundDue := none } := rfl
@[simp] theorem awaitEdge_gdr (s : State) : (awaitEdge s).gdr = s.gdr := rfl
@[simp] theorem awaitEdge_wrn (s : State) : (awaitEdge s).wrn = s.wrn := rfl
@[simp] theorem awaitEdge_chg (s : State) : (awaitEdge s).chg = s.chg := rfl
@[simp] theorem awaitEdge_drm (s : State) : (awaitEdge s).drm = s.drm := rfl
@[simp] theorem awaitEdge_flt (s : State) : (awaitEdge s).flt = s.flt := rfl
@[simp] theorem awaitEdge_cli (s : State) : (awaitEdge s).cli = s.cli := rfl
@[simp] theorem awaitEdge_wsp (s : State) : (awaitEdge s).wsp = s.wsp := rfl
@[simp] theorem awaitEdge_inFlight (s : State) : (awaitEdge s).inFlight = s.inFlight := rfl
@[simp] theorem awaitEdge_pending (s : State) : (awaitEdge s).pending = s.pending := rfl

/-! ### setWarnRun -/

@[simp] theorem setWarnRun_now (i : Fin 96) (r : WarnRun) (s : State) : (setWarnRun i r s).now = s.now := rfl
@[simp] theorem setWarnRun_freeCount (i : Fin 96) (r : WarnRun) (s : State) :
    (setWarnRun i r s).freeCount = s.freeCount := rfl
@[simp] theorem setWarnRun_opState (i : Fin 96) (r : WarnRun) (s : State) :
    (setWarnRun i r s).opState = s.opState := rfl
@[simp] theorem setWarnRun_sst (i : Fin 96) (r : WarnRun) (s : State) : (setWarnRun i r s).sst = s.sst := rfl
@[simp] theorem setWarnRun_frp (i : Fin 96) (r : WarnRun) (s : State) : (setWarnRun i r s).frp = s.frp := rfl
@[simp] theorem setWarnRun_lsc (i : Fin 96) (r : WarnRun) (s : State) : (setWarnRun i r s).lsc = s.lsc := rfl
@[simp] theorem setWarnRun_sdu (i : Fin 96) (r : WarnRun) (s : State) : (setWarnRun i r s).sdu = s.sdu := rfl
@[simp] theorem setWarnRun_gdr (i : Fin 96) (r : WarnRun) (s : State) : (setWarnRun i r s).gdr = s.gdr := rfl
@[simp] theorem setWarnRun_wrn (i : Fin 96) (r : WarnRun) (s : State) :
    (setWarnRun i r s).wrn = { s.wrn with run := s.wrn.run.set i r } := rfl
@[simp] theorem setWarnRun_chg (i : Fin 96) (r : WarnRun) (s : State) : (setWarnRun i r s).chg = s.chg := rfl
@[simp] theorem setWarnRun_drm (i : Fin 96) (r : WarnRun) (s : State) : (setWarnRun i r s).drm = s.drm := rfl
@[simp] theorem setWarnRun_flt (i : Fin 96) (r : WarnRun) (s : State) : (setWarnRun i r s).flt = s.flt := rfl
@[simp] theorem setWarnRun_cli (i : Fin 96) (r : WarnRun) (s : State) : (setWarnRun i r s).cli = s.cli := rfl
@[simp] theorem setWarnRun_wsp (i : Fin 96) (r : WarnRun) (s : State) : (setWarnRun i r s).wsp = s.wsp := rfl
@[simp] theorem setWarnRun_inFlight (i : Fin 96) (r : WarnRun) (s : State) :
    (setWarnRun i r s).inFlight = s.inFlight := rfl
@[simp] theorem setWarnRun_pending (i : Fin 96) (r : WarnRun) (s : State) :
    (setWarnRun i r s).pending = s.pending := rfl

/-! ### setLine -/

@[simp] theorem setLine_now (l : Fin 48) (r : LineRun) (s : State) : (setLine l r s).now = s.now := rfl
@[simp] theorem setLine_freeCount (l : Fin 48) (r : LineRun) (s : State) :
    (setLine l r s).freeCount = s.freeCount := rfl
@[simp] theorem setLine_opState (l : Fin 48) (r : LineRun) (s : State) : (setLine l r s).opState = s.opState := rfl
@[simp] theorem setLine_sst (l : Fin 48) (r : LineRun) (s : State) : (setLine l r s).sst = s.sst := rfl
@[simp] theorem setLine_frp (l : Fin 48) (r : LineRun) (s : State) : (setLine l r s).frp = s.frp := rfl
@[simp] theorem setLine_lsc (l : Fin 48) (r : LineRun) (s : State) :
    (setLine l r s).lsc = { s.lsc with lines := s.lsc.lines.set l r } := rfl
@[simp] theorem setLine_sdu (l : Fin 48) (r : LineRun) (s : State) : (setLine l r s).sdu = s.sdu := rfl
@[simp] theorem setLine_gdr (l : Fin 48) (r : LineRun) (s : State) : (setLine l r s).gdr = s.gdr := rfl
@[simp] theorem setLine_wrn (l : Fin 48) (r : LineRun) (s : State) : (setLine l r s).wrn = s.wrn := rfl
@[simp] theorem setLine_chg (l : Fin 48) (r : LineRun) (s : State) : (setLine l r s).chg = s.chg := rfl
@[simp] theorem setLine_drm (l : Fin 48) (r : LineRun) (s : State) : (setLine l r s).drm = s.drm := rfl
@[simp] theorem setLine_flt (l : Fin 48) (r : LineRun) (s : State) : (setLine l r s).flt = s.flt := rfl
@[simp] theorem setLine_cli (l : Fin 48) (r : LineRun) (s : State) : (setLine l r s).cli = s.cli := rfl
@[simp] theorem setLine_wsp (l : Fin 48) (r : LineRun) (s : State) : (setLine l r s).wsp = s.wsp := rfl
@[simp] theorem setLine_inFlight (l : Fin 48) (r : LineRun) (s : State) : (setLine l r s).inFlight = s.inFlight := rfl
@[simp] theorem setLine_pending (l : Fin 48) (r : LineRun) (s : State) : (setLine l r s).pending = s.pending := rfl

/-! ### startPlay -/

@[simp] theorem startPlay_now (s : State) : (startPlay s).now = s.now := rfl
@[simp] theorem startPlay_freeCount (s : State) : (startPlay s).freeCount = s.freeCount := rfl
@[simp] theorem startPlay_opState (s : State) : (startPlay s).opState = s.opState := rfl
@[simp] theorem startPlay_sst (s : State) : (startPlay s).sst = s.sst := rfl
@[simp] theorem startPlay_frp (s : State) : (startPlay s).frp = s.frp := rfl
@[simp] theorem startPlay_lsc (s : State) :
    (startPlay s).lsc = { s.lsc with scanPos := 0, scanDue := some (s.now + slotTime s), passDue := none } := rfl
@[simp] theorem startPlay_sdu (s : State) : (startPlay s).sdu = s.sdu := rfl
@[simp] theorem startPlay_gdr (s : State) : (startPlay s).gdr = s.gdr := rfl
@[simp] theorem startPlay_wrn (s : State) : (startPlay s).wrn = s.wrn := rfl
@[simp] theorem startPlay_chg (s : State) : (startPlay s).chg = s.chg := rfl
@[simp] theorem startPlay_drm (s : State) : (startPlay s).drm = s.drm := rfl
@[simp] theorem startPlay_flt (s : State) : (startPlay s).flt = s.flt := rfl
@[simp] theorem startPlay_cli (s : State) : (startPlay s).cli = s.cli := rfl
@[simp] theorem startPlay_wsp (s : State) : (startPlay s).wsp = s.wsp := rfl
@[simp] theorem startPlay_inFlight (s : State) : (startPlay s).inFlight = s.inFlight := rfl
@[simp] theorem startPlay_pending (s : State) : (startPlay s).pending = s.pending := rfl

/-! ### setFrameRun -/

@[simp] theorem setFrameRun_now (i : Fin 64) (r : FrameRun) (s : State) : (setFrameRun i r s).now = s.now := rfl
@[simp] theorem setFrameRun_freeCount (i : Fin 64) (r : FrameRun) (s : State) :
    (setFrameRun i r s).freeCount = s.freeCount := rfl
@[simp] theorem setFrameRun_opState (i : Fin 64) (r : FrameRun) (s : State) :
    (setFrameRun i r s).opState = s.opState := rfl
@[simp] theorem setFrameRun_sst (i : Fin 64) (r : FrameRun) (s : State) : (setFrameRun i r s).sst = s.sst := rfl
@[simp] theorem setFrameRun_frp (i : Fin 64) (r : FrameRun) (s : State) :
    (setFrameRun i r s).frp = { s.frp with run := s.frp.run.set i r } := rfl
@[simp] theorem setFrameRun_lsc (i : Fin 64) (r : FrameRun) (s : State) : (setFrameRun i r s).lsc = s.lsc := rfl
@[simp] theorem setFrameRun_sdu (i : Fin 64) (r : FrameRun) (s : State) : (setFrameRun i r s).sdu = s.sdu := rfl
@[simp] theorem setFrameRun_gdr (i : Fin 64) (r : FrameRun) (s : State) : (setFrameRun i r s).gdr = s.gdr := rfl
@[simp] theorem setFrameRun_wrn (i : Fin 64) (r : FrameRun) (s : State) : (setFrameRun i r s).wrn = s.wrn := rfl
@[simp] theorem setFrameRun_chg (i : Fin 64) (r : FrameRun) (s : State) : (setFrameRun i r s).chg = s.chg := rfl
@[simp] theorem setFrameRun_drm (i : Fin 64) (r : FrameRun) (s : State) : (setFrameRun i r s).drm = s.drm := rfl
@[simp] theorem setFrameRun_flt (i : Fin 64) (r : FrameRun) (s : State) : (setFrameRun i r s).flt = s.flt := rfl
@[simp] theorem setFrameRun_cli (i : Fin 64) (r : FrameRun) (s : State) : (setFrameRun i r s).cli = s.cli := rfl
@[simp] theorem setFrameRun_wsp (i : Fin 64) (r : FrameRun) (s : State) : (setFrameRun i r s).wsp = s.wsp := rfl
@[simp] theorem setFrameRun_inFlight (i : Fin 64) (r : FrameRun) (s : State) :
    (setFrameRun i r s).inFlight = s.inFlight := rfl
@[simp] theorem setFrameRun_pending (i : Fin 64) (r : FrameRun) (s : State) :
    (setFrameRun i r s).pending = s.pending := rfl

/-! ### setLeafRun -/

@[simp] theorem setLeafRun_now (l : Fin 8) (r : LeafRun) (s : State) : (setLeafRun l r s).now = s.now := rfl
@[simp] theorem setLeafRun_freeCount (l : Fin 8) (r : LeafRun) (s : State) :
    (setLeafRun l r s).freeCount = s.freeCount := rfl
@[simp] theorem setLeafRun_opState (l : Fin 8) (r : LeafRun) (s : State) :
    (setLeafRun l r s).opState = s.opState := rfl
@[simp] theorem setLeafRun_sst (l : Fin 8) (r : LeafRun) (s : State) : (setLeafRun l r s).sst = s.sst := rfl
@[simp] theorem setLeafRun_frp (l : Fin 8) (r : LeafRun) (s : State) : (setLeafRun l r s).frp = s.frp := rfl
@[simp] theorem setLeafRun_lsc (l : Fin 8) (r : LeafRun) (s : State) : (setLeafRun l r s).lsc = s.lsc := rfl
@[simp] theorem setLeafRun_sdu (l : Fin 8) (r : LeafRun) (s : State) : (setLeafRun l r s).sdu = s.sdu := rfl
@[simp] theorem setLeafRun_gdr (l : Fin 8) (r : LeafRun) (s : State) : (setLeafRun l r s).gdr = s.gdr := rfl
@[simp] theorem setLeafRun_wrn (l : Fin 8) (r : LeafRun) (s : State) : (setLeafRun l r s).wrn = s.wrn := rfl
@[simp] theorem setLeafRun_chg (l : Fin 8) (r : LeafRun) (s : State) : (setLeafRun l r s).chg = s.chg := rfl
@[simp] theorem setLeafRun_drm (l : Fin 8) (r : LeafRun) (s : State) :
    (setLeafRun l r s).drm = { s.drm with leaves := s.drm.leaves.set l r } := rfl
@[simp] theorem setLeafRun_flt (l : Fin 8) (r : LeafRun) (s : State) : (setLeafRun l r s).flt = s.flt := rfl
@[simp] theorem setLeafRun_cli (l : Fin 8) (r : LeafRun) (s : State) : (setLeafRun l r s).cli = s.cli := rfl
@[simp] theorem setLeafRun_wsp (l : Fin 8) (r : LeafRun) (s : State) : (setLeafRun l r s).wsp = s.wsp := rfl
@[simp] theorem setLeafRun_inFlight (l : Fin 8) (r : LeafRun) (s : State) :
    (setLeafRun l r s).inFlight = s.inFlight := rfl
@[simp] theorem setLeafRun_pending (l : Fin 8) (r : LeafRun) (s : State) :
    (setLeafRun l r s).pending = s.pending := rfl

/-! ### setPortalRun -/

@[simp] theorem setPortalRun_now (p : Fin 4) (r : PortalRun) (s : State) : (setPortalRun p r s).now = s.now := rfl
@[simp] theorem setPortalRun_freeCount (p : Fin 4) (r : PortalRun) (s : State) :
    (setPortalRun p r s).freeCount = s.freeCount := rfl
@[simp] theorem setPortalRun_opState (p : Fin 4) (r : PortalRun) (s : State) :
    (setPortalRun p r s).opState = s.opState := rfl
@[simp] theorem setPortalRun_sst (p : Fin 4) (r : PortalRun) (s : State) : (setPortalRun p r s).sst = s.sst := rfl
@[simp] theorem setPortalRun_frp (p : Fin 4) (r : PortalRun) (s : State) : (setPortalRun p r s).frp = s.frp := rfl
@[simp] theorem setPortalRun_lsc (p : Fin 4) (r : PortalRun) (s : State) : (setPortalRun p r s).lsc = s.lsc := rfl
@[simp] theorem setPortalRun_sdu (p : Fin 4) (r : PortalRun) (s : State) : (setPortalRun p r s).sdu = s.sdu := rfl
@[simp] theorem setPortalRun_gdr (p : Fin 4) (r : PortalRun) (s : State) : (setPortalRun p r s).gdr = s.gdr := rfl
@[simp] theorem setPortalRun_wrn (p : Fin 4) (r : PortalRun) (s : State) : (setPortalRun p r s).wrn = s.wrn := rfl
@[simp] theorem setPortalRun_chg (p : Fin 4) (r : PortalRun) (s : State) : (setPortalRun p r s).chg = s.chg := rfl
@[simp] theorem setPortalRun_drm (p : Fin 4) (r : PortalRun) (s : State) :
    (setPortalRun p r s).drm = { s.drm with portals := s.drm.portals.set p r } := rfl
@[simp] theorem setPortalRun_flt (p : Fin 4) (r : PortalRun) (s : State) : (setPortalRun p r s).flt = s.flt := rfl
@[simp] theorem setPortalRun_cli (p : Fin 4) (r : PortalRun) (s : State) : (setPortalRun p r s).cli = s.cli := rfl
@[simp] theorem setPortalRun_wsp (p : Fin 4) (r : PortalRun) (s : State) : (setPortalRun p r s).wsp = s.wsp := rfl
@[simp] theorem setPortalRun_inFlight (p : Fin 4) (r : PortalRun) (s : State) :
    (setPortalRun p r s).inFlight = s.inFlight := rfl
@[simp] theorem setPortalRun_pending (p : Fin 4) (r : PortalRun) (s : State) :
    (setPortalRun p r s).pending = s.pending := rfl

/-! ### setRecords -/

@[simp] theorem setRecords_now (l : List FaultRecord) (s : State) : (setRecords l s).now = s.now := rfl
@[simp] theorem setRecords_freeCount (l : List FaultRecord) (s : State) :
    (setRecords l s).freeCount = s.freeCount := rfl
@[simp] theorem setRecords_opState (l : List FaultRecord) (s : State) : (setRecords l s).opState = s.opState := rfl
@[simp] theorem setRecords_sst (l : List FaultRecord) (s : State) : (setRecords l s).sst = s.sst := rfl
@[simp] theorem setRecords_frp (l : List FaultRecord) (s : State) : (setRecords l s).frp = s.frp := rfl
@[simp] theorem setRecords_lsc (l : List FaultRecord) (s : State) : (setRecords l s).lsc = s.lsc := rfl
@[simp] theorem setRecords_sdu (l : List FaultRecord) (s : State) : (setRecords l s).sdu = s.sdu := rfl
@[simp] theorem setRecords_gdr (l : List FaultRecord) (s : State) : (setRecords l s).gdr = s.gdr := rfl
@[simp] theorem setRecords_wrn (l : List FaultRecord) (s : State) : (setRecords l s).wrn = s.wrn := rfl
@[simp] theorem setRecords_chg (l : List FaultRecord) (s : State) : (setRecords l s).chg = s.chg := rfl
@[simp] theorem setRecords_drm (l : List FaultRecord) (s : State) : (setRecords l s).drm = s.drm := rfl
@[simp] theorem setRecords_flt (l : List FaultRecord) (s : State) :
    (setRecords l s).flt = { s.flt with records := l } := rfl
@[simp] theorem setRecords_cli (l : List FaultRecord) (s : State) : (setRecords l s).cli = s.cli := rfl
@[simp] theorem setRecords_wsp (l : List FaultRecord) (s : State) : (setRecords l s).wsp = s.wsp := rfl
@[simp] theorem setRecords_inFlight (l : List FaultRecord) (s : State) : (setRecords l s).inFlight = s.inFlight := rfl
@[simp] theorem setRecords_pending (l : List FaultRecord) (s : State) : (setRecords l s).pending = s.pending := rfl

/-! ### setGaugeRun -/

@[simp] theorem setGaugeRun_now (c : Fin 6) (r : GaugeRun) (s : State) : (setGaugeRun c r s).now = s.now := rfl
@[simp] theorem setGaugeRun_freeCount (c : Fin 6) (r : GaugeRun) (s : State) :
    (setGaugeRun c r s).freeCount = s.freeCount := rfl
@[simp] theorem setGaugeRun_opState (c : Fin 6) (r : GaugeRun) (s : State) :
    (setGaugeRun c r s).opState = s.opState := rfl
@[simp] theorem setGaugeRun_sst (c : Fin 6) (r : GaugeRun) (s : State) : (setGaugeRun c r s).sst = s.sst := rfl
@[simp] theorem setGaugeRun_frp (c : Fin 6) (r : GaugeRun) (s : State) : (setGaugeRun c r s).frp = s.frp := rfl
@[simp] theorem setGaugeRun_lsc (c : Fin 6) (r : GaugeRun) (s : State) : (setGaugeRun c r s).lsc = s.lsc := rfl
@[simp] theorem setGaugeRun_sdu (c : Fin 6) (r : GaugeRun) (s : State) : (setGaugeRun c r s).sdu = s.sdu := rfl
@[simp] theorem setGaugeRun_gdr (c : Fin 6) (r : GaugeRun) (s : State) :
    (setGaugeRun c r s).gdr = { s.gdr with run := s.gdr.run.set c r } := rfl
@[simp] theorem setGaugeRun_wrn (c : Fin 6) (r : GaugeRun) (s : State) : (setGaugeRun c r s).wrn = s.wrn := rfl
@[simp] theorem setGaugeRun_chg (c : Fin 6) (r : GaugeRun) (s : State) : (setGaugeRun c r s).chg = s.chg := rfl
@[simp] theorem setGaugeRun_drm (c : Fin 6) (r : GaugeRun) (s : State) : (setGaugeRun c r s).drm = s.drm := rfl
@[simp] theorem setGaugeRun_flt (c : Fin 6) (r : GaugeRun) (s : State) : (setGaugeRun c r s).flt = s.flt := rfl
@[simp] theorem setGaugeRun_cli (c : Fin 6) (r : GaugeRun) (s : State) : (setGaugeRun c r s).cli = s.cli := rfl
@[simp] theorem setGaugeRun_wsp (c : Fin 6) (r : GaugeRun) (s : State) : (setGaugeRun c r s).wsp = s.wsp := rfl
@[simp] theorem setGaugeRun_inFlight (c : Fin 6) (r : GaugeRun) (s : State) :
    (setGaugeRun c r s).inFlight = s.inFlight := rfl
@[simp] theorem setGaugeRun_pending (c : Fin 6) (r : GaugeRun) (s : State) :
    (setGaugeRun c r s).pending = s.pending := rfl

/-! ### setPhase -/

@[simp] theorem setPhase_now (ph : Option SweepPhase) (s : State) : (setPhase ph s).now = s.now := rfl
@[simp] theorem setPhase_freeCount (ph : Option SweepPhase) (s : State) :
    (setPhase ph s).freeCount = s.freeCount := rfl
@[simp] theorem setPhase_opState (ph : Option SweepPhase) (s : State) : (setPhase ph s).opState = s.opState := rfl
@[simp] theorem setPhase_sst (ph : Option SweepPhase) (s : State) : (setPhase ph s).sst = s.sst := rfl
@[simp] theorem setPhase_frp (ph : Option SweepPhase) (s : State) : (setPhase ph s).frp = s.frp := rfl
@[simp] theorem setPhase_lsc (ph : Option SweepPhase) (s : State) : (setPhase ph s).lsc = s.lsc := rfl
@[simp] theorem setPhase_sdu (ph : Option SweepPhase) (s : State) : (setPhase ph s).sdu = s.sdu := rfl
@[simp] theorem setPhase_gdr (ph : Option SweepPhase) (s : State) :
    (setPhase ph s).gdr = { s.gdr with sweepPhase := ph } := rfl
@[simp] theorem setPhase_wrn (ph : Option SweepPhase) (s : State) : (setPhase ph s).wrn = s.wrn := rfl
@[simp] theorem setPhase_chg (ph : Option SweepPhase) (s : State) : (setPhase ph s).chg = s.chg := rfl
@[simp] theorem setPhase_drm (ph : Option SweepPhase) (s : State) : (setPhase ph s).drm = s.drm := rfl
@[simp] theorem setPhase_flt (ph : Option SweepPhase) (s : State) : (setPhase ph s).flt = s.flt := rfl
@[simp] theorem setPhase_cli (ph : Option SweepPhase) (s : State) : (setPhase ph s).cli = s.cli := rfl
@[simp] theorem setPhase_wsp (ph : Option SweepPhase) (s : State) : (setPhase ph s).wsp = s.wsp := rfl
@[simp] theorem setPhase_inFlight (ph : Option SweepPhase) (s : State) : (setPhase ph s).inFlight = s.inFlight := rfl
@[simp] theorem setPhase_pending (ph : Option SweepPhase) (s : State) : (setPhase ph s).pending = s.pending := rfl

/-! ### endHoming -/

@[simp] theorem endHoming_now (s : State) : (endHoming s).now = s.now := rfl
@[simp] theorem endHoming_freeCount (s : State) : (endHoming s).freeCount = s.freeCount := rfl
@[simp] theorem endHoming_opState (s : State) : (endHoming s).opState = s.opState := rfl
@[simp] theorem endHoming_sst (s : State) : (endHoming s).sst = s.sst := rfl
@[simp] theorem endHoming_frp (s : State) : (endHoming s).frp = s.frp := rfl
@[simp] theorem endHoming_lsc (s : State) : (endHoming s).lsc = s.lsc := rfl
@[simp] theorem endHoming_sdu (s : State) : (endHoming s).sdu = s.sdu := rfl
@[simp] theorem endHoming_gdr (s : State) :
    (endHoming s).gdr = { s.gdr with homingDone := true, run := Vector.replicate 6 ⟨0, 0, 0, 0, none⟩ } := rfl
@[simp] theorem endHoming_wrn (s : State) : (endHoming s).wrn = s.wrn := rfl
@[simp] theorem endHoming_chg (s : State) : (endHoming s).chg = s.chg := rfl
@[simp] theorem endHoming_drm (s : State) : (endHoming s).drm = s.drm := rfl
@[simp] theorem endHoming_flt (s : State) : (endHoming s).flt = s.flt := rfl
@[simp] theorem endHoming_cli (s : State) : (endHoming s).cli = s.cli := rfl
@[simp] theorem endHoming_wsp (s : State) : (endHoming s).wsp = s.wsp := rfl
@[simp] theorem endHoming_inFlight (s : State) : (endHoming s).inFlight = s.inFlight := rfl
@[simp] theorem endHoming_pending (s : State) : (endHoming s).pending = s.pending := rfl

/-! ### startTest -/

@[simp] theorem startTest_now (t : OutputTest) (s : State) : (startTest t s).now = s.now := rfl
@[simp] theorem startTest_freeCount (t : OutputTest) (s : State) : (startTest t s).freeCount = s.freeCount := rfl
@[simp] theorem startTest_opState (t : OutputTest) (s : State) : (startTest t s).opState = s.opState := rfl
@[simp] theorem startTest_sst (t : OutputTest) (s : State) : (startTest t s).sst = s.sst := rfl
@[simp] theorem startTest_frp (t : OutputTest) (s : State) : (startTest t s).frp = s.frp := rfl
@[simp] theorem startTest_lsc (t : OutputTest) (s : State) : (startTest t s).lsc = s.lsc := rfl
@[simp] theorem startTest_sdu (t : OutputTest) (s : State) : (startTest t s).sdu = s.sdu := rfl
@[simp] theorem startTest_gdr (t : OutputTest) (s : State) : (startTest t s).gdr = s.gdr := rfl
@[simp] theorem startTest_wrn (t : OutputTest) (s : State) : (startTest t s).wrn = s.wrn := rfl
@[simp] theorem startTest_chg (t : OutputTest) (s : State) : (startTest t s).chg = s.chg := rfl
@[simp] theorem startTest_drm (t : OutputTest) (s : State) : (startTest t s).drm = s.drm := rfl
@[simp] theorem startTest_flt (t : OutputTest) (s : State) : (startTest t s).flt = s.flt := rfl
@[simp] theorem startTest_cli (t : OutputTest) (s : State) : (startTest t s).cli = s.cli := rfl
@[simp] theorem startTest_wsp (t : OutputTest) (s : State) :
    (startTest t s).wsp = { s.wsp with test := some t, testDue := some (dueIn 10000 s) } := rfl
@[simp] theorem startTest_inFlight (t : OutputTest) (s : State) : (startTest t s).inFlight = s.inFlight := rfl
@[simp] theorem startTest_pending (t : OutputTest) (s : State) : (startTest t s).pending = s.pending := rfl

/-! ### countSent -/

@[simp] theorem countSent_now (s : State) : (countSent s).now = s.now := rfl
@[simp] theorem countSent_freeCount (s : State) : (countSent s).freeCount = s.freeCount := rfl
@[simp] theorem countSent_opState (s : State) : (countSent s).opState = s.opState := rfl
@[simp] theorem countSent_sst (s : State) : (countSent s).sst = s.sst := rfl
@[simp] theorem countSent_frp (s : State) : (countSent s).frp = s.frp := rfl
@[simp] theorem countSent_lsc (s : State) : (countSent s).lsc = s.lsc := rfl
@[simp] theorem countSent_sdu (s : State) : (countSent s).sdu = s.sdu := rfl
@[simp] theorem countSent_gdr (s : State) : (countSent s).gdr = s.gdr := rfl
@[simp] theorem countSent_wrn (s : State) : (countSent s).wrn = s.wrn := rfl
@[simp] theorem countSent_chg (s : State) : (countSent s).chg = s.chg := rfl
@[simp] theorem countSent_drm (s : State) : (countSent s).drm = s.drm := rfl
@[simp] theorem countSent_flt (s : State) : (countSent s).flt = s.flt := rfl
@[simp] theorem countSent_cli (s : State) : (countSent s).cli = s.cli := rfl
@[simp] theorem countSent_wsp (s : State) : (countSent s).wsp = { s.wsp with txErrors := s.wsp.txErrors - 1 } := rfl
@[simp] theorem countSent_inFlight (s : State) : (countSent s).inFlight = s.inFlight := rfl
@[simp] theorem countSent_pending (s : State) : (countSent s).pending = s.pending := rfl

/-! ### applyWsSettings -/

@[simp] theorem applyWsSettings_now (s : State) : (applyWsSettings s).now = s.now := rfl
@[simp] theorem applyWsSettings_freeCount (s : State) : (applyWsSettings s).freeCount = s.freeCount := rfl
@[simp] theorem applyWsSettings_opState (s : State) : (applyWsSettings s).opState = s.opState := rfl
@[simp] theorem applyWsSettings_sst (s : State) : (applyWsSettings s).sst = s.sst := rfl
@[simp] theorem applyWsSettings_frp (s : State) : (applyWsSettings s).frp = s.frp := rfl
@[simp] theorem applyWsSettings_lsc (s : State) : (applyWsSettings s).lsc = s.lsc := rfl
@[simp] theorem applyWsSettings_sdu (s : State) : (applyWsSettings s).sdu = s.sdu := rfl
@[simp] theorem applyWsSettings_gdr (s : State) : (applyWsSettings s).gdr = s.gdr := rfl
@[simp] theorem applyWsSettings_wrn (s : State) : (applyWsSettings s).wrn = s.wrn := rfl
@[simp] theorem applyWsSettings_chg (s : State) : (applyWsSettings s).chg = s.chg := rfl
@[simp] theorem applyWsSettings_drm (s : State) : (applyWsSettings s).drm = s.drm := rfl
@[simp] theorem applyWsSettings_flt (s : State) : (applyWsSettings s).flt = s.flt := rfl
@[simp] theorem applyWsSettings_cli (s : State) : (applyWsSettings s).cli = s.cli := rfl
@[simp] theorem applyWsSettings_inFlight (s : State) : (applyWsSettings s).inFlight = s.inFlight := rfl
@[simp] theorem applyWsSettings_pending (s : State) : (applyWsSettings s).pending = s.pending := rfl

/-! ### dropSweepReport -/

@[simp] theorem dropSweepReport_now (s : State) : (dropSweepReport s).now = s.now := rfl
@[simp] theorem dropSweepReport_freeCount (s : State) : (dropSweepReport s).freeCount = s.freeCount := rfl
@[simp] theorem dropSweepReport_opState (s : State) : (dropSweepReport s).opState = s.opState := rfl
@[simp] theorem dropSweepReport_sst (s : State) : (dropSweepReport s).sst = s.sst := rfl
@[simp] theorem dropSweepReport_frp (s : State) : (dropSweepReport s).frp = s.frp := rfl
@[simp] theorem dropSweepReport_lsc (s : State) : (dropSweepReport s).lsc = s.lsc := rfl
@[simp] theorem dropSweepReport_sdu (s : State) : (dropSweepReport s).sdu = s.sdu := rfl
@[simp] theorem dropSweepReport_gdr (s : State) : (dropSweepReport s).gdr = s.gdr := rfl
@[simp] theorem dropSweepReport_wrn (s : State) : (dropSweepReport s).wrn = s.wrn := rfl
@[simp] theorem dropSweepReport_chg (s : State) : (dropSweepReport s).chg = s.chg := rfl
@[simp] theorem dropSweepReport_drm (s : State) : (dropSweepReport s).drm = s.drm := rfl
@[simp] theorem dropSweepReport_flt (s : State) : (dropSweepReport s).flt = s.flt := rfl
@[simp] theorem dropSweepReport_cli (s : State) : (dropSweepReport s).cli = s.cli := rfl
@[simp] theorem dropSweepReport_wsp (s : State) : (dropSweepReport s).wsp = s.wsp := rfl
@[simp] theorem dropSweepReport_inFlight (s : State) :
    (dropSweepReport s).inFlight = s.inFlight.filter fun c => c ≠ .sweepComplete := rfl
@[simp] theorem dropSweepReport_pending (s : State) : (dropSweepReport s).pending = s.pending := rfl

/-! ### emptyQueues -/

@[simp] theorem emptyQueues_now (s : State) : (emptyQueues s).now = s.now := rfl
@[simp] theorem emptyQueues_freeCount (s : State) : (emptyQueues s).freeCount = s.freeCount := rfl
@[simp] theorem emptyQueues_opState (s : State) : (emptyQueues s).opState = s.opState := rfl
@[simp] theorem emptyQueues_sst (s : State) : (emptyQueues s).sst = s.sst := rfl
@[simp] theorem emptyQueues_frp (s : State) : (emptyQueues s).frp = s.frp := rfl
@[simp] theorem emptyQueues_lsc (s : State) : (emptyQueues s).lsc = s.lsc := rfl
@[simp] theorem emptyQueues_sdu (s : State) : (emptyQueues s).sdu = s.sdu := rfl
@[simp] theorem emptyQueues_gdr (s : State) : (emptyQueues s).gdr = s.gdr := rfl
@[simp] theorem emptyQueues_wrn (s : State) : (emptyQueues s).wrn = s.wrn := rfl
@[simp] theorem emptyQueues_chg (s : State) : (emptyQueues s).chg = s.chg := rfl
@[simp] theorem emptyQueues_drm (s : State) : (emptyQueues s).drm = s.drm := rfl
@[simp] theorem emptyQueues_flt (s : State) : (emptyQueues s).flt = s.flt := rfl
@[simp] theorem emptyQueues_cli (s : State) :
    (emptyQueues s).cli = { s.cli with events := [], overrun := false, updates := [], reports := Vector.replicate 256 ⟨none, s.now⟩ } := rfl
@[simp] theorem emptyQueues_wsp (s : State) : (emptyQueues s).wsp = s.wsp := rfl
@[simp] theorem emptyQueues_inFlight (s : State) : (emptyQueues s).inFlight = s.inFlight := rfl
@[simp] theorem emptyQueues_pending (s : State) : (emptyQueues s).pending = s.pending := rfl

/-! ### setRx -/

@[simp] theorem setRx_now (rx : Receiver) (s : State) : (setRx rx s).now = s.now := rfl
@[simp] theorem setRx_freeCount (rx : Receiver) (s : State) : (setRx rx s).freeCount = s.freeCount := rfl
@[simp] theorem setRx_opState (rx : Receiver) (s : State) : (setRx rx s).opState = s.opState := rfl
@[simp] theorem setRx_sst (rx : Receiver) (s : State) : (setRx rx s).sst = s.sst := rfl
@[simp] theorem setRx_frp (rx : Receiver) (s : State) : (setRx rx s).frp = s.frp := rfl
@[simp] theorem setRx_lsc (rx : Receiver) (s : State) : (setRx rx s).lsc = s.lsc := rfl
@[simp] theorem setRx_sdu (rx : Receiver) (s : State) : (setRx rx s).sdu = s.sdu := rfl
@[simp] theorem setRx_gdr (rx : Receiver) (s : State) : (setRx rx s).gdr = s.gdr := rfl
@[simp] theorem setRx_wrn (rx : Receiver) (s : State) : (setRx rx s).wrn = s.wrn := rfl
@[simp] theorem setRx_chg (rx : Receiver) (s : State) : (setRx rx s).chg = s.chg := rfl
@[simp] theorem setRx_drm (rx : Receiver) (s : State) : (setRx rx s).drm = s.drm := rfl
@[simp] theorem setRx_flt (rx : Receiver) (s : State) : (setRx rx s).flt = s.flt := rfl
@[simp] theorem setRx_cli (rx : Receiver) (s : State) : (setRx rx s).cli = { s.cli with rx := rx } := rfl
@[simp] theorem setRx_wsp (rx : Receiver) (s : State) : (setRx rx s).wsp = s.wsp := rfl
@[simp] theorem setRx_inFlight (rx : Receiver) (s : State) : (setRx rx s).inFlight = s.inFlight := rfl
@[simp] theorem setRx_pending (rx : Receiver) (s : State) : (setRx rx s).pending = s.pending := rfl

/-! ### startParkDelay -/

@[simp] theorem startParkDelay_now (s : State) : (startParkDelay s).now = s.now := rfl
@[simp] theorem startParkDelay_freeCount (s : State) : (startParkDelay s).freeCount = s.freeCount := rfl
@[simp] theorem startParkDelay_opState (s : State) : (startParkDelay s).opState = s.opState := rfl
@[simp] theorem startParkDelay_sst (s : State) : (startParkDelay s).sst = s.sst := rfl
@[simp] theorem startParkDelay_frp (s : State) : (startParkDelay s).frp = s.frp := rfl
@[simp] theorem startParkDelay_lsc (s : State) : (startParkDelay s).lsc = s.lsc := rfl
@[simp] theorem startParkDelay_sdu (s : State) : (startParkDelay s).sdu = s.sdu := rfl
@[simp] theorem startParkDelay_gdr (s : State) : (startParkDelay s).gdr = s.gdr := rfl
@[simp] theorem startParkDelay_wrn (s : State) : (startParkDelay s).wrn = s.wrn := rfl
@[simp] theorem startParkDelay_chg (s : State) : (startParkDelay s).chg = s.chg := rfl
@[simp] theorem startParkDelay_drm (s : State) : (startParkDelay s).drm = s.drm := rfl
@[simp] theorem startParkDelay_flt (s : State) : (startParkDelay s).flt = s.flt := rfl
@[simp] theorem startParkDelay_cli (s : State) :
    (startParkDelay s).cli = { s.cli with parkDue := some (dueIn (1000 * (linkOf s).parkDelay) s) } := rfl
@[simp] theorem startParkDelay_wsp (s : State) : (startParkDelay s).wsp = s.wsp := rfl
@[simp] theorem startParkDelay_inFlight (s : State) : (startParkDelay s).inFlight = s.inFlight := rfl
@[simp] theorem startParkDelay_pending (s : State) : (startParkDelay s).pending = s.pending := rfl

/-! ### tick -/

@[simp] theorem tick_now (s : State) : (tick s).now = s.now + 1 := rfl
@[simp] theorem tick_freeCount (s : State) : (tick s).freeCount = s.freeCount := rfl
@[simp] theorem tick_opState (s : State) : (tick s).opState = s.opState := rfl
@[simp] theorem tick_sst (s : State) : (tick s).sst = s.sst := rfl
@[simp] theorem tick_frp (s : State) : (tick s).frp = s.frp := rfl
@[simp] theorem tick_lsc (s : State) : (tick s).lsc = s.lsc := rfl
@[simp] theorem tick_sdu (s : State) : (tick s).sdu = s.sdu := rfl
@[simp] theorem tick_gdr (s : State) : (tick s).gdr = s.gdr := rfl
@[simp] theorem tick_wrn (s : State) : (tick s).wrn = s.wrn := rfl
@[simp] theorem tick_chg (s : State) : (tick s).chg = s.chg := rfl
@[simp] theorem tick_drm (s : State) : (tick s).drm = s.drm := rfl
@[simp] theorem tick_flt (s : State) : (tick s).flt = s.flt := rfl
@[simp] theorem tick_cli (s : State) : (tick s).cli = s.cli := rfl
@[simp] theorem tick_wsp (s : State) : (tick s).wsp = s.wsp := rfl
@[simp] theorem tick_inFlight (s : State) : (tick s).inFlight = s.inFlight := rfl
@[simp] theorem tick_pending (s : State) : (tick s).pending = s.pending := rfl

/-! ### putInFront -/

@[simp] theorem putInFront_now (c : Instr) (s : State) : (putInFront c s).now = s.now := rfl
@[simp] theorem putInFront_freeCount (c : Instr) (s : State) : (putInFront c s).freeCount = s.freeCount + 1 := rfl
@[simp] theorem putInFront_opState (c : Instr) (s : State) : (putInFront c s).opState = s.opState := rfl
@[simp] theorem putInFront_sst (c : Instr) (s : State) : (putInFront c s).sst = s.sst := rfl
@[simp] theorem putInFront_frp (c : Instr) (s : State) : (putInFront c s).frp = s.frp := rfl
@[simp] theorem putInFront_lsc (c : Instr) (s : State) : (putInFront c s).lsc = s.lsc := rfl
@[simp] theorem putInFront_sdu (c : Instr) (s : State) : (putInFront c s).sdu = s.sdu := rfl
@[simp] theorem putInFront_gdr (c : Instr) (s : State) : (putInFront c s).gdr = s.gdr := rfl
@[simp] theorem putInFront_wrn (c : Instr) (s : State) : (putInFront c s).wrn = s.wrn := rfl
@[simp] theorem putInFront_chg (c : Instr) (s : State) : (putInFront c s).chg = s.chg := rfl
@[simp] theorem putInFront_drm (c : Instr) (s : State) : (putInFront c s).drm = s.drm := rfl
@[simp] theorem putInFront_flt (c : Instr) (s : State) : (putInFront c s).flt = s.flt := rfl
@[simp] theorem putInFront_cli (c : Instr) (s : State) : (putInFront c s).cli = s.cli := rfl
@[simp] theorem putInFront_wsp (c : Instr) (s : State) : (putInFront c s).wsp = s.wsp := rfl
@[simp] theorem putInFront_inFlight (c : Instr) (s : State) : (putInFront c s).inFlight = s.inFlight := rfl
@[simp] theorem putInFront_pending (c : Instr) (s : State) : (putInFront c s).pending = [c] := rfl

end Sys2Proof.Machine
end

