-- ==== Sys2Proof/Laws/Frame.lean ====
section
/-! SUPPORT. The frame relation of `Safety.lean`: how frames compose, and the frame of every operation the blocks share.
A proof cites `<operation>_frame` and takes the one piece it needs from it. -/

namespace Sys2Proof.Machine

/-! ### The relation -/

/-- Events on events: the second part of a queue's growth. -/
theorem Queued.append {es fs : List Event} {s t u : State} (h : Queued es s t) (k : Queued fs t u) :
    Queued (es ++ fs) s u := by
  obtain ⟨h1, h2⟩ := h
  obtain ⟨k1, k2⟩ := k
  have hl : t.cli.events.length = s.cli.events.length + min (64 - s.cli.events.length) es.length := by
    rw [h1, List.length_append, List.length_take]
  constructor
  · rw [k1, h1, List.take_append, List.append_assoc]
    congr 3
    rw [← h1, hl]
    omega
  · rw [k2, h2, hl, List.length_append, Bool.or_assoc]
    congr 1
    rw [Bool.eq_iff_iff]
    simp only [Bool.or_eq_true, decide_eq_true_eq]
    omega

theorem Queued.nil (s : State) : Queued [] s s := by simp [Queued]

/-- An update of the state that leaves the sending side's fields alone. -/
@[simp] theorem OnlyQueues.of_same {s t : State} (h1 : t.cli.tx = s.cli.tx) (h2 : t.cli.lrdy = s.cli.lrdy)
    (h3 : t.cli.responses = s.cli.responses) (h4 : t.cli.events = s.cli.events)
    (h5 : t.cli.overrun = s.cli.overrun) : OnlyQueues s t :=
  ⟨fun _ => ⟨h1, h2, h3, [], by simp [Queued, h4, h5]⟩⟩

/-- Nothing is said of a part that can start a record. -/
theorem OnlyQueues.of_free {s : State} (h : sendingHeld s = false) (t : State) : OnlyQueues s t :=
  ⟨fun k => by simp [h] at k⟩

theorem OnlyQueues.held {s t : State} (h : OnlyQueues s t) (k : sendingHeld s = true) : sendingHeld t = true := by
  obtain ⟨h1, h2, -⟩ := h.grows k
  simpa [sendingHeld, h1, h2] using k

theorem OnlyQueues.trans {s t u : State} (h : OnlyQueues s t) (k : OnlyQueues t u) : OnlyQueues s u := by
  refine ⟨fun x => ?_⟩
  obtain ⟨h1, h2, h3, es, h4⟩ := h.grows x
  obtain ⟨k1, k2, k3, fs, k4⟩ := k.grows (h.held x)
  exact ⟨k1.trans h1, k2.trans h2, k3.trans h3, es ++ fs, h4.append k4⟩

theorem Piece.kept_refl (p : Piece) (s : State) : p.kept s s := by
  cases p <;> first | exact OnlyQueues.of_same rfl rfl rfl rfl rfl | simp [Piece.kept]

theorem Piece.kept_trans {p : Piece} {s t u : State} (h : p.kept s t) (k : p.kept t u) : p.kept s u := by
  cases p <;> simp only [Piece.kept] at * <;> first
    | exact k.trans h
    | exact h.trans k
    | exact ⟨k.1.trans h.1, k.2.trans h.2⟩
    | exact ⟨k.1.trans h.1, k.2.1.trans h.2.1, k.2.2.trans h.2.2⟩
    | exact ⟨k.1.trans h.1, k.2.1.trans h.2.1, k.2.2.1.trans h.2.2.1, k.2.2.2.trans h.2.2.2⟩
    | exact fun x => k (h x)

theorem ChangesOnly.refl (ps : List Piece) (s : State) : ChangesOnly ps s s := fun p _ => p.kept_refl s

theorem ChangesOnly.mono {ps qs : List Piece} {s t : State} (h : ChangesOnly ps s t) (k : ps ⊆ qs) :
    ChangesOnly qs s t := fun p hp => h p fun hq => hp (k hq)

theorem ChangesOnly.trans {ps : List Piece} {s t u : State} (h : ChangesOnly ps s t) (k : ChangesOnly ps t u) :
    ChangesOnly ps s u := fun p hp => Piece.kept_trans (h p hp) (k p hp)

/-- Two frames over different pieces, one after the other, within a third list. -/
theorem ChangesOnly.comp {ps qs rs : List Piece} {s t u : State} (h : ChangesOnly ps s t) (k : ChangesOnly qs t u)
    (hp : ps ⊆ rs) (hq : qs ⊆ rs) : ChangesOnly rs s u := (h.mono hp).trans (k.mono hq)

theorem ChangesOnly.foldl {α : Type} {ps : List Piece} {f : State → α → State}
    (h : ∀ s a, ChangesOnly ps s (f s a)) (l : List α) (s : State) : ChangesOnly ps s (l.foldl f s) := by
  induction l generalizing s with
  | nil => exact .refl ps s
  | cons a l ih => exact (h s a).trans (ih _)

/-- A change made only where a test holds. -/
theorem ChangesOnly.ite {ps : List Piece} {c : Prop} [Decidable c] {s t u : State} (h : c → ChangesOnly ps s t)
    (k : ¬c → ChangesOnly ps s u) : ChangesOnly ps s (if c then t else u) := by
  split
  · exact h ‹_›
  · exact k ‹_›

theorem ChangesOnly.elim {α : Type} {ps : List Piece} {s t : State} {f : α → State} (o : Option α)
    (h : ChangesOnly ps s t) (k : ∀ a, ChangesOnly ps s (f a)) : ChangesOnly ps s (o.elim t f) := by
  cases o
  · exact h
  · exact k _

/-! ### Plain updates -/

theorem bumpFree_frame (s : State) : ChangesOnly [.freeCount] s (bumpFree s) := by
  intro p hp
  cases p <;> first | exact OnlyQueues.of_same rfl rfl rfl rfl rfl | simp [Piece.kept] at hp ⊢

theorem post_frame (cs : List Instr) (s : State) : ChangesOnly [.inFlight] s (post cs s) := by
  intro p hp
  cases p <;> first | exact OnlyQueues.of_same rfl rfl rfl rfl rfl | simp [Piece.kept] at hp ⊢

theorem takeArrival_frame (c : Instr) (s : State) : ChangesOnly [.inFlight, .arrivals] s (takeArrival c s) := by
  intro p hp
  cases p <;> first | exact OnlyQueues.of_same rfl rfl rfl rfl rfl | simp [Piece.kept] at hp ⊢

theorem startRecord_frame (b : List Byte) (s : State) : ChangesOnly [.queues, .transmitter, .wake] s (startRecord b s) := by
  intro p hp
  cases p <;> first | exact OnlyQueues.of_same rfl rfl rfl rfl rfl | simp [Piece.kept] at hp ⊢

theorem assertWake_frame (s : State) : ChangesOnly [.wake] s (assertWake s) := by
  intro p hp
  cases p <;> first | exact OnlyQueues.of_same rfl rfl rfl rfl rfl | simp [Piece.kept] at hp ⊢

theorem silence_frame (s : State) : ChangesOnly [.playing] s (silence s) := by
  intro p hp
  cases p <;> first | exact OnlyQueues.of_same rfl rfl rfl rfl rfl | simp [Piece.kept] at hp ⊢

theorem startBurst_frame (r : ChimeRequest) (s : State) : ChangesOnly [.playing] s (startBurst r s) := by
  intro p hp
  cases p <;> first | exact OnlyQueues.of_same rfl rfl rfl rfl rfl | simp [Piece.kept, startBurst] at hp ⊢

theorem setHeld_frame (q : Fin 4) (b : Bool) (s : State) : ChangesOnly [.portals] s (setHeld q b s) := by
  intro p hp
  cases p <;> first | exact OnlyQueues.of_same rfl rfl rfl rfl rfl | simp [Piece.kept] at hp ⊢

theorem clearRequests_frame (s : State) : ChangesOnly [.requests, .playing] s (clearRequests s) := by
  intro p hp
  cases p <;> first | exact OnlyQueues.of_same rfl rfl rfl rfl rfl | simp [Piece.kept] at hp ⊢

theorem stopMeasurement_frame (s : State) : ChangesOnly [.measurement] s (stopMeasurement s) := by
  intro p hp
  cases p <;> first | exact OnlyQueues.of_same rfl rfl rfl rfl rfl | simp [Piece.kept] at hp ⊢

theorem awaitEdge_frame (s : State) : ChangesOnly [.measurement] s (awaitEdge s) := by
  intro p hp
  cases p <;> first | exact OnlyQueues.of_same rfl rfl rfl rfl rfl | simp [Piece.kept] at hp ⊢

theorem advancePlausibility_frame (s : State) : ChangesOnly [.plausibility] s (advancePlausibility s) := by
  intro p hp
  cases p <;> first | exact OnlyQueues.of_same rfl rfl rfl rfl rfl | simp [Piece.kept, advancePlausibility] at hp ⊢

theorem setWarnRun_frame (i : Fin 96) (r : WarnRun) (s : State) : ChangesOnly [.warnRuns] s (setWarnRun i r s) := by
  intro p hp
  cases p <;> first | exact OnlyQueues.of_same rfl rfl rfl rfl rfl | simp [Piece.kept] at hp ⊢

theorem renumber_frame (s : State) : ChangesOnly [.warnRuns, .warnList] s (renumber s) := by
  intro p hp
  cases p <;> first | exact OnlyQueues.of_same rfl rfl rfl rfl rfl | simp [Piece.kept, renumber] at hp ⊢

theorem setLine_frame (l : Fin 48) (r : LineRun) (s : State) : ChangesOnly [.lines] s (setLine l r s) := by
  intro p hp
  cases p <;> first | exact OnlyQueues.of_same rfl rfl rfl rfl rfl | simp [Piece.kept] at hp ⊢

theorem startPlay_frame (s : State) : ChangesOnly [.scanPlay] s (startPlay s) := by
  intro p hp
  cases p <;> first | exact OnlyQueues.of_same rfl rfl rfl rfl rfl | simp [Piece.kept] at hp ⊢

theorem goOnPass_frame (pos time : Nat) (s : State) : ChangesOnly [.scanPlay] s (goOnPass pos time s) := by
  intro p hp
  cases p <;> first | exact OnlyQueues.of_same rfl rfl rfl rfl rfl | simp [Piece.kept, goOnPass] at hp ⊢

theorem startPass_frame (time : Nat) (s : State) : ChangesOnly [.scanPlay] s (startPass time s) := by
  intro p hp
  cases p <;> first | exact OnlyQueues.of_same rfl rfl rfl rfl rfl | simp [Piece.kept, startPass, goOnPass] at hp ⊢

theorem setFrameRun_frame (i : Fin 64) (r : FrameRun) (s : State) : ChangesOnly [.frameRuns] s (setFrameRun i r s) := by
  intro p hp
  cases p <;> first | exact OnlyQueues.of_same rfl rfl rfl rfl rfl | simp [Piece.kept] at hp ⊢

theorem setLeafRun_frame (l : Fin 8) (r : LeafRun) (s : State) : ChangesOnly [.leaves] s (setLeafRun l r s) := by
  intro p hp
  cases p <;> first | exact OnlyQueues.of_same rfl rfl rfl rfl rfl | simp [Piece.kept] at hp ⊢

theorem setPortalRun_frame (q : Fin 4) (r : PortalRun) (s : State) : ChangesOnly [.portals] s (setPortalRun q r s) := by
  intro p hp
  cases p <;> first | exact OnlyQueues.of_same rfl rfl rfl rfl rfl | simp [Piece.kept] at hp ⊢

theorem setRecords_frame (l : List FaultRecord) (s : State) : ChangesOnly [.records] s (setRecords l s) := by
  intro p hp
  cases p <;> first | exact OnlyQueues.of_same rfl rfl rfl rfl rfl | simp [Piece.kept] at hp ⊢

theorem updateRecord_frame (c : FaultCode) (f : FaultRecord → FaultRecord) (s : State) : ChangesOnly [.records] s (updateRecord c f s) := by
  intro p hp
  cases p <;> first | exact OnlyQueues.of_same rfl rfl rfl rfl rfl | simp [Piece.kept, updateRecord] at hp ⊢

theorem setGaugeRun_frame (c : Fin 6) (r : GaugeRun) (s : State) : ChangesOnly [.gaugeRuns] s (setGaugeRun c r s) := by
  intro p hp
  cases p <;> first | exact OnlyQueues.of_same rfl rfl rfl rfl rfl | simp [Piece.kept] at hp ⊢

theorem setPhase_frame (ph : Option SweepPhase) (s : State) : ChangesOnly [.sweepPhase] s (setPhase ph s) := by
  intro p hp
  cases p <;> first | exact OnlyQueues.of_same rfl rfl rfl rfl rfl | simp [Piece.kept] at hp ⊢

theorem endHoming_frame (s : State) : ChangesOnly [.gaugeRuns, .homing] s (endHoming s) := by
  intro p hp
  cases p <;> first | exact OnlyQueues.of_same rfl rfl rfl rfl rfl | simp [Piece.kept] at hp ⊢

theorem gdrReset_frame (s : State) : ChangesOnly [.gaugeRuns, .sweepPhase] s (gdrReset s) := by
  intro p hp
  cases p <;> first | exact OnlyQueues.of_same rfl rfl rfl rfl rfl | simp [Piece.kept, gdrReset] at hp ⊢

theorem startTest_frame (t : OutputTest) (s : State) : ChangesOnly [.wsTest] s (startTest t s) := by
  intro p hp
  cases p <;> first | exact OnlyQueues.of_same rfl rfl rfl rfl rfl | simp [Piece.kept] at hp ⊢

theorem startResponse_frame (b : Byte) (r : Result) (l : List Byte) (s : State) : ChangesOnly [.wsResponse] s (startResponse b r l s) := by
  intro p hp
  cases p <;> first | exact OnlyQueues.of_same rfl rfl rfl rfl rfl | simp [Piece.kept, startResponse] at hp ⊢

theorem abandonAs_frame (b : Bool) (s : State) : ChangesOnly [.wsResponse] s (abandonAs b s) := by
  intro p hp
  cases p <;> first | exact OnlyQueues.of_same rfl rfl rfl rfl rfl | simp [Piece.kept, abandonAs] at hp ⊢

theorem countSent_frame (s : State) : ChangesOnly [.wsErrors] s (countSent s) := by
  intro p hp
  cases p <;> first | exact OnlyQueues.of_same rfl rfl rfl rfl rfl | simp [Piece.kept] at hp ⊢

theorem goBusOff_frame (s : State) : ChangesOnly [.wsErrors, .wsResponse] s (goBusOff s) := by
  intro p hp
  cases p <;> first | exact OnlyQueues.of_same rfl rfl rfl rfl rfl | simp [Piece.kept, goBusOff] at hp ⊢

theorem applyWsSettings_frame (s : State) : ChangesOnly [.wsSettings, .wsErrors] s (applyWsSettings s) := by
  intro p hp
  cases p <;> first | exact OnlyQueues.of_same rfl rfl rfl rfl rfl | simp [Piece.kept, applyWsSettings] at hp ⊢

theorem dropSweepReport_frame (s : State) : ChangesOnly [.inFlight, .arrivals] s (dropSweepReport s) := by
  intro p hp
  cases p <;> first | exact OnlyQueues.of_same rfl rfl rfl rfl rfl | simp [Piece.kept] at hp ⊢

theorem emptyQueues_frame (s : State) : ChangesOnly [.queues, .events, .updates] s (emptyQueues s) := by
  intro p hp
  cases p <;> first | exact OnlyQueues.of_same rfl rfl rfl rfl rfl | simp [Piece.kept] at hp ⊢

theorem setRx_frame (rx : Receiver) (s : State) : ChangesOnly [.receiver] s (setRx rx s) := by
  intro p hp
  cases p <;> first | exact OnlyQueues.of_same rfl rfl rfl rfl rfl | simp [Piece.kept] at hp ⊢

theorem startParkDelay_frame (s : State) : ChangesOnly [.parkDelay] s (startParkDelay s) := by
  intro p hp
  cases p <;> first | exact OnlyQueues.of_same rfl rfl rfl rfl rfl | simp [Piece.kept] at hp ⊢

theorem tick_frame (s : State) : ChangesOnly [.now] s (tick s) := by
  intro p hp
  cases p <;> first | exact OnlyQueues.of_same rfl rfl rfl rfl rfl | simp [Piece.kept] at hp ⊢

theorem putInFront_frame (c : Instr) (s : State) : ChangesOnly [.freeCount, .pending] s (putInFront c s) := by
  intro p hp
  cases p <;> first | exact OnlyQueues.of_same rfl rfl rfl rfl rfl | simp [Piece.kept] at hp ⊢

end Sys2Proof.Machine
end

