-- ==== Sys2Proof/Laws/Ops.lean ====
section
/-! SUPPORT. The shared operations of `Machine/Ops.lean`, each with one lemma for everything it can do and its frame:
slot writes, the transmitter, events, responses, updates. -/

namespace Sys2Proof.Machine

/-! ### Slots -/

theorem slot_eq {s t : State} (h : t.sst.slots = s.sst.slots) (i : Slot) : t.slot i = s.slot i := by
  simp [State.slot, h]

theorem signal_eq {s t : State} (h : t.sst.table = s.sst.table) (i : Slot) : t.signal i = s.signal i := by
  simp [State.signal, h]

theorem ChangesOnly.slot {ps : List Piece} {s t : State} (h : ChangesOnly ps s t) (k : Piece.slots ∉ ps) (i : Slot) :
    t.slot i = s.slot i := slot_eq (h .slots k) i

theorem ChangesOnly.signal {ps : List Piece} {s t : State} (h : ChangesOnly ps s t) (k : Piece.signalTable ∉ ps)
    (i : Slot) : t.signal i = s.signal i := signal_eq (h .signalTable k) i

/-- The effective read depends on the slots and the signal table alone (R13). -/
theorem effRead_eq {s t : State} (h : t.sst = s.sst) (i : Slot) : effRead i t = effRead i s := by
  have hs : ∀ j, t.slot j = s.slot j := slot_eq (congrArg Sst.slots h)
  have hf : fallbackOf i t = fallbackOf i s := by simp [fallbackOf, State.signal, h]
  simp only [effRead, hs, hf]

/-- The notifications a write makes: none when value and quality are as before (R10 to R12). -/
def noticesOf (i : Slot) (r : SlotRecord) (s : State) : List Instr :=
  if (s.slot i).value = r.value ∧ (s.slot i).quality = r.quality then []
  else
    let s' := { s with sst := { s.sst with slots := s.sst.slots.set i r } }
    useNotices i s' ++ ownNotices i s' ++ dependantNotices i (decide ((s.slot i).quality ≠ r.quality)) s'

/-- Everything `putRecord` does: one slot, and the notifications. -/
theorem putRecord_eq (i : Slot) (r : SlotRecord) (s : State) :
    putRecord i r s
      = { s with sst := { s.sst with slots := s.sst.slots.set i r }, inFlight := s.inFlight ++ noticesOf i r s } := by
  unfold putRecord noticesOf
  simp only
  split <;> simp [post]

theorem putRecord_slot (i j : Slot) (r : SlotRecord) (s : State) :
    (putRecord i r s).slot j = if j = i then r else s.slot j := by
  rw [putRecord_eq]
  simp only [State.slot, Fin.getElem_fin, Vector.getElem_set]
  split <;> rename_i h
  · simp [Fin.ext_iff, h]
  · simp [Fin.ext_iff, Ne.symm h]

theorem putRecord_frame (i : Slot) (r : SlotRecord) (s : State) : ChangesOnly writing s (putRecord i r s) := by
  rw [putRecord_eq]
  intro p hp
  cases p <;> simp [Piece.kept, writing] at hp ⊢

theorem valueWrite_frame (i : Slot) (v : Int) (q : Quality) (s : State) : ChangesOnly writing s (valueWrite i v q s) :=
  putRecord_frame _ _ _

theorem qualityWrite_frame (i : Slot) (q : Quality) (s : State) : ChangesOnly writing s (qualityWrite i q s) :=
  putRecord_frame _ _ _

theorem clearRecord_frame (i : Slot) (s : State) : ChangesOnly writing s (clearRecord i s) := putRecord_frame _ _ _

/-- The slots after a value write (R7, R8). -/
theorem valueWrite_slot (i j : Slot) (v : Int) (q : Quality) (s : State) :
    (valueWrite i v q s).slot j
      = if j = i then ⟨(clamped i v q s).1, (clamped i v q s).2, some s.now⟩ else s.slot j := putRecord_slot _ _ _ _

/-- The slots after a quality-only write (R7). -/
theorem qualityWrite_slot (i j : Slot) (q : Quality) (s : State) :
    (qualityWrite i q s).slot j = if j = i then ⟨(s.slot i).value, q, some s.now⟩ else s.slot j :=
  putRecord_slot _ _ _ _

/-- A value write to an internal slot stores the value as it is (R8). -/
theorem valueWrite_internal (i : Slot) (h : isInternal i = true) (v : Int) (q : Quality) (s : State) :
    (valueWrite i v q s).slot i = ⟨v, q, some s.now⟩ := by
  rw [valueWrite_slot, if_pos rfl]
  simp [clamped, h]

theorem valueWrite_other {i j : Slot} (h : j ≠ i) (v : Int) (q : Quality) (s : State) :
    (valueWrite i v q s).slot j = s.slot j := by
  rw [valueWrite_slot, if_neg h]

theorem qualityWrite_other {i j : Slot} (h : j ≠ i) (q : Quality) (s : State) :
    (qualityWrite i q s).slot j = s.slot j := by
  rw [qualityWrite_slot, if_neg h]

/-! ### The sending side of CL -/

/-- The transmitter does nothing while a record is being sent or LRDY is deasserted (R171). -/
theorem transmit_held {s : State} (h : sendingHeld s = true) : transmit s = s := by
  simp [transmit, show (s.cli.tx.isSome || !s.cli.lrdy) = true from h]

theorem transmit_frame (s : State) : ChangesOnly sending s (transmit s) := by
  unfold transmit
  split
  · exact .refl _ _
  · have free : sendingHeld s = false := by simp_all [sendingHeld]
    split
    · intro p hp
      cases p <;> first | exact OnlyQueues.of_free free _ | simp_all [Piece.kept, sending, startRecord]
    · split
      · intro p hp
        cases p <;> first | exact OnlyQueues.of_free free _ | simp_all [Piece.kept, sending, startRecord]
        omega
      · split
        · exact .refl _ _
        · intro p hp
          cases p <;> first | exact OnlyQueues.of_free free _ | simp_all [Piece.kept, sending, startRecord]
          exact fun h => h.erase _

theorem queueEvent_frame (e : Event) (s : State) : ChangesOnly sending s (queueEvent e s) := by
  refine ChangesOnly.trans ?_ (transmit_frame _)
  split
  · have one : Queued [e] s { s with cli := { s.cli with events := s.cli.events ++ [e] } } := by
      obtain ⟨n, hn⟩ : ∃ n, 64 - s.cli.events.length = n + 1 := ⟨63 - s.cli.events.length, by omega⟩
      simp [Queued, hn]
    intro p hp
    cases p <;> first | exact ⟨fun _ => ⟨rfl, rfl, rfl, [e], one⟩⟩ | simp_all [Piece.kept, sending]
  · rename_i h
    have one : Queued [e] s { s with cli := { s.cli with overrun := true } } := by
      have hn : 64 - s.cli.events.length = 0 := by omega
      simp [Queued, hn]
    intro p hp
    cases p <;> first | exact ⟨fun _ => ⟨rfl, rfl, rfl, [e], one⟩⟩ | simp_all [Piece.kept, sending]

/-- The transmitter with a response to send: it takes the oldest, if it is free (R171). -/
theorem transmit_response {s : State} {r : Response} {l : List Response} (h : s.cli.responses = r :: l) :
    transmit s = if sendingHeld s then s
      else startRecord r.bytes { s with cli := { s.cli with responses := l } } := by
  unfold transmit sendingHeld
  simp only [h]

/-- The list of responses is never empty after one has joined. -/
theorem snoc_cons (l : List Response) (r : Response) : ∃ a m, l ++ [r] = a :: m := by
  cases l
  · exact ⟨r, [], rfl⟩
  · exact ⟨_, _, rfl⟩

/-- Everything a response does to the part. -/
theorem respond_eq (k : Byte) (r : Result) (d : List Byte) (s : State) :
    respond k r d s
      = { s with cli := { s.cli with
          responses := if sendingHeld s then s.cli.responses ++ [Response.mk k r d false]
            else (s.cli.responses ++ [Response.mk k r d false]).tail
          tx := if sendingHeld s then s.cli.tx
            else (s.cli.responses ++ [Response.mk k r d false]).head?.map Response.bytes
          wake := s.cli.wake && sendingHeld s } } := by
  obtain ⟨a, m, h⟩ := snoc_cons s.cli.responses ⟨k, r, d, false⟩
  unfold respond
  rw [transmit_response (r := a) (l := m) h]
  rw [h]
  by_cases hs : sendingHeld s = true
  · simp [hs, show sendingHeld { s with cli := { s.cli with responses := a :: m } } = true from hs]
  · have hf : sendingHeld s = false := by simpa using hs
    simp [hf, show sendingHeld { s with cli := { s.cli with responses := a :: m } } = false from hf, startRecord]

/-- After a response the transmitter can take nothing more at that moment: it is busy, or LRDY is deasserted. -/
theorem respond_held (k : Byte) (r : Result) (d : List Byte) (s : State) :
    sendingHeld (respond k r d s) = true := by
  rw [respond_eq]
  obtain ⟨a, m, h⟩ := snoc_cons s.cli.responses ⟨k, r, d, false⟩
  rw [h]
  by_cases hs : sendingHeld s = true
  · show ((if sendingHeld s = true then s.cli.tx else _).isSome || !s.cli.lrdy) = true
    rw [if_pos hs]
    exact hs
  · show ((if sendingHeld s = true then s.cli.tx else _).isSome || !s.cli.lrdy) = true
    rw [if_neg hs]
    rfl

theorem respond_answered (k : Byte) (r : Result) (d : List Byte) (s : State) :
    Answered k r d s (respond k r d s) := by
  rw [respond_eq]
  unfold Answered
  simp only
  split <;> simp_all

theorem respond_frame (k : Byte) (r : Result) (d : List Byte) (s : State) :
    ChangesOnly answering s (respond k r d s) := by
  rw [respond_eq]
  intro p hp
  cases p <;> simp [Piece.kept, answering] at hp ⊢

theorem respondDiscard_frame (k : Byte) (s : State) : ChangesOnly answering s (respondDiscard k s) := by
  unfold respondDiscard
  split
  · exact .refl _ s
  · obtain ⟨a, m, h⟩ := snoc_cons s.cli.responses ⟨k, .format, [], true⟩
    rw [transmit_response (r := a) (l := m) (by simp [h])]
    split
    all_goals
      intro p hp
      cases p <;> simp [Piece.kept, answering] at hp ⊢

/-- An event while the transmitter can take nothing: it joins the queue, or is dropped (R172). -/
theorem queueEvent_held {s : State} (e : Event) (h : sendingHeld s = true) :
    queueEvent e s
      = if s.cli.events.length < 64 then { s with cli := { s.cli with events := s.cli.events ++ [e] } }
        else { s with cli := { s.cli with overrun := true } } := by
  unfold queueEvent
  apply transmit_held
  split <;> simpa [sendingHeld] using h

theorem joinUpdates_frame (i : Slot) (s : State) : ChangesOnly sending s (joinUpdates i s) := by
  unfold joinUpdates
  split
  · exact .refl _ _
  · refine ChangesOnly.trans ?_ (transmit_frame _)
    intro p hp
    cases p <;> simp_all [Piece.kept, sending]
    intro h
    exact List.nodup_append.mpr ⟨h, by simp, by
      rintro a ha b hb rfl
      simp_all⟩

end Sys2Proof.Machine
end

