-- ==== Sys2Proof/Laws/Blocks.lean ====
section
/-! SUPPORT. The frame of every operation of the blocks that write slots, events or arrivals: chime generator, speed
unit, line scanner, warning unit, frame path, door monitor and gauge drive. -/

namespace Sys2Proof.Machine

/-! ### Chime generator -/

theorem arbitrate_frame (s : State) : ChangesOnly [.playing] s (arbitrate s) := by
  unfold arbitrate
  split
  · exact silence_frame s
  · split
    · exact .refl _ s
    · exact startBurst_frame _ s

theorem removeRequest_frame (who : Requester) (s : State) :
    ChangesOnly [.requests, .playing] s (removeRequest who s) := by
  have h : ChangesOnly [.requests, .playing] s
      { s with chg := { s.chg with requests := s.chg.requests.filter fun r => r.who ≠ who } } := by
    intro p hp
    cases p <;> simp [Piece.kept] at hp ⊢
  unfold removeRequest
  simp only
  split
  · exact h.trans ((silence_frame _).mono (by decide))
  · exact h

theorem withdraw_frame (who : Requester) (s : State) : ChangesOnly [.requests, .playing] s (withdraw who s) := by
  unfold withdraw
  split
  · exact (removeRequest_frame who s).trans ((arbitrate_frame _).mono (by decide))
  · exact .refl _ s

theorem markHeld_frame (who : Requester) (b : Bool) (s : State) : ChangesOnly [.portals] s (markHeld who b s) := by
  cases who
  · exact .refl _ s
  · exact setHeld_frame _ b s
  · exact .refl _ s
  · exact .refl _ s

theorem place_frame (who : Requester) (pattern : Fin 8) (s : State) : ChangesOnly chiming s (place who pattern s) := by
  unfold place
  split
  · simp only
    refine ChangesOnly.trans ((removeRequest_frame who s).mono (by decide)) ?_
    refine ChangesOnly.trans ?_ ((markHeld_frame who true _).mono (by decide))
    refine ChangesOnly.trans ?_ ((arbitrate_frame _).mono (by decide))
    intro p hp
    cases p <;> simp [Piece.kept, chiming] at hp ⊢
  · exact (withdraw_frame who s).mono (by decide)

theorem finish_frame (s : State) (r : ChimeRequest) : ChangesOnly chiming s (finish s r) :=
  (removeRequest_frame r.who s).comp (markHeld_frame r.who false _) (by decide) (by decide)

theorem endBurst_frame (who : Requester) (s : State) : ChangesOnly chiming s (endBurst who s) := by
  unfold endBurst
  simp only
  refine ChangesOnly.trans ?_ ((arbitrate_frame _).mono (by decide))
  refine ChangesOnly.trans ?_ (ChangesOnly.foldl finish_frame _ _)
  intro p hp
  cases p <;> first | exact OnlyQueues.of_same rfl rfl rfl rfl rfl | simp [Piece.kept, chiming] at hp ⊢

theorem writePattern_frame (q : Fin 8) (e : PatternEntry) (s : State) :
    ChangesOnly (.patternTable :: chiming) s (writePattern q e s) := by
  have h : ChangesOnly (.patternTable :: chiming) s
      { s with chg := { s.chg with table := s.chg.table.set q (some e) } } := by
    intro p hp
    cases p <;> simp [Piece.kept, chiming] at hp ⊢
  unfold writePattern
  simp only
  split
  · exact h
  · refine h.trans (ChangesOnly.trans ?_ ((arbitrate_frame _).mono (by decide)))
    refine ChangesOnly.trans ?_ ((ChangesOnly.foldl finish_frame _ _).mono (by decide))
    split
    · exact (silence_frame _).mono (by decide)
    · exact .refl _ _

/-! ### Speed and distance unit -/

theorem closingTest_frame (s : State) : ChangesOnly (.calWindow :: sending) s (closingTest s) := by
  unfold closingTest
  split
  · refine ChangesOnly.trans ?_ ((queueEvent_frame _ _).mono (by decide))
    intro p hp
    cases p <;> simp [Piece.kept, sending] at hp ⊢
  · exact .refl _ s

theorem qualifyingTest_frame (s : State) : ChangesOnly writing s (qualifyingTest s) := by
  unfold qualifyingTest
  split
  · exact valueWrite_frame _ _ _ s
  · exact .refl _ s

theorem reform_frame (s : State) : ChangesOnly reforming s (reform s) :=
  ((valueWrite_frame _ _ _ s).mono (by decide)).trans
    (((closingTest_frame _).mono (by decide)).trans
      (((qualifyingTest_frame _).mono (by decide)).trans ((advancePlausibility_frame _).mono (by decide))))

theorem setImplausible_frame (b : Bool) (s : State) : ChangesOnly reforming s (setImplausible b s) := by
  unfold setImplausible
  split
  · exact .refl _ s
  · refine ChangesOnly.trans ?_ (reform_frame _)
    intro p hp
    cases p <;> simp [Piece.kept, reforming, writing, sending] at hp ⊢

theorem restWrites_frame (s : State) : ChangesOnly writing s (restWrites s) := by
  unfold restWrites
  simp only
  have h : ChangesOnly writing s
      (if (s.slot pulseSpeed).value ≠ 0 ∨ (restQuality s = .valid ∧ (s.slot pulseSpeed).quality ≠ .valid)
        then valueWrite pulseSpeed 0 .valid s else s) := by
    split
    · exact valueWrite_frame _ _ _ s
    · exact .refl _ s
  split
  · exact h
  · exact h.trans (qualityWrite_frame _ _ _)

theorem bringToRest_frame (s : State) : ChangesOnly reforming s (bringToRest s) := by
  unfold bringToRest
  split
  · exact .refl _ s
  · exact ((restWrites_frame s).mono (by decide)).trans (reform_frame _)

theorem setSenderFault_frame (b : Bool) (s : State) :
    ChangesOnly (.senderFault :: measuring) s (setSenderFault b s) := by
  unfold setSenderFault
  split
  · exact .refl _ s
  · simp only
    have h : ChangesOnly (.senderFault :: measuring) s { s with lsc := { s.lsc with senderFault := b } } := by
      intro p hp
      cases p <;> simp [Piece.kept] at hp ⊢
    refine h.trans ?_
    split
    · split
      · exact (stopMeasurement_frame _).comp (bringToRest_frame _) (by decide) (by decide)
      · split
        · exact (bringToRest_frame _).mono (by decide)
        · exact .refl _ _
    · split
      · exact (awaitEdge_frame _).comp (bringToRest_frame _) (by decide) (by decide)
      · exact (bringToRest_frame _).mono (by decide)

theorem takeStandstill_frame (s : State) : ChangesOnly measuring s (takeStandstill s) := by
  have h : ChangesOnly measuring s { s with sdu := { s.sdu with standFrom := none } } := by
    intro p hp
    cases p <;> simp [Piece.kept, measuring] at hp ⊢
  unfold takeStandstill
  simp only
  split
  · exact h.trans ((awaitEdge_frame _).comp (bringToRest_frame _) (by decide) (by decide))
  · exact h.trans ((bringToRest_frame _).mono (by decide))
  · exact h.trans ((bringToRest_frame _).mono (by decide))

theorem distanceStep_frame (s : State) : ChangesOnly (.odometerLoad :: writing) s (distanceStep s) := by
  unfold distanceStep
  simp only
  refine ChangesOnly.trans ?_
    (((valueWrite_frame _ _ _ _).trans (valueWrite_frame _ _ _ _)).mono (by decide))
  split
  · split
    · exact (valueWrite_frame _ _ _ s).mono (by decide)
    · exact .refl _ s
  · intro p hp
    cases p <;> simp [Piece.kept] at hp ⊢

theorem addDistance_frame (s : State) : ChangesOnly (.residue :: .odometerLoad :: writing) s (addDistance s) := by
  unfold addDistance
  simp only
  split
  · refine ChangesOnly.trans ?_ ((distanceStep_frame _).mono (by decide))
    intro p hp
    cases p <;> simp [Piece.kept] at hp ⊢
  · intro p hp
    cases p <;> simp [Piece.kept] at hp ⊢

theorem writeWindow_frame (v : Nat) (s : State) : ChangesOnly writing s (writeWindow v s) := by
  unfold writeWindow
  split <;> exact valueWrite_frame _ _ _ s

theorem measureEdge_frame (s : State) : ChangesOnly measuring s (measureEdge s) := by
  unfold measureEdge
  split
  · exact .refl _ s
  · intro p hp
    cases p <;> simp [Piece.kept, measuring] at hp ⊢
  · split
    · intro p hp
      cases p <;> simp [Piece.kept, measuring] at hp ⊢
    · refine ChangesOnly.trans ?_
        (((writeWindow_frame _ _).mono (by decide)).trans ((reform_frame _).mono (by decide)))
      intro p hp
      cases p <;> simp [Piece.kept, measuring] at hp ⊢

theorem acceptEdge_frame (s : State) :
    ChangesOnly (.residue :: .odometerLoad :: measuring) s (acceptEdge s) := by
  unfold acceptEdge
  simp only
  refine ChangesOnly.trans (t := { s with sdu := { s.sdu with filterRef := some s.now } }) ?_
    (ChangesOnly.trans ((addDistance_frame _).mono (by decide))
      (ChangesOnly.trans ((measureEdge_frame _).mono (by decide)) ?_))
  · intro p hp
    cases p <;> simp [Piece.kept, measuring] at hp ⊢
  · intro p hp
    cases p <;> simp [Piece.kept, measuring] at hp ⊢

theorem checkBound_frame (s : State) : ChangesOnly reforming s (checkBound s) := by
  unfold checkBound
  simp only
  split
  · exact ((valueWrite_frame _ _ _ s).mono (by decide)).trans (reform_frame _)
  · exact .refl _ s

theorem closeWindow_frame (s : State) : ChangesOnly (.calWindow :: sending) s (closeWindow s) := by
  unfold closeWindow
  split
  · refine ChangesOnly.trans ?_ ((queueEvent_frame _ _).mono (by decide))
    intro p hp
    cases p <;> simp [Piece.kept, sending] at hp ⊢
  · exact .refl _ s

theorem abandonWindow_frame (s : State) : ChangesOnly [.residue, .measurement] s (abandonWindow s) := by
  have h : ChangesOnly [.residue, .measurement] s { s with sdu := { s.sdu with residue := 0 } } := by
    intro p hp
    cases p <;> simp [Piece.kept] at hp ⊢
  unfold abandonWindow
  simp only
  split
  · exact h.trans ((awaitEdge_frame _).mono (by decide))
  · exact h
  · exact h

theorem actOnWrite_frame (g : List CalGroup) (b : Bool) (s : State) :
    ChangesOnly (.residue :: measuring) s (actOnWrite g b s) := by
  unfold actOnWrite
  simp only
  refine ChangesOnly.trans (t := if g.contains .measuring then abandonWindow s else s)
    (.ite (fun _ => (abandonWindow_frame s).mono (by decide)) fun _ => .refl _ s) ?_
  generalize (if g.contains .measuring then abandonWindow s else s) = s1
  refine ChangesOnly.trans (t := if g.contains .standstill && standstillDue s1 then takeStandstill s1 else s1)
    (.ite (fun _ => (takeStandstill_frame s1).mono (by decide)) fun _ => .refl _ s1) ?_
  generalize (if g.contains .standstill && standstillDue s1 then takeStandstill s1 else s1) = s2
  refine ChangesOnly.trans
    (t := if g.contains .plausibility then { s2 with sdu := { s2.sdu with plausFrom := none } } else s2)
    (.ite (fun _ => ?_) fun _ => .refl _ s2) ?_
  · intro p hp
    cases p <;> simp [Piece.kept, measuring, reforming] at hp ⊢
  · exact ChangesOnly.trans
      (.ite (fun _ => .refl _ _) fun _ => (restWrites_frame _).mono (by decide))
      ((reform_frame _).mono (by decide))

theorem writeCalibration_frame (e : CalEntry) (code : Nat) (o : Origin) (g : List CalGroup) (s : State) :
    ChangesOnly (.calibration :: .residue :: measuring) s (writeCalibration e code o g s) := by
  refine ChangesOnly.trans (t := { s with sdu := { s.sdu with cal := some e } }) ?_
    ((queueEvent_frame _ _).comp (actOnWrite_frame _ _ _) (by decide) (by decide))
  intro p hp
  cases p <;> simp [Piece.kept] at hp ⊢

theorem loadOdometer_frame (v : Nat) (s : State) :
    ChangesOnly (.residue :: .odometerLoad :: writing) s (loadOdometer v s) := by
  refine ChangesOnly.trans ?_ ((valueWrite_frame _ _ _ _).mono (by decide))
  intro p hp
  cases p <;> simp [Piece.kept] at hp ⊢

theorem sduEnterRun_frame (s : State) : ChangesOnly measuring s (sduEnterRun s) := by
  unfold sduEnterRun
  simp only
  refine ChangesOnly.trans (t := { s with sdu := { s.sdu with filterRef := none, plausFrom := none } }) ?_
    (ChangesOnly.trans (.ite (fun _ => (stopMeasurement_frame _).mono (by decide))
      fun _ => (awaitEdge_frame _).mono (by decide)) ((reform_frame _).mono (by decide)))
  intro p hp
  cases p <;> simp [Piece.kept, measuring, reforming] at hp ⊢

theorem endDriveCycle_frame (s : State) : ChangesOnly writing s (endDriveCycle s) := by
  unfold endDriveCycle
  simp only
  split
  · exact (valueWrite_frame _ _ _ s).trans ((post_frame _ _).mono (by decide))
  · exact valueWrite_frame _ _ _ s

theorem sduEnterParked_frame (s : State) : ChangesOnly measuring s (sduEnterParked s) := by
  refine ChangesOnly.trans (t := { s with sdu := { s.sdu with plausFrom := none } }) ?_
    (((stopMeasurement_frame _).mono (by decide)).trans (((restWrites_frame _).mono (by decide)).trans
      (((reform_frame _).mono (by decide)).trans ((endDriveCycle_frame _).mono (by decide)))))
  intro p hp
  cases p <;> simp [Piece.kept, measuring, reforming] at hp ⊢

theorem sduReset_frame (s : State) : ChangesOnly measuring s (sduReset s) := by
  unfold sduReset
  simp only
  refine ChangesOnly.trans ?_ ((valueWrite_frame _ _ _ _).mono (by decide))
  refine ChangesOnly.trans (t := { s with sdu := { s.sdu with
    filterRef := none, plausPresent := false, plausFrom := none, implausible := false } }) ?_ ?_
  · intro p hp
    cases p <;> simp [Piece.kept, measuring, reforming] at hp ⊢
  · split
    · exact ((stopMeasurement_frame _).mono (by decide)).trans
        (((valueWrite_frame _ _ _ _).trans ((valueWrite_frame _ _ _ _).trans
          ((qualityWrite_frame _ _ _).trans (valueWrite_frame _ _ _ _)))).mono (by decide))
    · exact ((stopMeasurement_frame _).mono (by decide)).trans
        (((valueWrite_frame _ _ _ _).trans (valueWrite_frame _ _ _ _)).mono (by decide))

/-! ### Line scanner -/

theorem writeSlots_frame (l : List Slot) (v : Int) (q : Quality) (s : State) :
    ChangesOnly writing s (writeSlots l v q s) := ChangesOnly.foldl (fun s i => valueWrite_frame i v q s) l s

theorem markSlots_frame (l : List Slot) (q : Quality) (s : State) : ChangesOnly writing s (markSlots l q s) :=
  ChangesOnly.foldl (fun s i => qualityWrite_frame i q s) l s

theorem writeCurveValue_frame (line : Fin 48) (e : LineEntry) (code : Nat) (s : State) :
    ChangesOnly (.lines :: writing) s (writeCurveValue line e code s) :=
  ((setLine_frame _ _ s).mono (by decide)).trans ((writeSlots_frame _ _ _ _).mono (by decide))

theorem writeSwitch_frame (line : Fin 48) (e : LineEntry) (b : Bool) (s : State) :
    ChangesOnly (.lines :: writing) s (writeSwitch line e b s) :=
  ((setLine_frame _ _ s).mono (by decide)).trans ((writeSlots_frame _ _ _ _).mono (by decide))

theorem actOnReading_frame (line : Fin 48) (e : LineEntry) (x : Reading) (code : Nat) (s : State) :
    ChangesOnly (.lines :: writing) s (actOnReading line e x code s) := by
  have fault : ChangesOnly (.lines :: writing) s
      (markSlots (lineSlots line s) .lineFault
        (post ((lineFault line s).toList.map fun (c, cls) => .faultConditionStart c cls) s)) :=
    ((post_frame _ s).mono (by decide)).trans ((markSlots_frame _ _ _).mono (by decide))
  cases x
  · exact fault
  · exact writeSwitch_frame _ _ _ _
  · exact writeSwitch_frame _ _ _ _
  · exact fault
  · exact fault
  · exact writeCurveValue_frame _ _ _ _
  · exact (writeSlots_frame _ _ _ _).mono (by decide)

theorem accept_frame (line : Fin 48) (e : LineEntry) (x : Reading) (code : Nat) (s : State) :
    ChangesOnly sampling s (accept line e x code s) := by
  unfold accept
  simp only
  have h : ChangesOnly sampling s (actOnReading line e x code
      (setLine line { s.lsc.lines[line] with accepted := some x, candidate := none }
        (post ((lineFault line s).toList.map fun (c, cls) => .faultConditionEnd c cls) s))) :=
    ((post_frame _ s).mono (by decide)).trans
      (((setLine_frame _ _ _).mono (by decide)).trans ((actOnReading_frame _ _ _ _ _).mono (by decide)))
  split
  · exact h.trans (setSenderFault_frame _ _ |>.mono (by decide))
  · exact h

theorem takeReading_frame (line : Fin 48) (e : LineEntry) (x : Reading) (code : Nat) (s : State) :
    ChangesOnly sampling s (takeReading line e x code s) := by
  unfold takeReading
  simp only
  split
  · split
    · exact ((setLine_frame _ _ s).mono (by decide)).trans ((writeCurveValue_frame _ _ _ _).mono (by decide))
    · exact (setLine_frame _ _ s).mono (by decide)
  · split
    · exact accept_frame _ _ _ _ s
    · split
      · exact accept_frame _ _ _ _ s
      · exact (setLine_frame _ _ s).mono (by decide)

theorem sampleLine_frame (line : Fin 48) (code : BitVec 10) (s : State) :
    ChangesOnly sampling s (sampleLine line code s) := by
  unfold sampleLine
  simp only
  split
  · exact (setLine_frame _ _ s).mono (by decide)
  · exact ((setLine_frame _ _ s).mono (by decide)).trans (takeReading_frame _ _ _ _ _)

theorem nextScanSlot_frame (time : Nat) (s : State) : ChangesOnly [.scanPlay] s (nextScanSlot time s) := by
  unfold nextScanSlot
  split
  · exact goOnPass_frame _ _ s
  · intro p hp
    cases p <;> simp [Piece.kept] at hp ⊢

theorem lscEnterRun_frame (b : Bool) (s : State) : ChangesOnly [.scanPlay, .inFlight] s (lscEnterRun b s) := by
  unfold lscEnterRun
  split
  · exact (startPlay_frame s).mono (by decide)
  · exact (post_frame _ s).mono (by decide)

theorem writeScan_frame (l : List (Fin 48)) (s : State) :
    ChangesOnly [.scanTable, .lines, .scanPlay] s (writeScan l s) := by
  refine ChangesOnly.trans ?_ ((startPlay_frame _).mono (by decide))
  intro p hp
  cases p <;> simp [Piece.kept] at hp ⊢

theorem writeLine_frame (line : Fin 48) (e : LineEntry) (s : State) :
    ChangesOnly (.lineTable :: sampling) s (writeLine line e s) := by
  have load (s : State) : ChangesOnly (.lineTable :: sampling) s
      { s with lsc := { s.lsc with table := s.lsc.table.set line (some e) } } := by
    intro p hp
    cases p <;> simp [Piece.kept] at hp ⊢
  exact ((post_frame _ s).mono (by decide)).trans (((setLine_frame _ _ _).mono (by decide)).trans
    ((load _).trans ((setSenderFault_frame _ _).mono (by decide))))

theorem writeCurve_frame (i : Fin 16) (c : Curve) (s : State) : ChangesOnly [.curves] s (writeCurve i c s) := by
  intro p hp
  cases p <;> simp [Piece.kept, writeCurve] at hp ⊢

theorem attachSlot_frame (i : Slot) (line : Fin 48) (s : State) : ChangesOnly writing s (attachSlot i line s) := by
  have held (r : LineRun) (s : State) :
      ChangesOnly writing s ((heldValue r).elim s fun v => valueWrite i v.1 v.2 s) :=
    .elim _ (.refl _ s) fun v => valueWrite_frame _ _ _ s
  unfold attachSlot
  simp only
  split
  · exact .refl _ s
  · split
    · exact .refl _ s
    · exact held _ s
    · exact held _ s
    · exact held _ s
    · exact valueWrite_frame _ _ _ s
    · exact (held _ s).trans (qualityWrite_frame _ _ _)
    · exact (held _ s).trans (qualityWrite_frame _ _ _)
    · exact (held _ s).trans (qualityWrite_frame _ _ _)

/-! ### Warning unit -/

theorem joinList_frame (i : Fin 96) (s : State) : ChangesOnly [.warnRuns, .warnList] s (joinList i s) := by
  have count (n : Nat) (s : State) : ChangesOnly [.warnRuns, .warnList] s
      { s with wrn := { s.wrn with joinCounter := n } } := by
    intro p hp
    cases p <;> simp [Piece.kept] at hp ⊢
  unfold joinList
  simp only
  split
  · exact ((setWarnRun_frame i _ s).mono (by decide)).trans (count _ _)
  · exact ((setWarnRun_frame i _ s).mono (by decide)).trans (renumber_frame _)

theorem writeLength_frame (n : Nat) (s : State) : ChangesOnly writing s (writeLength n s) := by
  unfold writeLength
  split
  · exact .refl _ s
  · exact valueWrite_frame _ _ _ s

theorem reportTop_frame (i : Fin 96) (s : State) : ChangesOnly (.warnList :: sending) s (reportTop i s) := by
  unfold reportTop
  split
  · exact .refl _ s
  · have h : ChangesOnly (.warnList :: sending) s { s with wrn := { s.wrn with reportedTop := topWarning s } } := by
      intro p hp
      cases p <;> simp [Piece.kept] at hp ⊢
    simp only
    split
    · exact h
    · split
      · exact h
      · exact h.trans ((queueEvent_frame _ _).mono (by decide))

theorem changeRun_frame (i : Fin 96) (r : WarnRun) (c : Option (Fin 8)) (b : Bool) (s : State) :
    ChangesOnly warning s (changeRun i r c b s) := by
  unfold changeRun
  simp only
  refine ChangesOnly.trans ?_ ((reportTop_frame _ _).mono (by decide))
  refine ChangesOnly.trans (t := post _ (writeLength _ _)) ?_
    (.ite (fun _ => (queueEvent_frame _ _).mono (by decide)) fun _ => .refl _ _)
  refine ChangesOnly.trans ?_ ((post_frame _ _).mono (by decide))
  refine ChangesOnly.trans ?_ ((writeLength_frame _ _).mono (by decide))
  refine ChangesOnly.trans ((setWarnRun_frame i r s).mono (by decide)) ?_
  split
  · exact (joinList_frame _ _).mono (by decide)
  · exact .refl _ _

theorem changeState_frame (i : Fin 96) (e : WarnEntry) (new : WarnState) (s : State) :
    ChangesOnly warning s (changeState i e new s) := by
  unfold changeState
  simp only
  split
  · exact .refl _ s
  · exact changeRun_frame _ _ _ _ s

theorem acknowledge_frame (i : Fin 96) (s : State) : ChangesOnly warning s (acknowledge i s) := by
  unfold acknowledge
  split
  · exact .refl _ s
  · split
    · exact changeState_frame _ _ _ s
    · exact .refl _ s

theorem evaluate_frame (b : Bool) (i : Fin 96) (s : State) : ChangesOnly warning s (evaluate b i s) := by
  have mark (s : State) (x : Bool) : ChangesOnly warning s (tellMark i x s) := by
    unfold tellMark
    split
    · exact .refl _ s
    · exact (queueEvent_frame _ _).mono (by decide)
  unfold evaluate
  split
  · exact .refl _ s
  · simp only
    split
    · split
      · exact ((setWarnRun_frame i _ s).mono (by decide)).trans (mark _ _)
      · exact ((setWarnRun_frame i _ s).mono (by decide)).trans ((mark _ _).trans (changeState_frame _ _ _ _))
    · exact (setWarnRun_frame i _ s).mono (by decide)

theorem evaluateWhere_frame (b : Bool) (test : WarnEntry → State → Bool) (s : State) :
    ChangesOnly warning s (evaluateWhere b test s) :=
  ChangesOnly.foldl (fun s i => .ite (fun _ => evaluate_frame b i s) fun _ => .refl _ s) _ s

theorem writeWarning_frame (i : Fin 96) (e : WarnEntry) (ev : Event) (s : State) :
    ChangesOnly (.warnTable :: warning) s (writeWarning i e ev s) := by
  have load (s : State) : ChangesOnly (.warnTable :: warning) s
      { s with wrn := { s.wrn with table := s.wrn.table.set i (some e) } } := by
    intro p hp
    cases p <;> simp [Piece.kept] at hp ⊢
  unfold writeWarning
  simp only
  split
  · exact ((setWarnRun_frame i _ s).mono (by decide)).trans (load _)
  · split
    all_goals
      refine ChangesOnly.trans ?_ ((evaluate_frame _ _ _).mono (by decide))
      refine ChangesOnly.trans ?_ ((queueEvent_frame _ _).mono (by decide))
    · exact (((changeRun_frame i _ _ _ s).mono (by decide)).trans (load _)).trans
        ((queueEvent_frame _ _).mono (by decide))
    · exact ((changeRun_frame i _ _ _ s).mono (by decide)).trans (load _)

theorem wrnEnterParked_frame (s : State) : ChangesOnly warning s (wrnEnterParked s) := by
  refine ChangesOnly.foldl (fun s i => ?_) _ s
  unfold parkEntry
  split
  · exact .refl _ s
  · split
    · exact .refl _ s
    · exact changeRun_frame _ _ _ _ s

theorem wrnReset_frame (s : State) : ChangesOnly warning s (wrnReset s) := by
  refine ChangesOnly.trans ?_ ((valueWrite_frame _ _ _ _).mono (by decide))
  refine ChangesOnly.trans ?_ ((post_frame _ _).mono (by decide))
  intro p hp
  cases p <;> simp [Piece.kept, warning] at hp ⊢

/-! ### Frame path -/

theorem putLengthFlag_frame (i : Fin 64) (b : Bool) (s : State) :
    ChangesOnly [.frameRuns, .inFlight] s (putLengthFlag i b s) := by
  unfold putLengthFlag
  split
  · exact .refl _ s
  · exact (setFrameRun_frame i _ s).comp (post_frame _ _) (by decide) (by decide)

theorem putSequenceFlag_frame (i : Fin 64) (b : Bool) (s : State) :
    ChangesOnly [.frameRuns, .inFlight] s (putSequenceFlag i b s) := by
  unfold putSequenceFlag
  split
  · exact .refl _ s
  · exact (setFrameRun_frame i _ s).comp (post_frame _ _) (by decide) (by decide)

theorem putTimeoutFlag_frame (i : Fin 64) (b : Bool) (s : State) :
    ChangesOnly [.frameRuns, .inFlight] s (putTimeoutFlag i b s) := by
  unfold putTimeoutFlag
  split
  · exact .refl _ s
  · exact (setFrameRun_frame i _ s).comp (post_frame _ _) (by decide) (by decide)

theorem putSenderFlag_frame (i : Fin 64) (k : Slot) (b : Bool) (s : State) :
    ChangesOnly [.senderFlags, .inFlight] s (putSenderFlag i k b s) := by
  have h : ChangesOnly [.senderFlags, .inFlight] s
      { s with frp := { s.frp with senderErr := s.frp.senderErr.set k b } } := by
    intro p hp
    cases p <;> simp [Piece.kept] at hp ⊢
  unfold putSenderFlag
  simp only
  split
  · exact h
  · exact h.trans ((post_frame _ _).mono (by decide))

theorem takeSignal_frame (i : Fin 64) (k : Slot) (e : SignalEntry) (data : List Byte) (s : State) :
    ChangesOnly (.senderFlags :: writing) s (takeSignal i k e data s) := by
  unfold takeSignal
  simp only
  split
  · exact (qualityWrite_frame _ _ s).mono (by decide)
  · split
    · exact (qualityWrite_frame _ _ s).comp (putSenderFlag_frame _ _ _ _) (by decide) (by decide)
    · exact (valueWrite_frame _ _ _ s).comp (putSenderFlag_frame _ _ _ _) (by decide) (by decide)

theorem extract_frame (i : Fin 64) (e : FrameEntry) (data : List Byte) (s : State) :
    ChangesOnly (.senderFlags :: writing) s (extract i e data s) := by
  refine ChangesOnly.foldl (fun s k => ?_) _ s
  split
  · split
    · exact takeSignal_frame _ _ _ _ s
    · exact .refl _ s
  · exact .refl _ s

theorem takeJump_frame (i : Fin 64) (c : BitVec 4) (s : State) :
    ChangesOnly [.frameRuns, .inFlight] s (takeJump i c s) := by
  unfold takeJump
  simp only
  split
  · exact ((setFrameRun_frame i _ s).mono (by decide)).trans (putSequenceFlag_frame _ _ _)
  · exact (setFrameRun_frame i _ s).mono (by decide)

theorem aliveCheck_frame (i : Fin 64) (e : FrameEntry) (data : List Byte) (s : State) :
    ChangesOnly [.frameRuns, .inFlight] s (aliveCheck i e data s).2 := by
  unfold aliveCheck
  split
  · exact .refl _ s
  · simp only
    split
    · exact (setFrameRun_frame i _ s).mono (by decide)
    · exact ((setFrameRun_frame i _ s).mono (by decide)).trans (putSequenceFlag_frame _ _ _)
    · exact .refl _ s
    · exact takeJump_frame _ _ s

theorem acceptFrame_frame (i : Fin 64) (e : FrameEntry) (data : List Byte) (s : State) :
    ChangesOnly framing s (acceptFrame i e data s) :=
  ((setFrameRun_frame i _ s).mono (by decide)).trans
    (((putTimeoutFlag_frame i false _).mono (by decide)).trans ((extract_frame i e data _).mono (by decide)))

theorem wakeFrame_frame (s : State) : ChangesOnly sending s (wakeFrame s) := by
  unfold wakeFrame
  split
  · exact .refl _ s
  · exact ((assertWake_frame s).mono (by decide)).trans (queueEvent_frame _ _)

theorem takeFrame_frame (i : Fin 64) (e : FrameEntry) (data : List Byte) (s : State) :
    ChangesOnly framing s (takeFrame i e data s) := by
  unfold takeFrame
  split
  · exact (putLengthFlag_frame _ _ s).mono (by decide)
  · refine ChangesOnly.trans ((putLengthFlag_frame i false s).mono (by decide)) ?_
    simp only
    split
    · exact (wakeFrame_frame _).mono (by decide)
    · split
      · exact ((aliveCheck_frame _ _ _ _).mono (by decide)).trans (acceptFrame_frame _ _ _ _)
      · exact (aliveCheck_frame _ _ _ _).mono (by decide)

theorem lapse_frame (i : Fin 64) (s : State) : ChangesOnly (.frameRuns :: writing) s (lapse i s) := by
  have stale (l : List Slot) : ChangesOnly (.frameRuns :: writing) s (l.foldl staleAtTimeout s) := by
    refine ChangesOnly.foldl (fun s k => ?_) _ s
    unfold staleAtTimeout
    split
    · exact .refl _ s
    · exact (qualityWrite_frame _ _ s).mono (by decide)
  unfold lapse
  simp only
  refine ChangesOnly.trans ?_ ((putTimeoutFlag_frame _ _ _).mono (by decide))
  split
  · exact (stale _).trans ((setFrameRun_frame _ _ _).mono (by decide))
  all_goals exact (setFrameRun_frame _ _ s).mono (by decide)

theorem dropSenderFlags_frame (l : List Slot) (s : State) : ChangesOnly [.senderFlags] s (dropSenderFlags l s) := by
  refine ChangesOnly.foldl (fun s k => ?_) l s
  intro p hp
  cases p <;> simp [Piece.kept] at hp ⊢

theorem writeFrame_frame (i : Fin 64) (e : FrameEntry) (s : State) :
    ChangesOnly [.frameTable, .frameRuns, .senderFlags] s (writeFrame i e s) := by
  have load (s : State) : ChangesOnly [.frameTable, .frameRuns, .senderFlags] s
      { s with frp := { s.frp with table := s.frp.table.set i (some e) } } := by
    intro p hp
    cases p <;> simp [Piece.kept] at hp ⊢
  exact ((dropSenderFlags_frame _ s).mono (by decide)).trans
    (((setFrameRun_frame _ _ _).mono (by decide)).trans (load _))

theorem leaveProducer_frame (k : Slot) (s : State) :
    ChangesOnly [.senderFlags, .inFlight] s (leaveProducer k s) := by
  unfold leaveProducer
  split
  · split
    · exact .elim _ (.refl _ s) fun i => putSenderFlag_frame _ _ _ s
    · exact .refl _ s
  · exact .refl _ s

theorem frpEnterRun_frame (s : State) : ChangesOnly [.frameRuns] s (frpEnterRun s) :=
  ChangesOnly.foldl (fun s _ => .elim _ (.refl _ s) fun _ => setFrameRun_frame _ _ s) _ s

theorem frpEnterParked_frame (s : State) : ChangesOnly (.frameRuns :: writing) s (frpEnterParked s) := by
  unfold frpEnterParked
  simp only
  refine ChangesOnly.trans (t := { s with frp := { s.frp with
    run := mapTable (fun r => { r with timer := .stopped }) s.frp.run } }) ?_
    (ChangesOnly.foldl (fun s k => ?_) _ _)
  · intro p hp
    cases p <;> simp [Piece.kept] at hp ⊢
  · unfold staleAtPark
    split
    · exact (qualityWrite_frame _ _ s).mono (by decide)
    · exact .refl _ s

theorem frpReset_frame (s : State) : ChangesOnly [.frameRuns, .senderFlags, .slots] s (frpReset s) := by
  unfold frpReset
  simp only
  refine ChangesOnly.trans (t := { s with frp := { s.frp with
    run := Vector.replicate 64 .reset, senderErr := Vector.replicate 256 false } }) ?_
    (ChangesOnly.foldl (fun s k => ?_) _ _)
  all_goals
    intro p hp
    cases p <;> simp [Piece.kept] at hp ⊢

/-! ### Door monitor -/

theorem doorEvent_frame (e : Event) (s : State) : ChangesOnly (.wake :: sending) s (doorEvent e s) := by
  unfold doorEvent
  refine ChangesOnly.trans ?_ ((queueEvent_frame _ _).mono (by decide))
  split
  · exact (assertWake_frame s).mono (by decide)
  · exact .refl _ s

theorem clearLatch_frame (source : Option (Fin 4)) (s : State) : ChangesOnly doors s (clearLatch source s) := by
  have drop (s : State) : ChangesOnly doors s
      { s with drm := { s.drm with
          latch := false, portals := mapTable (fun r => { r with requested := false }) s.drm.portals } } := by
    intro p hp
    cases p <;> simp [Piece.kept, doors] at hp ⊢
  unfold clearLatch
  split
  · exact ((valueWrite_frame _ _ _ s).mono (by decide)).trans
      ((drop _).trans ((doorEvent_frame _ _).mono (by decide)))
  · exact .refl _ s

theorem press_frame (q : Fin 4) (s : State) : ChangesOnly doors s (press q s) := by
  have raise (s : State) : ChangesOnly doors s { s with drm := { s.drm with latch := true } } := by
    intro p hp
    cases p <;> simp [Piece.kept, doors] at hp ⊢
  unfold press
  split
  · exact .refl _ s
  · exact ((setPortalRun_frame _ _ s).mono (by decide)).trans (((valueWrite_frame _ _ _ _).mono (by decide)).trans
      ((raise _).trans ((doorEvent_frame _ _).mono (by decide))))

theorem takeRequestReading_frame (q : Fin 4) (s : State) : ChangesOnly doors s (takeRequestReading q s) := by
  unfold takeRequestReading
  split
  · exact .refl _ s
  · simp only
    split
    · exact ((setPortalRun_frame _ _ s).mono (by decide)).trans (press_frame _ _)
    · exact (setPortalRun_frame _ _ s).mono (by decide)

theorem writeDoorSlots_frame (s : State) : ChangesOnly writing s (writeDoorSlots s) :=
  (valueWrite_frame _ _ _ s).trans (valueWrite_frame _ _ _ _)

theorem withdrawChime_frame (q : Fin 4) (s : State) : ChangesOnly [.portals, .inFlight] s (withdrawChime q s) := by
  unfold withdrawChime
  split
  · exact (setPortalRun_frame _ _ s).comp (post_frame _ _) (by decide) (by decide)
  · exact .refl _ s

theorem putPortal_frame (q : Fin 4) (st : PortalState) (b : Bool) (s : State) :
    ChangesOnly doors s (putPortal q st b s) := by
  unfold putPortal
  simp only
  split
  · exact .refl _ s
  · exact (setPortalRun_frame _ _ s).comp (doorEvent_frame _ _) (by decide) (by decide)

theorem reformPortal_frame (q : Fin 4) (s : State) : ChangesOnly doors s (reformPortal q s) := by
  unfold reformPortal
  split
  · have first := putPortal_frame q (formPortal q s) (formReleased q s) s
    have last (s : State) : ChangesOnly doors s (writeDoorSlots (withdrawChime q s)) :=
      ((withdrawChime_frame q s).mono (by decide)).trans ((writeDoorSlots_frame _).mono (by decide))
    simp only
    split
    · exact first.trans ((clearLatch_frame _ _).trans (last _))
    · exact first.trans (last _)
  · exact .refl _ s

theorem changeLeaf_frame (l : Fin 8) (new : LeafState) (s : State) : ChangesOnly doors s (changeLeaf l new s) :=
  ((doorEvent_frame _ s).mono (by decide)).trans
    (((setLeafRun_frame _ _ _).mono (by decide)).trans ((post_frame _ _).mono (by decide)))

theorem deriveLeaf_frame (l : Fin 8) (s : State) : ChangesOnly doors s (deriveLeaf l s) := by
  unfold deriveLeaf
  simp only
  split
  · exact .refl _ s
  · exact (changeLeaf_frame _ _ s).trans (reformPortal_frame _ _)

theorem takeEdge_frame (l : Fin 8) (s : State) : ChangesOnly doors s (takeEdge l s) := by
  unfold takeEdge
  simp only
  split
  · exact .refl _ s
  · exact (setLeafRun_frame _ _ s).mono (by decide)
  · split
    · exact .refl _ s
    · exact (setLeafRun_frame _ _ s).comp (doorEvent_frame _ _) (by decide) (by decide)

theorem notifyDoors_frame (i : Slot) (s : State) : ChangesOnly doors s (notifyDoors i s) := by
  unfold notifyDoors
  split
  · exact .refl _ s
  · refine ChangesOnly.trans (ChangesOnly.foldl (fun s l => ?_) _ s) (ChangesOnly.foldl (fun s q => ?_) _ _)
    · unfold notifyLeaf
      split
      · exact ChangesOnly.trans (.ite (fun _ => takeEdge_frame _ s) fun _ => .refl _ s) (deriveLeaf_frame _ _)
      · exact .refl _ s
    · unfold notifyPortal
      simp only
      split
      · refine ChangesOnly.trans (t := if (leader q s).releaseSlot = some i then reformPortal q s else s)
          (.ite (fun _ => reformPortal_frame _ s) fun _ => .refl _ s) ?_
        exact .ite (fun _ => takeRequestReading_frame _ _) fun _ => .refl _ _
      · exact .refl _ s

theorem expireTransit_frame (l : Fin 8) (s : State) : ChangesOnly doors s (expireTransit l s) :=
  (changeLeaf_frame _ _ s).trans (((setLeafRun_frame _ _ _).mono (by decide)).trans
    (((post_frame _ _).mono (by decide)).trans (reformPortal_frame _ _)))

theorem clearDoorCounters_frame (portal : Option (Fin 4)) (s : State) :
    ChangesOnly [.leaves] s (clearDoorCounters portal s) := by
  unfold clearDoorCounters
  simp only
  split
  · exact (setLeafRun_frame _ _ s).trans (setLeafRun_frame _ _ _)
  · intro p hp
    cases p <;> simp [Piece.kept] at hp ⊢

theorem drmEnterRun_frame (b : Bool) (s : State) : ChangesOnly doors s (drmEnterRun b s) := by
  unfold drmEnterRun
  split
  · unfold rederive
    simp only
    exact ChangesOnly.trans
      (ChangesOnly.foldl (fun s l => .ite (fun _ => deriveLeaf_frame l s) fun _ => .refl _ s) _ s)
      (ChangesOnly.foldl (fun s q => reformPortal_frame q s) _ _)
  · unfold firstDerivation
    refine ChangesOnly.trans ?_ ((writeDoorSlots_frame _).mono (by decide))
    refine ChangesOnly.trans (ChangesOnly.foldl (fun s l => ?_) _ s) (ChangesOnly.foldl (fun s q => ?_) _ _)
    · unfold firstLeaf
      split
      · exact ((setLeafRun_frame _ _ s).mono (by decide)).trans (changeLeaf_frame _ _ _)
      · exact .refl _ s
    · unfold firstPortal
      simp only
      split
      · exact (setPortalRun_frame _ _ s).comp (doorEvent_frame _ _) (by decide) (by decide)
      · exact .refl _ s

theorem drmEnterParked_frame (s : State) : ChangesOnly [.portals] s (drmEnterParked s) := by
  intro p hp
  cases p <;> simp [Piece.kept, drmEnterParked] at hp ⊢

theorem drmReset_frame (s : State) : ChangesOnly (.leaves :: .portals :: .latch :: writing) s (drmReset s) := by
  unfold drmReset
  simp only
  refine ChangesOnly.trans ?_ (((valueWrite_frame _ _ _ _).trans ((valueWrite_frame _ _ _ _).trans
    (valueWrite_frame _ _ _ _))).mono (by decide))
  intro p hp
  cases p <;> simp [Piece.kept] at hp ⊢

/-! ### Gauge drive -/

theorem stepChannel_frame (s : State) (c : Fin 6) : ChangesOnly [.gaugeRuns] s (stepChannel s c) := by
  unfold stepChannel
  simp only
  split
  · exact .refl _ s
  all_goals exact setGaugeRun_frame _ _ s

theorem advanceSweep_frame (s : State) : ChangesOnly [.sweepPhase, .inFlight] s (advanceSweep s) := by
  unfold advanceSweep
  split
  · split
    · exact .ite (fun _ => (setPhase_frame _ s).mono (by decide)) fun _ => .refl _ s
    · exact (setPhase_frame _ s).mono (by decide)
    · exact .ite (fun _ => (setPhase_frame _ s).comp (post_frame _ _) (by decide) (by decide)) fun _ => .refl _ s
    · exact .refl _ s
    · exact .refl _ s
  · exact .refl _ s

theorem homingInterval_frame (s : State) : ChangesOnly [.homing, .inFlight] s (homingInterval s) := by
  have h : ChangesOnly [.homing, .inFlight] s
      { s with gdr := { s.gdr with homingIntervals := s.gdr.homingIntervals + 1 } } := by
    intro p hp
    cases p <;> simp [Piece.kept] at hp ⊢
  unfold homingInterval
  simp only
  split
  · split
    · exact h.trans ((post_frame _ _).mono (by decide))
    · exact h
  · exact .refl _ s

theorem runInterval_frame (s : State) :
    ChangesOnly [.gaugeRuns, .sweepPhase, .homing, .inFlight] s (runInterval s) := by
  unfold runInterval
  split
  · exact ((ChangesOnly.foldl stepChannel_frame _ s).mono (by decide)).trans
      ((advanceSweep_frame _).mono (by decide))
  · exact (homingInterval_frame s).mono (by decide)

theorem writeGauge_frame (c : Fin 6) (e : GaugeEntry) (s : State) :
    ChangesOnly [.gaugeTable, .gaugeRuns, .wsTest] s (writeGauge c e s) := by
  have load (s : State) : ChangesOnly [.gaugeTable, .gaugeRuns, .wsTest] s
      { s with gdr := { s.gdr with table := s.gdr.table.set c (some e) } } := by
    intro p hp
    cases p <;> simp [Piece.kept] at hp ⊢
  have clamp (test : Option OutputTest) (s : State) : ChangesOnly [.gaugeTable, .gaugeRuns, .wsTest] s
      { s with wsp := { s.wsp with test := test } } := by
    intro p hp
    cases p <;> simp [Piece.kept] at hp ⊢
  unfold writeGauge
  simp only
  split
  · exact ((setGaugeRun_frame c _ s).mono (by decide)).trans ((load _).trans (clamp _ _))
  · exact ((setGaugeRun_frame c _ s).mono (by decide)).trans (load _)

theorem gdrEnterRun_frame (s : State) : ChangesOnly [.sweepPhase, .gaugeRuns] s (gdrEnterRun s) :=
  ((setPhase_frame _ s).mono (by decide)).trans
    ((ChangesOnly.foldl (fun s _ => setGaugeRun_frame _ _ s) _ _).mono (by decide))

theorem gdrEndTest_frame (c : Fin 6) (s : State) : ChangesOnly [.gaugeRuns] s (gdrEndTest c s) := by
  unfold gdrEndTest
  exact .ite (fun _ => setGaugeRun_frame _ _ s) fun _ => .refl _ s

end Sys2Proof.Machine
end

