-- ==== Sys2Proof/Laws/Part.lean ====
section
/-! SUPPORT. The frame of the fault memory's and the workshop port's operations, and of the changes of operating state
and the resets. -/

namespace Sys2Proof.Machine

/-! ### Fault memory -/

theorem handOn_frame (code : FaultCode) (cls : Fin 16) (st : FaultStatus) (n : Nat) (s : State) :
    ChangesOnly (warning ++ reforming) s (handOn code cls st n s) := by
  have h : ChangesOnly (warning ++ reforming) s (evaluateClass cls
      (queueEvent (.fault code st n) (valueWrite activeFaults (activeCount s : Nat) .valid s))) :=
    ((valueWrite_frame _ _ _ s).mono (by decide)).trans
      (((queueEvent_frame _ _).mono (by decide)).trans ((evaluateWhere_frame _ _ _).mono (by decide)))
  unfold handOn
  simp only
  split
  · exact h.trans ((setImplausible_frame _ _).mono (by decide))
  · exact h

theorem createRecord_frame (code : FaultCode) (cls : Fin 16) (s : State) :
    ChangesOnly recording s (createRecord code cls s) :=
  (setRecords_frame _ s).comp (handOn_frame _ _ _ _ _) (by decide) (by decide)

theorem reactivate_frame (r : FaultRecord) (s : State) : ChangesOnly recording s (reactivate r s) :=
  (updateRecord_frame _ _ s).comp (handOn_frame _ _ _ _ _) (by decide) (by decide)

theorem removeRecord_frame (s : State) (r : FaultRecord) : ChangesOnly recording s (removeRecord s r) :=
  (setRecords_frame _ s).comp (handOn_frame _ _ _ _ _) (by decide) (by decide)

theorem startCondition_frame (code : FaultCode) (cls : Fin 16) (s : State) :
    ChangesOnly recording s (startCondition code cls s) := by
  unfold startCondition
  split
  · split
    · exact .refl _ s
    · exact reactivate_frame _ s
  · split
    · exact createRecord_frame _ _ s
    · split
      · exact (removeRecord_frame s _).trans (createRecord_frame _ _ _)
      · intro p hp
        cases p <;> simp [Piece.kept, recording] at hp ⊢

theorem endCondition_frame (code : FaultCode) (s : State) : ChangesOnly recording s (endCondition code s) := by
  unfold endCondition
  split
  · split
    · exact (updateRecord_frame _ _ s).comp (handOn_frame _ _ _ _ _) (by decide) (by decide)
    · exact .refl _ s
  · exact .refl _ s

theorem ageRecords_frame (s : State) : ChangesOnly recording s (ageRecords s) :=
  ((setRecords_frame _ s).mono (by decide)).trans (ChangesOnly.foldl removeRecord_frame _ _)

theorem clearFaults_frame (s : State) : ChangesOnly recording s (clearFaults s) := by
  have empty : ChangesOnly recording s { s with flt := { s.flt with records := [], overflow := false } } := by
    intro p hp
    cases p <;> simp [Piece.kept, recording] at hp ⊢
  exact empty.trans (((valueWrite_frame _ _ _ _).mono (by decide)).trans (((queueEvent_frame _ _).mono (by decide)).trans
    (((evaluateWhere_frame _ _ _).mono (by decide)).trans (((setImplausible_frame _ _).mono (by decide)).trans
      ((post_frame _ _).mono (by decide))))))

theorem restoreRecord_frame (r : FaultRecord) (s : State) : ChangesOnly recording s (restoreRecord r s) :=
  (setRecords_frame _ s).comp (handOn_frame _ _ _ _ _) (by decide) (by decide)

theorem fltReset_frame (s : State) : ChangesOnly (.records :: writing) s (fltReset s) :=
  (setRecords_frame _ s).comp (valueWrite_frame _ _ _ _) (by decide) (by decide)

/-! ### Workshop port -/

theorem endTest_frame (s : State) : ChangesOnly [.wsTest, .gaugeRuns, .requests, .playing] s (endTest s) := by
  have stop (s : State) : ChangesOnly [.wsTest, .gaugeRuns, .requests, .playing] s
      { s with wsp := { s.wsp with test := none, testDue := none } } := by
    intro p hp
    cases p <;> simp [Piece.kept] at hp ⊢
  unfold endTest
  simp only
  split
  · exact .refl _ s
  · exact stop s
  · exact (stop s).trans ((gdrEndTest_frame _ _).mono (by decide))
  · exact (stop s).trans ((withdraw_frame _ _).mono (by decide))

theorem abandonResponse_frame (s : State) : ChangesOnly [.wsResponse, .freeCount] s (abandonResponse s) := by
  unfold abandonResponse
  split
  · exact .refl _ s
  · exact (abandonAs_frame _ s).comp (bumpFree_frame _) (by decide) (by decide)

/-! ### Operating states -/

theorem setOpState_frame (st : OpState) (cause : StateCause) (s : State) :
    ChangesOnly (.opState :: .parkDelay :: sending) s (setOpState st cause s) := by
  refine ChangesOnly.trans ?_ ((queueEvent_frame _ _).mono (by decide))
  intro p hp
  cases p <;> simp [Piece.kept] at hp ⊢

theorem parkDelayAtRun_frame (s : State) : ChangesOnly [.parkDelay] s (parkDelayAtRun s) := by
  unfold parkDelayAtRun
  exact .ite (fun _ => startParkDelay_frame s) fun _ => .refl _ s

theorem threeInOrder_frame {ps : List Piece} {a b c : State → State} (ha : ∀ s, ChangesOnly ps s (a s))
    (hb : ∀ s, ChangesOnly ps s (b s)) (hc : ∀ s, ChangesOnly ps s (c s)) (order : Fin 6) (s : State) :
    ChangesOnly ps s (threeInOrder order a b c s) := by
  unfold threeInOrder
  split
  · exact (ha s).trans ((hb _).trans (hc _))
  · exact (ha s).trans ((hc _).trans (hb _))
  · exact (hb s).trans ((ha _).trans (hc _))
  · exact (hb s).trans ((hc _).trans (ha _))
  · exact (hc s).trans ((ha _).trans (hb _))
  · exact (hc s).trans ((hb _).trans (ha _))

theorem tellRun_frame (order : Fin 6) (b : Bool) (s : State) : ChangesOnly telling s (tellRun order b s) := by
  refine ChangesOnly.trans ((frpEnterRun_frame s).mono (by decide)) ?_
  refine ChangesOnly.trans ((lscEnterRun_frame b _).mono (by decide)) ?_
  refine ChangesOnly.trans ((gdrEnterRun_frame _).mono (by decide)) ?_
  exact threeInOrder_frame (fun s => (sduEnterRun_frame s).mono (by decide))
    (fun s => (evaluateWhere_frame _ _ s).mono (by decide)) (fun s => (drmEnterRun_frame b s).mono (by decide)) _ _

theorem tellRunFreely_frame (b : Bool) (s : State) :
    ChangesOnly (.freeCount :: telling) s (tellRunFreely b s) :=
  ((bumpFree_frame s).mono (by decide)).trans ((tellRun_frame _ b _).mono (by decide))

theorem lscEnterParked_frame (s : State) : ChangesOnly [.scanPlay] s (lscEnterParked s) := startPass_frame _ s

theorem enterParked_frame (cause : StateCause) (s : State) : ChangesOnly parkEntering s (enterParked cause s) := by
  refine ChangesOnly.trans ((setOpState_frame .parked cause s).mono (by decide)) ?_
  refine ChangesOnly.trans ((dropSweepReport_frame _).mono (by decide)) ?_
  refine ChangesOnly.trans ((frpEnterParked_frame _).mono (by decide)) ?_
  refine ChangesOnly.trans ((lscEnterParked_frame _).mono (by decide)) ?_
  refine ChangesOnly.trans ((sduEnterParked_frame _).mono (by decide)) ?_
  refine ChangesOnly.trans ((setPhase_frame none _).mono (by decide)) ?_
  refine ChangesOnly.trans ((wrnEnterParked_frame _).mono (by decide)) ?_
  refine ChangesOnly.trans ((clearRequests_frame _).mono (by decide)) ?_
  exact ((drmEnterParked_frame _).mono (by decide)).trans ((endTest_frame _).mono (by decide))

theorem takeZeroDelay_frame (s : State) : ChangesOnly parkEntering s (takeZeroDelay s) := by
  unfold takeZeroDelay
  exact .ite (fun _ => enterParked_frame _ s) fun _ => .refl _ s

/-- No park delay of 0 ends at once while the timer is stopped or the delay is not 0 (R180). -/
theorem takeZeroDelay_eq {s : State} (h : s.cli.parkDue = none ∨ (linkOf s).parkDelay ≠ 0) : takeZeroDelay s = s := by
  unfold takeZeroDelay
  rw [if_neg]
  rcases h with h | h <;> simp [isDue, h]

theorem enterRun_frame (cause : StateCause) (b : Bool) (s : State) :
    ChangesOnly (runEntry ++ parkEntering) s (enterRun cause b s) := by
  refine ChangesOnly.trans ((setOpState_frame .run cause s).mono (by decide)) ?_
  refine ChangesOnly.trans ((parkDelayAtRun_frame _).mono (by decide)) ?_
  exact ((tellRunFreely_frame b _).mono (by decide)).trans ((takeZeroDelay_frame _).mono (by decide))

theorem enterSweep_frame (s : State) :
    ChangesOnly (.opState :: .parkDelay :: .sweepPhase :: .wsTest :: .gaugeRuns :: .requests :: .playing :: sending) s
      (enterSweep s) := by
  refine ChangesOnly.trans ((setOpState_frame .sweep .sweepRequest s).mono (by decide)) ?_
  exact ((setPhase_frame (some .rise) _).mono (by decide)).trans ((endTest_frame _).mono (by decide))

theorem leaveSweep_frame (cause : StateCause) (s : State) : ChangesOnly parkEntering s (leaveSweep cause s) := by
  refine ChangesOnly.trans ((dropSweepReport_frame s).mono (by decide)) ?_
  refine ChangesOnly.trans ((setOpState_frame .run cause _).mono (by decide)) ?_
  refine ChangesOnly.trans ((parkDelayAtRun_frame _).mono (by decide)) ?_
  exact ((gdrEnterRun_frame _).mono (by decide)).trans (takeZeroDelay_frame _)

theorem resetBlocks_frame (b : Bool) (s : State) : ChangesOnly resetting s (resetBlocks b s) := by
  have play (s : State) : ChangesOnly resetting s ((if b then lscLeaveParked else id) s) := by
    split
    · exact (startPlay_frame s).mono (by decide)
    · exact .refl _ s
  refine ChangesOnly.trans ((dropSweepReport_frame s).mono (by decide)) ?_
  refine ChangesOnly.trans ((frpReset_frame _).mono (by decide)) ?_
  refine ChangesOnly.trans (play _) ?_
  refine ChangesOnly.trans ((sduReset_frame _).mono (by decide)) ?_
  refine ChangesOnly.trans ((gdrReset_frame _).mono (by decide)) ?_
  refine ChangesOnly.trans ((wrnReset_frame _).mono (by decide)) ?_
  refine ChangesOnly.trans ((clearRequests_frame _).mono (by decide)) ?_
  refine ChangesOnly.trans ((drmReset_frame _).mono (by decide)) ?_
  refine ChangesOnly.trans ((fltReset_frame _).mono (by decide)) ?_
  exact ((abandonResponse_frame _).mono (by decide)).trans ((endTest_frame _).mono (by decide))

theorem commandedReset_frame (s : State) :
    ChangesOnly (.opState :: .parkDelay :: .queues :: resetting) s (commandedReset s) := by
  refine ChangesOnly.trans ((emptyQueues_frame s).mono (by decide)) ?_
  exact ((setOpState_frame .config .reset _).mono (by decide)).trans ((resetBlocks_frame _ _).mono (by decide))

theorem takeNotification_frame (i : Slot) (s : State) : ChangesOnly noticing s (takeNotification i s) := by
  have stop (s : State) : ChangesOnly noticing s { s with cli := { s.cli with parkDue := none } } := by
    intro p hp
    cases p <;> simp [Piece.kept, noticing, runEntry] at hp ⊢
  have ign (s : State) : ChangesOnly noticing s (takeIgnition s) := by
    unfold takeIgnition
    split
    · exact .refl _ s
    · exact .ite (fun _ => enterRun_frame _ _ s) fun _ => .refl _ s
    all_goals
      split
      · split
        · exact .refl _ s
        · exact ((startParkDelay_frame s).mono (by decide)).trans ((takeZeroDelay_frame _).mono (by decide))
      · exact stop s
  have speed (s : State) : ChangesOnly noticing s (takeSpeed s) := by
    unfold takeSpeed
    exact .ite (fun _ => (leaveSweep_frame _ s).mono (by decide)) fun _ => .refl _ s
  have told (s : State) : ChangesOnly noticing s (reportChange i s) := by
    unfold reportChange
    exact .ite (fun _ => (joinUpdates_frame _ s).mono (by decide)) fun _ => .refl _ s
  unfold takeNotification
  refine ChangesOnly.trans ?_ (told _)
  split
  · exact ign s
  · split
    · exact speed s
    · exact .refl _ s

end Sys2Proof.Machine
end

