-- ==== Sys2Proof/Laws/Link.lean ====
section
/-! SUPPORT. The inbound buffer and the execution of records: when a record is executed at once, and what any effect
behind a response leaves of the response. -/

namespace Sys2Proof.Machine

/-- A row that is a record does what the record does (R168). -/
theorem exec_record {c : Instr} {r : ClRecord} (h : managementRecord c = some r) (s : State) :
    exec c s = .next (takeRecord r.kind r.body s) := by
  cases c <;> simp only [managementRecord, Option.some.injEq, reduceCtorEq] at h <;> subst h <;> rfl

/-- A row that is a request does what the request frame does (R186). -/
theorem exec_request {c : Instr} {head : FrameHead} {data : List Byte} (h : requestData c = some (head, data))
    (s : State) : exec c s = .next (takeRequest head data s) := by
  cases c <;> simp only [requestData, Option.some.injEq, reduceCtorEq, Prod.mk.injEq] at h <;>
    obtain ⟨rfl, rfl⟩ := h <;> rfl

/-- A frame that the port hands on is served, behind the end of a running test and the abandonment of a response in
flight (R184, R186). -/
theorem takeRequest_arrives {head : FrameHead} {data : List Byte} {s : State} (h : Arrives head data s) :
    takeRequest head data s = serve data (abandonResponse (endTest s)) := by
  obtain ⟨h1, h2, h3, h4⟩ := h
  have k : handedOn head s = true := by simp [handedOn, h1, h2, h3]
  rw [takeRequest, if_pos k, ← h4, List.take_length]

/-- A frame of another format or identifier, and one at a port that does not run, is passed over (R184). -/
theorem takeRequest_passed {head : FrameHead} {data : List Byte} {s : State}
    (h : wsRunning s = false ∨ head.extended ≠ s.wsp.settings.extended
      ∨ head.ident.toNat ≠ s.wsp.settings.requestId) : takeRequest head data s = s := by
  have k : handedOn head s = false := by
    rcases h with h | h | h <;> simp [handedOn, h]
  simp [takeRequest, k]

/-- A record that finds a place, and none waiting before it, is executed as it arrives (R168). -/
theorem takeRecord_ready {kind : Byte} {body : List Byte} {s : State} (h : LinkReady s)
    (k : heldRecord ⟨kind, body⟩ s = false) : takeRecord kind body s = executeRecord ⟨kind, body⟩ s := by
  obtain ⟨h1, h2⟩ := h
  obtain ⟨now, fc, op, sst, frp, lsc, sdu, gdr, wrn, chg, drm, flt, cli, wsp, fl, pd⟩ := s
  obtain ⟨link, rx, gap, inbound, responses, events, overrun, updates, reports, park, tx, lrdy, wake⟩ := cli
  simp only at h1
  subst h1
  unfold takeRecord runInbound
  rw [if_pos h2]
  simp only [List.nil_append, List.length_singleton, drainInbound]
  rw [if_neg]
  simpa [heldRecord] using k

/-- A record that finds no place is discarded (R168). -/
theorem takeRecord_full {kind : Byte} {body : List Byte} {s : State} (h : prdy s = false) :
    takeRecord kind body s = respondDiscard kind s := by
  simp [takeRecord, h]

/-- The execution of a record, spelled out (R169). -/
theorem executeRecord_eq (r : ClRecord) (s : State) :
    executeRecord r s
      = (answerRecord r s).after (respond r.kind (answerRecord r s).result (answerRecord r s).data s) := rfl

/-- A record row at the ready link, by its answer (R169). -/
theorem exec_answer {c : Instr} {r : ClRecord} {s : State} {a : Answer} (h : managementRecord c = some r)
    (k : LinkReady s) (l : heldRecord r s = false) (e : answerRecord r s = a) :
    exec c s = .next (a.after (respond r.kind a.result a.data s)) := by
  rw [exec_record h, takeRecord_ready k l, executeRecord_eq, e]

/-- An accepted record: its response is made, and it is carried out. -/
theorem exec_accepted {c : Instr} {r : ClRecord} {s : State} {d : List Byte} {f : State → State}
    (h : managementRecord c = some r) (k : LinkReady s) (l : heldRecord r s = false)
    (e : answerRecord r s = accepted d f) : exec c s = .next (f (respond r.kind .ok d s)) := exec_answer h k l e

/-- A refused record: its response is all. -/
theorem exec_refused {c : Instr} {r : ClRecord} {s : State} {x : Result} (h : managementRecord c = some r)
    (k : LinkReady s) (l : heldRecord r s = false) (e : answerRecord r s = refuse x) :
    exec c s = .next (respond r.kind x [] s) := exec_answer h k l e

/-- A table write that passes its checks. -/
theorem tableWrite_ok {ε : Type} {len n : Nat} {ok : OpState → Bool} {read : Fin n → List Byte → Option ε}
    {write : Fin n → ε → State → State} {rest : List Byte} {s : State} {e : ε} {i : Fin n}
    (h : rest.length = len + 1) (h2 : ok s.opState = true) (h3 : u8 rest 0 = i.val)
    (h4 : read i (rest.drop 1) = some e) : tableWrite len n ok read write rest s = accepted [] (write i e) := by
  unfold tableWrite withLength whenState
  rw [if_pos h, if_pos h2, h3]
  simp only [toFin?, i.isLt, dite_true, Option.elim_some]
  rw [h4]
  rfl

theorem respond_queued (k : Byte) (r : Result) (d : List Byte) (s : State) : Queued [] s (respond k r d s) := by
  rw [respond_eq]
  simp [Queued]

/-- An effect that only queues, after a response: the response stands as it was made, and the events stand behind those
that waited (R169 to R172). -/
theorem answered_after {ps : List Piece} {k : Byte} {r : Result} {d : List Byte} {s t : State}
    (h : ChangesOnly ps (respond k r d s) t) (hq : Piece.queues ∉ ps) :
    Answered k r d s t ∧ ∃ es, Queued es s t := by
  obtain ⟨h1, -, h3, es, h4⟩ := (h .queues hq).grows (respond_held k r d s)
  refine ⟨?_, es, by simpa using (respond_queued k r d s).append h4⟩
  have := respond_answered k r d s
  unfold Answered at *
  simp only [h1, h3]
  exact this

/-- The frame of a record whose effect only queues. -/
theorem answered_frame {ps : List Piece} {k : Byte} {r : Result} {d : List Byte} {s t : State}
    (h : ChangesOnly ps (respond k r d s) t) : ChangesOnly (answering ++ ps) s t :=
  ((respond_frame k r d s).mono (List.subset_append_left _ _)).trans (h.mono (List.subset_append_right _ _))

end Sys2Proof.Machine
end

