-- ==== Sys2Proof/WellFormed.lean ====
section
/-! DEFINITION. Which commands can reach the part at all. The limits are those of its links: a CL record carries at
most 60 body bytes (R166, section 10.2), a CAN frame at most 8 data bytes (R18, R184), a standard identifier 11 bits. The
meanings of `Machine` are total, and `WellFormed` is a premise of statements, not a check of the machine. -/

namespace Sys2Proof

/-- The kinds 01h to 13h of the management requests (R196). -/
def managementKind (kind : Byte) : Bool :=
  0x01#8 ≤ kind && kind ≤ 0x13#8

/-- The fourteen service codes 01h to 0Eh (R198). -/
def serviceCode (service : Byte) : Bool :=
  0x01#8 ≤ service && service ≤ 0x0E#8

/-- A record body fits the length byte (R167). -/
def bodyFits (body : List Byte) : Bool := body.length ≤ 60

/-- The body of a TABLE_WRITE behind its table code fits the length byte. -/
def restFits (rest : List Byte) : Bool := rest.length ≤ 59

/-- A frame as a port hands it on (R18): a standard identifier has 11 bits, and the data bytes are as many as the data
length code says, at most 8. -/
def frameFits (extended : Bool) (ident : BitVec 29) (dlc : BitVec 4) (data : List Byte) : Bool :=
  (extended || ident < 0x800#29) && data.length == min 8 dlc.toNat

/-- A frame on WS is of the same shape (R184). -/
def headFits (head : FrameHead) (data : List Byte) : Bool := frameFits head.extended head.ident head.dlc data

/-- The parameters of a request behind its service code, whatever byte that is (R198). -/
def paramsFit (head : FrameHead) (params : List Byte) : Bool := headFits head (0 :: params)

/-- The commands that can reach the part. -/
def wellFormed : Instr → Bool
  | .frameTableWrite rest | .signalTableWrite rest | .linkTableWrite rest | .lineTableWrite rest
  | .curveTableWrite rest | .scanTableWrite rest | .doorTableWrite rest | .gaugeTableWrite rest
  | .warningTableWrite rest | .patternTableWrite rest | .faultClassTableWrite rest
  | .calibrationTableWrite rest => restFits rest
  | .tableRead body | .signalRead body | .listRead body | .start body | .sweep body | .park body | .reset body
  | .warningAck body | .observedReadClear body | .chimePlay body | .chimeStop body | .tripReset body
  | .odometerLoad body | .calClose body | .faultRestore body | .faultRead body | .stopRequestClear body
  | .identRead body => bodyFits body
  | .unknownKindRecord kind body => !managementKind kind && bodyFits body
  | .frameReceived _ extended ident dlc data => frameFits extended ident dlc data
  | .readIdent r | .readFaultCount r | .readFaultRecord r | .clearFaults r | .readSignal r | .readLine r | .readDoor r
  | .clearDoorCounters r | .readSpeed r | .writeCal r | .testTelltale r | .testGauge r | .testChime r | .testEnd r =>
    paramsFit r.head r.bytes
  | .unknownServiceRequest r =>
    headFits r.head r.bytes && (match r.bytes with | [] => true | service :: _ => !serviceCode service)
  | .powerOnReset | .clRecordDiscard | .receiveGapExpiry | .lrdyAsserted | .lrdyDeasserted | .recordTransmitEnd
  | .heartbeat _ | .minimumIntervalReached _ | .portRateTakesEffect _ | .frameTimerExpiry _ | .scanSlotExpiry _
  | .parkedPassStart | .piEdge | .boundCheck | .standstillTimerExpiry | .plausibilityTimerExpiry
  | .frameSpeedNotification | .gaugeInterval | .homingEnd | .sweepComplete | .evaluation _ | .warningTimerExpiry _
  | .requestPlacing _ _ | .requestWithdrawal _ | .onTimeEnd | .burstEnd | .doorInputNotification _
  | .transitTimerExpiry _ | .faultConditionStart _ _ | .faultConditionEnd _ _ | .agingPass | .cliNotification _
  | .parkDelayExpiry | .wspSpeedNotification | .testTimerExpiry | .pacingExpiry | .segmentSent | .segmentFailed
  | .busOffRecovery | .receivedByte _ _ | .flashClock => true

end Sys2Proof
end

