-- ==== Sys2Proof/Laws/PerInstr.lean ====
section
/-! SUPPORT. The family OperandsFit, constructor by constructor: a well-formed command that is a management record has a
body that its length byte can name, and one that is a request fits one data frame (R166, R167, R186). -/

namespace Sys2Proof.Laws.OperandsFit

open Sys2Proof.Machine

/-- The record, or the request frame, that a well-formed command stands for fits its link. -/
def Statement (i : Instr) : Prop :=
  wellFormed i = true →
    (managementRecord i).all (fun r => decide (r.body.length ≤ 60)) = true
      ∧ (requestData i).all (fun d => decide (d.2.length ≤ 8)) = true

/-- A command that is neither a record nor a request. -/
theorem neither {i : Instr} (h : managementRecord i = none) (k : requestData i = none) : Statement i := by
  simp [Statement, h, k]

/-- A record with the given body. -/
theorem record {i : Instr} {r : ClRecord} (h : managementRecord i = some r) (k : requestData i = none)
    (l : wellFormed i = true → r.body.length ≤ 60) : Statement i := by
  intro w
  simp [h, k, l w]

/-- A request frame: it has as many data bytes as its length code says, at most 8. -/
theorem request {i : Instr} {head : FrameHead} {data : List Byte} (h : managementRecord i = none)
    (k : requestData i = some (head, data)) (l : wellFormed i = true → data.length = min 8 head.dlc.toNat) :
    Statement i := by
  intro w
  simp [h, k, l w]

/-- The length a request frame's form gives it. -/
theorem length_of_headFits {head : FrameHead} {data : List Byte} (w : headFits head data = true) :
    data.length = min 8 head.dlc.toNat := by
  simp only [headFits, frameFits, Bool.and_eq_true, beq_iff_eq] at w
  exact w.2

/-- The service code takes one of the bytes. -/
theorem length_of_paramsFit {head : FrameHead} {params : List Byte} (service : Byte) (w : paramsFit head params = true) :
    (service :: params).length = min 8 head.dlc.toNat := length_of_headFits (data := 0 :: params) w

theorem powerOnReset : Statement .powerOnReset := neither rfl rfl

theorem frameTableWrite (rest : List Byte) : Statement (.frameTableWrite rest) :=
  record rfl rfl fun w => Nat.succ_le_succ (of_decide_eq_true w)

theorem signalTableWrite (rest : List Byte) : Statement (.signalTableWrite rest) :=
  record rfl rfl fun w => Nat.succ_le_succ (of_decide_eq_true w)

theorem linkTableWrite (rest : List Byte) : Statement (.linkTableWrite rest) :=
  record rfl rfl fun w => Nat.succ_le_succ (of_decide_eq_true w)

theorem lineTableWrite (rest : List Byte) : Statement (.lineTableWrite rest) :=
  record rfl rfl fun w => Nat.succ_le_succ (of_decide_eq_true w)

theorem curveTableWrite (rest : List Byte) : Statement (.curveTableWrite rest) :=
  record rfl rfl fun w => Nat.succ_le_succ (of_decide_eq_true w)

theorem scanTableWrite (rest : List Byte) : Statement (.scanTableWrite rest) :=
  record rfl rfl fun w => Nat.succ_le_succ (of_decide_eq_true w)

theorem doorTableWrite (rest : List Byte) : Statement (.doorTableWrite rest) :=
  record rfl rfl fun w => Nat.succ_le_succ (of_decide_eq_true w)

theorem gaugeTableWrite (rest : List Byte) : Statement (.gaugeTableWrite rest) :=
  record rfl rfl fun w => Nat.succ_le_succ (of_decide_eq_true w)

theorem warningTableWrite (rest : List Byte) : Statement (.warningTableWrite rest) :=
  record rfl rfl fun w => Nat.succ_le_succ (of_decide_eq_true w)

theorem patternTableWrite (rest : List Byte) : Statement (.patternTableWrite rest) :=
  record rfl rfl fun w => Nat.succ_le_succ (of_decide_eq_true w)

theorem faultClassTableWrite (rest : List Byte) : Statement (.faultClassTableWrite rest) :=
  record rfl rfl fun w => Nat.succ_le_succ (of_decide_eq_true w)

theorem calibrationTableWrite (rest : List Byte) : Statement (.calibrationTableWrite rest) :=
  record rfl rfl fun w => Nat.succ_le_succ (of_decide_eq_true w)

theorem tableRead (body : List Byte) : Statement (.tableRead body) :=
  record rfl rfl of_decide_eq_true

theorem signalRead (body : List Byte) : Statement (.signalRead body) :=
  record rfl rfl of_decide_eq_true

theorem listRead (body : List Byte) : Statement (.listRead body) :=
  record rfl rfl of_decide_eq_true

theorem start (body : List Byte) : Statement (.start body) :=
  record rfl rfl of_decide_eq_true

theorem sweep (body : List Byte) : Statement (.sweep body) :=
  record rfl rfl of_decide_eq_true

theorem park (body : List Byte) : Statement (.park body) :=
  record rfl rfl of_decide_eq_true

theorem reset (body : List Byte) : Statement (.reset body) :=
  record rfl rfl of_decide_eq_true

theorem warningAck (body : List Byte) : Statement (.warningAck body) :=
  record rfl rfl of_decide_eq_true

theorem observedReadClear (body : List Byte) : Statement (.observedReadClear body) :=
  record rfl rfl of_decide_eq_true

theorem chimePlay (body : List Byte) : Statement (.chimePlay body) :=
  record rfl rfl of_decide_eq_true

theorem chimeStop (body : List Byte) : Statement (.chimeStop body) :=
  record rfl rfl of_decide_eq_true

theorem tripReset (body : List Byte) : Statement (.tripReset body) :=
  record rfl rfl of_decide_eq_true

theorem odometerLoad (body : List Byte) : Statement (.odometerLoad body) :=
  record rfl rfl of_decide_eq_true

theorem calClose (body : List Byte) : Statement (.calClose body) :=
  record rfl rfl of_decide_eq_true

theorem faultRestore (body : List Byte) : Statement (.faultRestore body) :=
  record rfl rfl of_decide_eq_true

theorem faultRead (body : List Byte) : Statement (.faultRead body) :=
  record rfl rfl of_decide_eq_true

theorem stopRequestClear (body : List Byte) : Statement (.stopRequestClear body) :=
  record rfl rfl of_decide_eq_true

theorem identRead (body : List Byte) : Statement (.identRead body) :=
  record rfl rfl of_decide_eq_true

theorem unknownKindRecord (kind : Byte) (body : List Byte) : Statement (.unknownKindRecord kind body) :=
  record rfl rfl fun w => of_decide_eq_true ((Bool.and_eq_true_iff.mp w).2)

theorem clRecordDiscard : Statement .clRecordDiscard := neither rfl rfl

theorem receiveGapExpiry : Statement .receiveGapExpiry := neither rfl rfl

theorem lrdyAsserted : Statement .lrdyAsserted := neither rfl rfl

theorem lrdyDeasserted : Statement .lrdyDeasserted := neither rfl rfl

theorem recordTransmitEnd : Statement .recordTransmitEnd := neither rfl rfl

theorem heartbeat (slot : Slot) : Statement (.heartbeat slot) := neither rfl rfl

theorem minimumIntervalReached (slot : Slot) : Statement (.minimumIntervalReached slot) := neither rfl rfl

theorem portRateTakesEffect (port : CanPort) : Statement (.portRateTakesEffect port) := neither rfl rfl

theorem frameReceived (port : VehiclePort) (extended : Bool) (ident : BitVec 29) (dlc : BitVec 4) (data : List Byte) : Statement (.frameReceived port extended ident dlc data) :=
  neither rfl rfl

theorem frameTimerExpiry (entry : Fin 64) : Statement (.frameTimerExpiry entry) := neither rfl rfl

theorem scanSlotExpiry (code : BitVec 10) : Statement (.scanSlotExpiry code) := neither rfl rfl

theorem parkedPassStart : Statement .parkedPassStart := neither rfl rfl

theorem piEdge : Statement .piEdge := neither rfl rfl

theorem boundCheck : Statement .boundCheck := neither rfl rfl

theorem standstillTimerExpiry : Statement .standstillTimerExpiry := neither rfl rfl

theorem plausibilityTimerExpiry : Statement .plausibilityTimerExpiry := neither rfl rfl

theorem frameSpeedNotification : Statement .frameSpeedNotification := neither rfl rfl

theorem gaugeInterval : Statement .gaugeInterval := neither rfl rfl

theorem homingEnd : Statement .homingEnd := neither rfl rfl

theorem sweepComplete : Statement .sweepComplete := neither rfl rfl

theorem evaluation (slot : Slot) : Statement (.evaluation slot) := neither rfl rfl

theorem warningTimerExpiry (entry : Fin 96) : Statement (.warningTimerExpiry entry) := neither rfl rfl

theorem requestPlacing (who : Requester) (pattern : Fin 8) : Statement (.requestPlacing who pattern) :=
  neither rfl rfl

theorem requestWithdrawal (who : Requester) : Statement (.requestWithdrawal who) := neither rfl rfl

theorem onTimeEnd : Statement .onTimeEnd := neither rfl rfl

theorem burstEnd : Statement .burstEnd := neither rfl rfl

theorem doorInputNotification (slot : Slot) : Statement (.doorInputNotification slot) := neither rfl rfl

theorem transitTimerExpiry (leaf : Fin 8) : Statement (.transitTimerExpiry leaf) := neither rfl rfl

theorem faultConditionStart (code : FaultCode) (cls : Fin 16) : Statement (.faultConditionStart code cls) :=
  neither rfl rfl

theorem faultConditionEnd (code : FaultCode) (cls : Fin 16) : Statement (.faultConditionEnd code cls) :=
  neither rfl rfl

theorem agingPass : Statement .agingPass := neither rfl rfl

theorem cliNotification (slot : Slot) : Statement (.cliNotification slot) := neither rfl rfl

theorem parkDelayExpiry : Statement .parkDelayExpiry := neither rfl rfl

theorem wspSpeedNotification : Statement .wspSpeedNotification := neither rfl rfl

theorem readIdent (r : WsRequest) : Statement (.readIdent r) :=
  request rfl rfl fun w => length_of_paramsFit _ w

theorem readFaultCount (r : WsRequest) : Statement (.readFaultCount r) :=
  request rfl rfl fun w => length_of_paramsFit _ w

theorem readFaultRecord (r : WsRequest) : Statement (.readFaultRecord r) :=
  request rfl rfl fun w => length_of_paramsFit _ w

theorem clearFaults (r : WsRequest) : Statement (.clearFaults r) :=
  request rfl rfl fun w => length_of_paramsFit _ w

theorem readSignal (r : WsRequest) : Statement (.readSignal r) :=
  request rfl rfl fun w => length_of_paramsFit _ w

theorem readLine (r : WsRequest) : Statement (.readLine r) :=
  request rfl rfl fun w => length_of_paramsFit _ w

theorem readDoor (r : WsRequest) : Statement (.readDoor r) :=
  request rfl rfl fun w => length_of_paramsFit _ w

theorem clearDoorCounters (r : WsRequest) : Statement (.clearDoorCounters r) :=
  request rfl rfl fun w => length_of_paramsFit _ w

theorem readSpeed (r : WsRequest) : Statement (.readSpeed r) :=
  request rfl rfl fun w => length_of_paramsFit _ w

theorem writeCal (r : WsRequest) : Statement (.writeCal r) :=
  request rfl rfl fun w => length_of_paramsFit _ w

theorem testTelltale (r : WsRequest) : Statement (.testTelltale r) :=
  request rfl rfl fun w => length_of_paramsFit _ w

theorem testGauge (r : WsRequest) : Statement (.testGauge r) :=
  request rfl rfl fun w => length_of_paramsFit _ w

theorem testChime (r : WsRequest) : Statement (.testChime r) :=
  request rfl rfl fun w => length_of_paramsFit _ w

theorem testEnd (r : WsRequest) : Statement (.testEnd r) :=
  request rfl rfl fun w => length_of_paramsFit _ w

theorem unknownServiceRequest (r : WsRequest) : Statement (.unknownServiceRequest r) :=
  request rfl rfl fun w => length_of_headFits (Bool.and_eq_true_iff.mp w).1

theorem testTimerExpiry : Statement .testTimerExpiry := neither rfl rfl

theorem pacingExpiry : Statement .pacingExpiry := neither rfl rfl

theorem segmentSent : Statement .segmentSent := neither rfl rfl

theorem segmentFailed : Statement .segmentFailed := neither rfl rfl

theorem busOffRecovery : Statement .busOffRecovery := neither rfl rfl

theorem receivedByte (byte : Byte) (framingError : Bool) : Statement (.receivedByte byte framingError) :=
  neither rfl rfl

theorem flashClock : Statement .flashClock := neither rfl rfl

end Sys2Proof.Laws.OperandsFit
end

