-- ==== Sys2Proof/Laws/Ready.lean ====
section
/-! SUPPORT. What stands ready on an empty queue: the arrivals in their order, and the tests of the timers. -/

namespace Sys2Proof.Machine

/-- Membership in `readyArrivals`: the first of its channel that `seen` does not hold. -/
theorem mem_readyArrivals (c : Instr) : ∀ (l : List Instr) (seen : List Channel),
    c ∈ readyArrivals seen l ↔ (∀ ch, channelOf c = some ch → ch ∉ seen) ∧ ∃ before after, l = before ++ c :: after ∧
      ∀ d ∈ before, ∀ ch, channelOf c = some ch → channelOf d ≠ some ch
  | [], seen => by simp [readyArrivals]
  | x :: l, seen => by
    have split : (∃ before after, x :: l = before ++ c :: after ∧ ∀ d ∈ before, ∀ ch, channelOf c = some ch → channelOf d ≠ some ch)
        ↔ x = c ∨ ((∀ ch, channelOf c = some ch → channelOf x ≠ some ch) ∧ ∃ before after, l = before ++ c :: after ∧
          ∀ d ∈ before, ∀ ch, channelOf c = some ch → channelOf d ≠ some ch) := by
      constructor
      · rintro ⟨_ | ⟨b, bs⟩, after, e, h⟩
        · simp at e; exact .inl e.1
        · simp at e
          obtain ⟨rfl, rfl⟩ := e
          exact .inr ⟨h x (by simp), bs, after, rfl, fun d hd => h d (by simp [hd])⟩
      · rintro (rfl | ⟨hx, bs, after, rfl, h⟩)
        · exact ⟨[], l, rfl, by simp⟩
        · exact ⟨x :: bs, after, rfl, by simpa using ⟨hx, h⟩⟩
    rw [split]
    unfold readyArrivals
    cases hx : channelOf x with
    | none =>
      simp only [List.mem_cons, mem_readyArrivals c l seen]
      by_cases hc : c = x
      · subst hc; simp [hx]
      · have : x ≠ c := fun e => hc e.symm
        simp [hc, this]
    | some ch =>
      simp only
      by_cases hs : ch ∈ seen
      · simp only [List.contains_iff_mem, hs, if_true, mem_readyArrivals c l seen]
        constructor
        · rintro ⟨h1, h2⟩
          exact ⟨h1, .inr ⟨fun k hk e => h1 k hk (by cases e; exact hs), h2⟩⟩
        · rintro ⟨h1, rfl | ⟨_, h2⟩⟩
          · exact absurd hs (h1 ch hx)
          · exact ⟨h1, h2⟩
      · simp only [List.contains_iff_mem, hs, if_false, List.mem_cons, mem_readyArrivals c l (ch :: seen)]
        by_cases hc : c = x
        · subst hc
          simp only [true_or, true_iff, and_true]
          intro k hk; rw [hx] at hk; cases hk; exact hs
        · have hc' : x ≠ c := fun e => hc e.symm
          simp only [hc, hc', false_or, not_or]
          constructor
          · rintro ⟨h1, h2⟩
            exact ⟨fun k hk => (h1 k hk).2, fun k hk e => (h1 k hk).1 (by cases e; rfl), h2⟩
          · rintro ⟨h1, h2, h3⟩
            exact ⟨fun k hk => ⟨fun e => h2 k hk (by rw [e]), h1 k hk⟩, h3⟩

/-- Two arrivals keep their order where they share a channel. -/
theorem keepOrder_iff (d c : Instr) : KeepOrder d c ↔ ∃ ch, channelOf c = some ch ∧ channelOf d = some ch := by
  have rep (code : FaultCode) (c : Instr) (h : ReportsFor code c) : channelOf c = some (sourceOf code) := by
    rcases h with ⟨cls, rfl | rfl⟩ | ⟨rfl, rfl⟩ <;> rfl
  have src (a b : FaultCode) : OneSource a b ↔ sourceOf a = sourceOf b := by
    cases a <;> cases b <;> simp [OneSource, sourceOf]
  have back (c : Instr) (ch : Channel) (h : channelOf c = some ch) :
      (∃ a, ReportsFor a c ∧ sourceOf a = ch) ∨ ∃ who, RequestOf who c ∧ ch = .chime who := by
    cases c <;> simp [channelOf] at h <;> subst h <;> simp [ReportsFor, RequestOf]
    rfl
  constructor
  · rintro (⟨a, b, h, ha, hb⟩ | ⟨who, h1, h2⟩)
    · exact ⟨_, rep _ _ hb, by rw [rep _ _ ha, (src a b).1 h]⟩
    · refine ⟨.chime who, ?_, ?_⟩
      · rcases h2 with ⟨p, rfl⟩ | rfl <;> rfl
      · rcases h1 with ⟨p, rfl⟩ | rfl <;> rfl
  · rintro ⟨ch, h1, h2⟩
    rcases back c ch h1 with ⟨a, ha, rfl⟩ | ⟨who, hw, rfl⟩ <;> rcases back d _ h2 with ⟨b, hb, e⟩ | ⟨who', hw', e⟩
    · exact .inl ⟨b, a, (src b a).2 e, hb, ha⟩
    · cases a <;> cases e
    · cases b <;> cases e
    · cases e; exact .inr ⟨who, hw', hw⟩

/-- The arrivals that may be taken are those with none before them that they keep their order with. -/
theorem arrivalReady_iff (c : Instr) (s : State) : c ∈ readyArrivals [] s.inFlight ↔ ArrivalReady c s := by
  rw [mem_readyArrivals]
  simp only [List.not_mem_nil, not_false_eq_true, implies_true, true_and, ArrivalReady, keepOrder_iff, not_exists, not_and]

/-- `evaluated` decides R99's rule. -/
theorem evaluatedNow_iff (e : WarnEntry) (s : State) : evaluated e s = true ↔ EvaluatedNow e s := by
  have src : parkedSource e.source s = true ↔ (e.source = ignition
      ∨ (12 ≤ e.source.val ∧ ∃ g, s.signal e.source = some g ∧ g.kind = .line
        ∧ (g.index = 0 ∨ ∃ (l : Fin 48) (x : LineEntry), l.val = g.index ∧ s.lsc.table[l] = some x ∧ x.parked = true))) := by
    simp only [parkedSource, Bool.or_eq_true, decide_eq_true_eq, Bool.and_eq_true, Bool.not_eq_true', isInternal,
      decide_eq_false_iff_not, Nat.not_lt, Option.any_eq_true]
    refine or_congr Iff.rfl (and_congr Iff.rfl (exists_congr fun g => and_congr Iff.rfl (and_congr Iff.rfl (or_congr Iff.rfl ?_))))
    constructor
    · rintro ⟨x, h, p⟩
      obtain ⟨l, hl, hx⟩ := Option.bind_eq_some_iff.1 h
      unfold toFin? at hl
      split at hl
      · cases hl; exact ⟨_, x, rfl, hx, p⟩
      · cases hl
    · rintro ⟨l, x, hl, hx, p⟩
      refine ⟨x, Option.bind_eq_some_iff.2 ⟨l, ?_, hx⟩, p⟩
      unfold toFin?
      rw [dif_pos (by omega)]
      exact congrArg some (Fin.ext hl.symm)
  unfold evaluated EvaluatedNow CarriedThroughParked
  cases h : s.opState <;> simp [parkedEntry, src, and_assoc]

/-- `isDue` tells a timer that has come to its time. -/
theorem isDue_iff (t : Option Nat) (s : State) : isDue t s = true ↔ ∃ d, t = some d ∧ d ≤ s.now := by
  cases t <;> simp [isDue]

theorem mem_indices (n : Nat) (i : Fin n) : i ∈ indices n := by simp [indices]
theorem mem_whenDue (b : Bool) (c x : Instr) : c ∈ whenDue b x ↔ b = true ∧ c = x := by cases b <;> simp [whenDue]

end Sys2Proof.Machine
end

