-- ==== Sys2Proof/Tests/Slice0.lean ====
section
/-! SUPPORT. The model's own tests: ill-formed commands that `wellFormed` refuses, small steps of the commands, and for
every statement that has hypotheses a concrete state and operands that meet them. -/

namespace Sys2Proof.Tests

open Sys2Proof.Machine

set_option Elab.async false

/-! ### Helpers -/

/-- The command answers a next state that passes the check. -/
def answers (c : Instr) (s : State) (check : State → Bool) : Bool :=
  match exec c s with
  | .next t => check t
  | .fault _ | .refused _ => false

/-- The part after homing, in an operating state. -/
def part (st : OpState) : State := { State.reset with opState := st, gdr := { Gdr.reset with homingDone := true } }

/-- The last response, as a code and its data. -/
def lastResponse (t : State) : Option (Nat × List Byte) :=
  t.cli.responses.getLast?.map fun r => (r.result.code, r.data)

/-- The result code of the record command in the state. -/
def resultIs (c : Instr) (s : State) (code : Nat) : Bool :=
  answers c s fun t => (lastResponse t).map Prod.fst == some code

/-- A request frame under the request identifier of reset, with its data bytes. -/
def ask (c : WsRequest → Instr) (params : List Byte) : Instr :=
  c ⟨⟨false, 0x6A0, BitVec.ofNat 4 (params.length + 1)⟩, params⟩

/-- The head of a frame without data bytes. -/
def emptyHead : FrameHead := ⟨false, 0x6A0, 0⟩

/-- A slot replaced. -/
def withSlot (i : Slot) (v : Int) (q : Quality) (s : State) : State :=
  { s with sst := { s.sst with slots := s.sst.slots.set i ⟨v, q, some 0⟩ } }

/-! ### Well-formed commands -/

theorem test_illformed_rest : wellFormed (.frameTableWrite (List.replicate 60 0)) = false := by decide +kernel
theorem test_illformed_body : wellFormed (.start (List.replicate 61 0)) = false := by decide +kernel
theorem test_illformed_kind : wellFormed (.unknownKindRecord 0x13 []) = false := by decide +kernel
theorem test_illformed_identifier : wellFormed (.frameReceived .va false 0x800 0 []) = false := by decide +kernel
theorem test_illformed_length_code : wellFormed (.frameReceived .va false 0 2 [1]) = false := by decide +kernel
theorem test_illformed_params : wellFormed (ask .readIdent (List.replicate 8 0)) = false := by decide +kernel
theorem test_illformed_service : wellFormed (.unknownServiceRequest ⟨{ emptyHead with dlc := 1 }, [0x0E]⟩) = false := by decide +kernel
theorem test_illformed_request : wellFormed (.unknownServiceRequest ⟨emptyHead, [0x0F]⟩) = false := by decide +kernel
theorem test_illformed_head : wellFormed (.readIdent ⟨⟨false, 0x800, 1⟩, []⟩) = false := by decide +kernel
theorem test_wellformed :
    [.frameTableWrite (List.replicate 59 0), .start [], .unknownKindRecord 0x14 [], .unknownServiceRequest ⟨emptyHead, []⟩,
      .frameReceived .va true 0x800 9 (List.replicate 8 0), ask .readIdent (List.replicate 7 0),
      .readIdent ⟨⟨true, 0x800, 15⟩, List.replicate 7 0⟩].all wellFormed = true := by
  decide +kernel

/-! ### The step -/

theorem test_step_takes_front :
    { State.reset with pending := [.lrdyDeasserted, .flashClock] }.pending = .lrdyDeasserted :: [.flashClock] := rfl

theorem test_idle_queue_empty : State.reset.pending = [] := rfl

theorem test_arrivals_keep_order :
    let start : Instr := .faultConditionStart (.line 3 .shortGnd) 0
    let theEnd : Instr := .faultConditionEnd (.line 4 .openCircuit) 0
    let s : State := { State.reset with inFlight := [start, theEnd, .agingPass, .evaluation 20] }
    ArrivalReady start s ∧ ready s = [start, .agingPass, .evaluation 20] :=
  ⟨⟨[], _, rfl, by simp⟩, by decide +kernel⟩

theorem test_timers_ready :
    let s (now : Nat) : State := { State.reset with now, inFlight := [] }
    let reported : State :=
      { s 999 with
        sst := { Sst.reset with table := Sst.reset.table.set 20 (some
          ⟨.line, 1, none, true, 0, 100, 2, 1, 1, false, false, false, 0, 0, 0, 0, 0, none⟩) }
        cli := { Cli.reset with updates := [20], lrdy := true } }
    ready (s 999) = [] ∧ (ready (s 1000)).length = 1 ∧ TimerReady (.scanSlotExpiry (Config.lineCode 0)) (s 1000)
      ∧ ready reported = [.minimumIntervalReached 20] := by
  refine ⟨by decide +kernel, by decide +kernel, ?_, by decide +kernel⟩
  unfold TimerReady
  exact ⟨rfl, 1000, rfl, Nat.le_refl _⟩

/-! ### Records -/

theorem test_record_executed :
    LinkReady (part .config) ∧ heldRecord ⟨0x13, []⟩ (part .config) = false
      ∧ managementRecord (.identRead []) = some ⟨0x13, []⟩
      ∧ answers (.identRead []) (part .config) (fun t => lastResponse t =
          some (0, [0x17, 0x0A, 0x14, 0x06, 1, 0, 0, 0, 5])) = true :=
  ⟨⟨rfl, rfl⟩, rfl, rfl, by decide +kernel⟩

/-- Four places are held: by the START that waits for homing and three records behind it. -/
def fullInbound : State :=
  { State.reset with cli := { Cli.reset with inbound := [⟨5, []⟩, ⟨3, [0]⟩, ⟨3, [1]⟩, ⟨3, [2]⟩] } }

theorem test_record_discarded :
    prdy fullInbound = false
      ∧ answers (.signalRead [0]) fullInbound (fun t => t.cli.responses = [⟨3, .format, [], true⟩]) = true :=
  ⟨rfl, by decide +kernel⟩

theorem test_record_held :
    prdy State.reset = true
      ∧ (State.reset.cli.inbound ++ [(⟨5, []⟩ : ClRecord)]).head?.any (fun x => heldRecord x State.reset) = true
      ∧ answers (.start []) State.reset (fun t => t.cli.inbound = [⟨5, []⟩]) = true := ⟨rfl, rfl, by decide +kernel⟩

theorem test_record_refused :
    (answerRecord ⟨5, []⟩ (part .run)).result = .state ∧ resultIs (.start []) (part .run) 4 = true
      ∧ resultIs (.start [0]) (part .run) 1 = true ∧ resultIs (.faultRestore [0]) (part .config) 1 = true := by
  decide +kernel

theorem test_table_write_checks :
    resultIs (.frameTableWrite (List.replicate 18 0)) (part .config) 1 = true
      ∧ resultIs (.frameTableWrite (List.replicate 19 0)) (part .run) 4 = true
      ∧ resultIs (.frameTableWrite (64 :: List.replicate 18 0)) (part .config) 3 = true
      ∧ resultIs (.gaugeTableWrite (6 :: List.replicate 16 0)) (part .run) 3 = true
      ∧ resultIs (.gaugeTableWrite (0 :: List.replicate 16 0)) (part .sweep) 4 = true := by
  decide +kernel

/-! ### The signal store -/

/-- A LINE entry with limits 0 to 100, no fallback, reported. -/
def lineSignal (line : Nat) (fallback : Option Slot) : SignalEntry :=
  { kind := .line, index := line, fallback, report := true, min := 0, max := 100, deadband := 2, minInterval := 1
    heartbeat := 1, msbFirst := false, signed := false, naCheck := false, startBit := 0, length := 0, mult := 0
    shift := 0, offset := 0, mux := none }

/-- A signal table entry loaded. -/
def withSignal (i : Slot) (e : SignalEntry) (s : State) : State :=
  { s with sst := { s.sst with table := s.sst.table.set i (some e) } }

theorem test_value_write_clamps :
    let s := withSignal 20 (lineSignal 1 none) State.reset
    isInternal 20 = false ∧ isInternal 11 = true
      ∧ ((valueWrite 20 (-1) .valid s).slot 20).value = 0 ∧ ((valueWrite 20 101 .valid s).slot 20).quality = .limited
      ∧ ((valueWrite 20 100 .valid s).slot 20).quality = .valid ∧ ((valueWrite 11 7 .valid s).slot 11).value = 7
      ∧ ((qualityWrite 20 .stale s).slot 20).quality = .stale := by
  decide +kernel

theorem test_write_notifies :
    let s := withSignal 20 (lineSignal 1 none) State.reset
    (valueWrite 20 5 .valid s).inFlight = s.inFlight ++ [.cliNotification 20]
      ∧ (valueWrite 5 0 .valid s).inFlight = s.inFlight := by
  decide +kernel

theorem test_effective_read :
    let s := withSignal 20 (lineSignal 1 (some 3)) (withSlot 20 9 .stale State.reset)
    let s' := withSignal 20 (lineSignal 1 (some 0)) (withSlot 20 9 .stale State.reset)
    effRead 20 s = (0, .substituted) ∧ effRead 20 s' = (9, .stale) ∧ effRead 21 s = (0, .neverReceived)
      ∧ effRead 3 s = (0, .valid) ∧ fallbackOf 20 s = some 3 := by
  decide +kernel

/-! ### Table writes -/

/-- A frame entry of identifier 100h on VA, at least 1 byte, timeout 50 ms, first timeout 100 ms. -/
def frameBytes : List Byte := [0x03, 0, 1, 0, 0, 0xFF, 7, 0, 0, 1, 5, 0, 10, 0, 0, 0, 0, 0]

theorem test_frame_table_write :
    (readFrameEntry frameBytes).isSome = true ∧ u8 (63 :: frameBytes) 0 = (63 : Fin 64).val
      ∧ answers (.frameTableWrite (63 :: frameBytes)) (part .config) (fun t =>
          decide (t.frp.table[63] = readFrameEntry frameBytes)) = true := by
  decide +kernel

/-- A signal entry of slot 20 from line 1, limits 0 to 100, reported. -/
def signalBytesOf (report : Byte) : List Byte :=
  [2, 1, report, 0, 0, 0, 0, 0, 100, 0, 0, 0, 2, 0, 0, 0, 1, 1, 0, 0, 0, 0, 0, 0, 0, 0, 0, 0]

theorem test_signal_table_write :
    (readSignalEntry 20 (signalBytesOf 2)).isSome = true
      ∧ answers (.signalTableWrite (20 :: signalBytesOf 2)) (withSlot 20 5 .stale (part .config)) (fun t =>
          decide (t.slot 20 = ⟨0, .neverReceived, none⟩) && decide (t.cli.updates = [20])) = true
      ∧ answers (.signalTableWrite (20 :: signalBytesOf 0)) (withSignal 20 (lineSignal 1 none)
          (withSlot 20 5 .stale (part .config))) (fun t =>
          decide ((t.slot 20).value = 5) && decide (t.cli.updates = [])) = true := by
  decide +kernel

/-- The unloaded readback of the link table as a body. -/
def linkBytes : List Byte := LinkEntry.unloaded.bytes

/-- A door entry of slots 20, 21 and 22, fitted. -/
def doorBytes : List Byte := [1, 20, 21, 0, 22, 0x90, 1, 0, 0, 0, 0]

/-- A curve of two points. -/
def curveBytes : List Byte := Curve.unloaded.bytes

/-- A scan list of SL0 and line 47. -/
def scanTableBytes : List Byte := scanBytes [0, 47]

theorem test_config_table_writes :
    answers (.linkTableWrite (0 :: linkBytes)) (part .config) (fun t => t.cli.link.isSome) = true
      ∧ answers (.doorTableWrite (7 :: doorBytes)) (part .config) (fun t => t.drm.table[7].isSome) = true
      ∧ answers (.curveTableWrite (15 :: curveBytes)) (part .config) (fun t => t.lsc.curves[15].isSome) = true
      ∧ answers (.scanTableWrite (0 :: scanTableBytes)) (part .config) (fun t =>
          decide (t.lsc.scan = some [0, 47]) && decide (t.lsc.scanDue = some 250)) = true := by
  decide +kernel

/-- A line entry with the thresholds 100, 300, 600 and 1000. -/
def lineBytesOf (cls flags : Byte) : List Byte := [cls, 100, 0, 0x2C, 1, 0x58, 2, 0xE8, 3, 0, 1, 0, flags, 4]

/-- A line replaced. -/
def withLine (l : Fin 48) (e : Option LineEntry) (r : LineRun) (s : State) : State :=
  { s with lsc := { s.lsc with table := s.lsc.table.set l e, lines := s.lsc.lines.set l r } }

theorem test_signal_attaches_to_line :
    let s := withLine 1 (readLineEntry 1 (lineBytesOf 0 0)) ⟨some 7, some .active, none, some true, none⟩ (part .config)
    answers (.signalTableWrite (20 :: signalBytesOf 2)) s (fun t => decide (t.slot 20 = ⟨1, .valid, some 0⟩)) = true := by
  decide +kernel

theorem test_line_table_write :
    let s := withLine 1 (readLineEntry 1 (lineBytesOf 0 0)) ⟨some 7, some .openCircuit, none, none, none⟩ (part .config)
    (readLineEntry 1 (lineBytesOf 3 0)).isSome = true
      ∧ lineFault 1 s = some (.line 1 .openCircuit, 4)
      ∧ answers (.lineTableWrite (1 :: lineBytesOf 3 0)) s (fun t =>
          decide (t.lsc.lines[1] = ⟨some 7, none, none, none, none⟩)
            && decide (t.inFlight = s.inFlight ++ [.faultConditionEnd (.line 1 .openCircuit) 4])) = true := by
  decide +kernel

theorem test_line_table_write_clears_sender_fault :
    let s := withLine 1 (readLineEntry 1 (lineBytesOf 3 0)) ⟨some 7, some .openCircuit, none, none, none⟩
      (withSlot 0 0 .lineFault (part .config))
    answers (.lineTableWrite (1 :: lineBytesOf 0 0)) { s with lsc := { s.lsc with senderFault := true } } (fun t =>
      !t.lsc.senderFault && decide ((t.slot 0).quality = .notAvailable) && decide (t.slot 1 = ⟨0, .notAvailable, some 0⟩))
      = true := by
  decide +kernel

theorem test_link_write_withdraws :
    let s := { part .config with wsp := { Wsp.reset with response := some ⟨[[1], [2]], none⟩ } }
    wsRunning s = false ∧ segmentAtPort s = some [1]
      ∧ answers (.linkTableWrite (0 :: linkBytes)) s (fun t =>
          decide (t.wsp.response = none) && decide (t.wsp.orphan = none)) = true
      ∧ answers (.reset []) s (fun t => decide (t.wsp.orphan = none)) = true := by
  decide +kernel

/-- A gauge entry: slot 20 over 0 to 100, span 4000, rate 64. -/
def gaugeBytes : List Byte := [1, 20, 0, 0, 0, 0, 100, 0, 0, 0, 0xA0, 0x0F, 0, 64, 0, 0]

/-- A pattern of two bursts. -/
def patternBytes : List Byte := [8, 125, 0, 20, 20, 2, 3, 1]

/-- A fault class of priority 2, aging limit 1, one slot in the freeze frame. -/
def classBytes : List Byte := [2, 1, 1, 20, 0, 0, 0]

theorem test_run_table_writes :
    (readGaugeEntry gaugeBytes).isSome = true ∧ (readPattern patternBytes).isSome = true
      ∧ (readClass classBytes).isSome = true
      ∧ answers (.gaugeTableWrite (5 :: gaugeBytes)) (part .run) (fun t =>
          t.gdr.table[5].isSome && decide (t.cli.events.getLast? = some (.configChanged 7 5))) = true
      ∧ answers (.patternTableWrite (7 :: patternBytes)) (part .run) (fun t => t.chg.table[7].isSome) = true
      ∧ answers (.faultClassTableWrite (15 :: classBytes)) (part .config) (fun t =>
          t.flt.table[15].isSome && decide (t.cli.events = [.state .config .powerOn])) = true := by
  decide +kernel

/-- A warning entry: SIGNAL_ABOVE on slot 20, set at 50 and cleared at 40, to be acknowledged, telltale 3, chime 2. -/
def warningBytes (flags : Byte) : List Byte :=
  [flags, 0, 20, 0, 50, 0, 0, 0, 40, 0, 0, 0, 0, 0, 0, 0, 0, 0, 0, 0, 0, 0, 0, 0, 0, 0, 0, 1, 0, 0, 0, 5, 0, 0, 3, 2]

theorem test_warning_table_write :
    (readWarnEntry (warningBytes 9)).isSome = true ∧ ((readWarnEntry (warningBytes 8)).any (fun e => !e.enabled)) = true
      ∧ answers (.warningTableWrite (95 :: warningBytes 9)) (part .config) (fun t => t.wrn.table[95].isSome) = true
      ∧ answers (.warningTableWrite (95 :: warningBytes 9)) (withSlot 20 50 .valid (part .run)) (fun t =>
          decide ((warnRun 95 t).state = .onUnack) && t.cli.events.contains (.configChanged 8 95)) = true := by
  decide +kernel

/-- The unloaded readback of the calibration table as a body. -/
def calBytes : List Byte := CalEntry.unloaded.bytes

theorem test_calibration_table_write :
    (readCal calBytes).isSome = true
      ∧ answers (.calibrationTableWrite (0 :: calBytes)) (part .run) (fun t => t.sdu.cal.isSome) = true
      ∧ resultIs (.calibrationTableWrite (1 :: calBytes)) (part .config) 3 = true
      ∧ resultIs (.calibrationTableWrite (0 :: calBytes))
          { part .config with sdu := { Sdu.reset with windowOpen := false } } 5 = true
      ∧ answers (.calibrationTableWrite (0 :: calBytes)) (withSlot 0 0 .notAvailable (part .config)) (fun t =>
          decide (t.slot 0 = ⟨0, .valid, some 0⟩) && decide (t.sdu.meas = .stopped)) = true := by
  decide +kernel

/-! ### Reads, operating states, requests -/

theorem test_read_records :
    resultIs (.tableRead [11, 0]) (part .run) 0 = true ∧ resultIs (.tableRead [11, 1]) (part .run) 3 = true
      ∧ resultIs (.tableRead [12, 0]) (part .run) 2 = true
      ∧ answers (.tableRead [8, 95]) (part .run) (fun t => (lastResponse t).any fun r => r.2.length == 44) = true
      ∧ answers (.signalRead [0xFF]) (part .run) (fun t => lastResponse t =
          some (0, [0xFF, 0, 0, 0, 0, 0, 0xFF, 0xFF, 0, 0, 0, 0, 0])) = true
      ∧ resultIs (.listRead [0]) (part .config) 4 = true ∧ resultIs (.listRead [96]) (part .run) 3 = true
      ∧ answers (.listRead [95]) (part .run) (fun t => lastResponse t = some (0, [0, 0xFF, 0])) = true
      ∧ resultIs (.faultRead [0]) (part .run) 3 = true := by
  decide +kernel

/-- The part after homing with the calibration table loaded. -/
def calibrated (st : OpState) : State := { part st with sdu := { Sdu.reset with cal := some .unloaded } }

theorem test_start :
    startFault (part .config) = some (11, 0) ∧ startFault (calibrated .config) = none
      ∧ ignitionIs 0 (part .config) = false ∧ (linkOf (part .config)).parkDelay = 10
      ∧ answers (.start []) (part .config) (fun t => lastResponse t = some (6, [11, 0])) = true := by
  decide +kernel

theorem test_sweep :
    resultIs (.sweep []) (part .run) 7 = true ∧ resultIs (.sweep []) (withSlot 1 50 .valid (part .run)) 7 = true
      ∧ resultIs (.sweep []) (part .config) 4 = true
      ∧ answers (.sweep []) (withSlot 1 49 .valid (part .run)) (fun t =>
          decide (t.opState = .sweep) && decide (t.gdr.sweepPhase = some .rise)) = true := by
  decide +kernel

theorem test_park :
    resultIs (.park []) (part .parked) 4 = true
      ∧ answers (.park []) (part .sweep) (fun t =>
          decide (t.opState = .parked) && decide (t.lsc.passDue = some 100000)) = true
      ∧ answers .parkDelayExpiry { part .run with cli := { Cli.reset with parkDue := some 0 } } (fun t =>
          decide (t.opState = .parked)) = true := by
  decide +kernel

theorem test_park_idle :
    let s := { part .run with cli := { Cli.reset with parkDue := some 1 } }
    exec .parkDelayExpiry s = .next s :=
  rfl

theorem test_reset :
    answers (.reset []) (withSlot 1 700 .valid (calibrated .run)) (fun t =>
      decide (t.opState = .config) && decide (t.cli.events = [.state .config .reset])
        && decide (t.slot 1 = ⟨0, .valid, some 0⟩)) = true := by
  decide +kernel

theorem test_reset_from_parked :
    answers (.reset []) (withSlot 8 3 .valid (withSlot 5 1 .valid (part .parked))) (fun t =>
      decide (t.slot 5 = ⟨0, .valid, some 0⟩) && decide (t.slot 8 = ⟨0, .valid, some 0⟩)
        && decide (t.lsc.scanPos = 0) && decide (t.lsc.scanDue = some 1000) && decide (t.lsc.passDue = none)) = true := by
  decide +kernel

theorem test_power_on_reset :
    exec .powerOnReset (part .run) = .next State.reset := rfl

/-- A warning entry, loaded in a state of its machine. -/
def withWarning (i : Fin 96) (st : WarnState) (timer : Option Nat) (s : State) : State :=
  { s with wrn := { s.wrn with
      table := s.wrn.table.set i (readWarnEntry (warningBytes 9))
      run := s.wrn.run.set i { WarnRun.reset with state := st, timer } } }

theorem test_warning_ack :
    resultIs (.warningAck [0]) (part .parked) 4 = true ∧ resultIs (.warningAck [96]) (part .run) 3 = true
      ∧ answers (.warningAck [95]) (withWarning 95 .onUnack none (part .run)) (fun t =>
          decide ((warnRun 95 t).state = .onAck) && decide (t.inFlight.getLast? = some (.requestWithdrawal (.warning 95))))
          = true
      ∧ answers (.warningAck [0xFF]) (withWarning 95 .latchedUnack none (part .sweep)) (fun t =>
          decide ((warnRun 95 t).state = .off)) = true := by
  decide +kernel

theorem test_observed_read_clear :
    let s := { part .run with wrn := { Wrn.reset with run := Wrn.reset.run.set 95 { WarnRun.reset with observed := true } } }
    resultIs (.observedReadClear [95, 2]) s 3 = true ∧ resultIs (.observedReadClear [0, 0]) s 3 = true
      ∧ answers (.observedReadClear [95, 1]) s (fun t =>
          decide (lastResponse t = some (0, [95, 1, 1])) && !(warnRun 95 t).observed) = true := by
  decide +kernel

/-- The display processor's request plays. -/
def chiming (inTone : Bool) : State :=
  { part .run with chg := { Chg.reset with
      requests := [⟨.display, 1, 1, 0⟩], seq := 1, playing := some ⟨.display, inTone, 0⟩ } }

theorem test_chime_play_and_stop :
    answers (.chimePlay [7]) (part .sweep) (fun t =>
      decide (t.chg.requests = [⟨.display, 7, 1, 0⟩]) && decide (t.chg.playing = some ⟨.display, true, 200000⟩)) = true
      ∧ resultIs (.chimePlay [8]) (part .run) 3 = true ∧ resultIs (.chimePlay [8]) (part .config) 4 = true
      ∧ resultIs (.chimePlay [0]) (part .parked) 4 = true ∧ resultIs (.chimeStop []) (part .config) 4 = true
      ∧ answers (.chimeStop []) (chiming true) (fun t => decide (t.chg.requests = []) && decide (t.chg.playing = none))
          = true := by
  decide +kernel

theorem test_trip_reset :
    answers (.tripReset [1]) (withSlot 4 77 .valid (part .config)) (fun t => decide ((t.slot 4).value = 0)) = true
      ∧ answers (.tripReset [0]) (part .run) (fun t => decide (t.inFlight = State.reset.inFlight)) = true
      ∧ resultIs (.tripReset [2]) (part .run) 3 = true := by
  decide +kernel

theorem test_odometer_load_and_cal_close :
    answers (.odometerLoad [0xFF, 0xC9, 0x9A, 0x3B]) { part .run with sdu := { Sdu.reset with preload := 5 } } (fun t =>
      decide ((t.slot 2).value = 999999999) && t.sdu.loadUsed) = true
      ∧ resultIs (.odometerLoad [0, 0xCA, 0x9A, 0x3B]) (part .run) 3 = true
      ∧ resultIs (.odometerLoad [0, 0, 0, 0]) { part .run with sdu := { Sdu.reset with loadUsed := true } } 5 = true
      ∧ answers (.calClose []) (part .run) (fun t =>
          !t.sdu.windowOpen && decide (t.cli.events.getLast? = some (.windowClosed false))) = true := by
  decide +kernel

theorem test_stop_request_clear :
    resultIs (.stopRequestClear []) (part .config) 4 = true
      ∧ answers (.stopRequestClear []) { part .parked with drm := { Drm.reset with latch := true } } (fun t =>
          !t.drm.latch && decide (t.cli.events.getLast? = some (.stopRequest false none))) = true := by
  decide +kernel

/-- A record of a line fault, STORED unless told otherwise. -/
def stored (l : Fin 48) (active : Bool) (aging : Nat) : FaultRecord :=
  ⟨.line l .shortGnd, 0, active, 255, none, none, aging, []⟩

/-- The fault memory with the given records. -/
def withRecords (l : List FaultRecord) (s : State) : State := { s with flt := { s.flt with records := l } }

theorem test_fault_restore :
    let body : List Byte := (stored 3 false 5).bytes ++ List.replicate 24 0
    body.length = 40 ∧ readFaultRecord body = some (stored 3 false 5)
      ∧ resultIs (.faultRestore body) (part .run) 4 = true
      ∧ resultIs (.faultRestore body) (withRecords [stored 3 false 0] (part .config)) 3 = true
      ∧ resultIs (.faultRestore body) (withRecords ((List.finRange 33).map fun k => stored ⟨k.val + 4, by omega⟩ false 0)
          (part .config)) 8 = true
      ∧ answers (.faultRestore body) (part .config) (fun t => decide (t.flt.records = [stored 3 false 5])) = true := by
  decide +kernel

/-! ### The cluster link -/

/-- The receiver in a state, the last byte at time 0. -/
def receiving (rx : Receiver) : State := { part .config with cli := { Cli.reset with rx } }

theorem test_received_bytes :
    answers (.receivedByte 0xA5 false) (receiving .hunt) (fun t => t.cli.rx = .length) = true
      ∧ answers (.receivedByte 61 false) (receiving .length) (fun t => t.cli.rx = .body 61 [] 61) = true
      ∧ answers (.receivedByte 62 false) (receiving .length) (fun t =>
          decide (t.cli.rx = .hunt) && decide (lastResponse t = some (1, []))) = true
      ∧ answers (.receivedByte 0x13 false) (receiving (.body 1 [] 1)) (fun t => t.cli.rx = .check [0x13] 0x14) = true
      ∧ answers (.receivedByte 0xEC false) (receiving (.check [0x13] 0x14)) (fun t =>
          (lastResponse t).any fun r => r.1 == 0) = true
      ∧ answers (.receivedByte 0xED false) (receiving (.check [0x13] 0x14)) (fun t =>
          decide (lastResponse t = some (1, []))) = true := by
  decide +kernel

theorem test_received_bytes_idle :
    exec (.receivedByte 0xA5 true) (receiving .hunt) = .next (receiving .hunt) :=
  rfl

theorem test_discards :
    answers .clRecordDiscard (receiving .length) (fun t => decide (t.cli.responses = [⟨0, .format, [], true⟩])) = true
      ∧ answers .receiveGapExpiry { receiving .length with now := 5000 } (fun t => t.cli.rx = .hunt) = true
      ∧ answers .clRecordDiscard { part .config with cli := { Cli.reset with
          responses := List.replicate 4 ⟨0, .format, [], true⟩ } } (fun t => t.cli.responses.length = 4) = true
      ∧ resultIs (.unknownKindRecord 0x14 []) (part .config) 2 = true
      ∧ resultIs (.unknownKindRecord 0 []) (part .config) 2 = true := by
  decide +kernel

theorem test_discards_idle :
    exec .receiveGapExpiry { receiving .length with now := 4999 } = .next { receiving .length with now := 4999 } :=
  rfl

/-- A transmitter that may send, with the given lists. -/
def sender (responses : List Response) (events : List Event) (updates : List Slot) : State :=
  { part .run with now := 20000, cli := { Cli.reset with lrdy := true, wake := true, responses, events, updates } }

theorem test_transmitter :
    answers .lrdyAsserted (sender [⟨5, .ok, [], false⟩] [.windowClosed true] [1]) (fun t =>
      decide (t.cli.responses = []) && decide (t.cli.tx = some [0xA5, 3, 0x80, 5, 0, 0x78]) && !t.cli.wake) = true
      ∧ answers .lrdyAsserted (sender [] [.windowClosed true] [1]) (fun t => decide (t.cli.events = [])) = true
      ∧ answers .recordTransmitEnd { sender [] [] [3, 4] with cli := { (sender [] [] [3, 4]).cli with tx := some [] } }
          (fun t => decide (t.cli.updates = [4]) && decide (t.cli.reports[3].last = some (0, .valid))) = true
      ∧ answers .lrdyDeasserted (sender [] [] []) (fun t => !t.cli.lrdy) = true := by
  decide +kernel

theorem test_transmitter_idle :
    exec .lrdyAsserted (sender [] [] []) = .next (sender [] [] [])
      ∧ exec .recordTransmitEnd (sender [] [] []) = .next (sender [] [] []) :=
  ⟨rfl, rfl⟩

theorem test_reporting_timers :
    let s := withSignal 20 (lineSignal 1 none) { sender [] [] [] with now := 100000 }
    let held := { s with cli := { s.cli with lrdy := false } }
    answers (.heartbeat 20) s (fun t => decide (t.cli.reports[20].last = some (0, .neverReceived))) = true
      ∧ answers (.heartbeat 20) held (fun t => decide (t.cli.updates = [20])) = true
      ∧ answers (.minimumIntervalReached 20) { s with cli := { s.cli with updates := [20] } } (fun t =>
          decide (t.cli.updates = [])) = true := by
  decide +kernel

theorem test_reporting_timers_idle :
    let s := withSignal 20 (lineSignal 1 none) { sender [] [] [] with now := 100000 }
    exec (.heartbeat 20) { s with now := 99999 } = .next { s with now := 99999 }
      ∧ exec (.minimumIntervalReached 20) s = .next s :=
  ⟨rfl, rfl⟩

/-! ### Frames and lines -/

/-- A frame entry loaded, with its run-time state, VA running, and slot 20 carried in its first byte. -/
def withFrame (r : FrameRun) (s : State) : State :=
  let e : SignalEntry := { lineSignal 3 none with kind := .frame, naCheck := true, length := 8, mult := 1, max := 300 }
  withSignal 20 e { s with frp := { s.frp with
      vaRate := .k250, table := s.frp.table.set 3 (readFrameEntry frameBytes), run := s.frp.run.set 3 r } }

theorem test_frame_received :
    let s := withFrame ⟨.firstWait 100000, none, 0, true, false, true⟩ (part .run)
    answers (.frameReceived .va false 0x100 1 [0xFD]) s (fun t =>
      decide (t.slot 20 = ⟨253, .valid, some 0⟩)
        && decide (frameRun 3 t = ⟨.timed 50000, none, 0, false, false, false⟩)) = true
      ∧ answers (.frameReceived .va false 0x100 1 [0xFE]) s (fun t =>
          decide ((t.slot 20).quality = .senderError) && t.frp.senderErr[20]) = true
      ∧ answers (.frameReceived .va false 0x100 1 [0xFF]) s (fun t =>
          decide ((t.slot 20).quality = .notAvailable)) = true := by
  decide +kernel

theorem test_frame_received_idle :
    let s := withFrame ⟨.firstWait 100000, none, 0, true, false, true⟩ (part .run)
    exec (.frameReceived .va false 0x101 1 [0xFF]) s = .next s
      ∧ exec (.frameReceived .vb false 0x100 1 [0xFF]) s = .next s
      ∧ exec (.frameReceived .va false 0x100 1 [0xFF]) { s with opState := .config }
          = .next { s with opState := .config }
      ∧ exec (.frameReceived .va false 0x100 1 [0xFF]) { s with opState := .parked }
          = .next { s with opState := .parked } :=
  ⟨rfl, rfl, rfl, rfl⟩

theorem test_frame_checks :
    let s := withFrame ⟨.untimed, none, 0, false, false, false⟩ (part .run)
    let alive (r : FrameRun) := { s with frp := { s.frp with
      table := s.frp.table.set 3 ((readFrameEntry frameBytes).map fun e => { e with alive := some (0, false) })
      run := s.frp.run.set 3 r } }
    let wakes := { s with opState := .parked, frp := { s.frp with
      table := s.frp.table.set 3 ((readFrameEntry frameBytes).map fun e => { e with wake := true }) } }
    answers (.frameReceived .va false 0x100 0 []) s (fun t => (frameRun 3 t).lengthFlag
      && decide (t.inFlight.getLast? = some (.faultConditionStart (.frame 3 .length) 0))) = true
      ∧ answers (.frameReceived .va false 0x100 1 [0]) wakes (fun t =>
          t.cli.wake && decide (t.cli.events.getLast? = some (.state .parked .wakeFrame))) = true
      ∧ answers (.frameReceived .va false 0x100 1 [0x07]) (alive ⟨.untimed, some 7, 0, false, false, false⟩) (fun t =>
          decide ((t.slot 20).quality = .neverReceived)) = true
      ∧ answers (.frameReceived .va false 0x100 1 [0x09]) (alive ⟨.untimed, some 7, 2, false, false, false⟩) (fun t =>
          decide (frameRun 3 t = ⟨.untimed, some 9, 3, false, true, false⟩)) = true
      ∧ answers (.frameReceived .va false 0x100 1 [0x00]) (alive ⟨.untimed, some 15, 3, false, true, false⟩) (fun t =>
          decide (frameRun 3 t = ⟨.timed 50000, some 0, 0, false, false, false⟩)) = true := by
  decide +kernel

theorem test_frame_timer :
    answers (.frameTimerExpiry 3) (withSlot 20 5 .valid (withFrame ⟨.timed 0, some 1, 2, false, false, false⟩ (part .run)))
      (fun t => decide (t.slot 20 = ⟨5, .stale, some 0⟩)
        && decide (frameRun 3 t = ⟨.lapsed, none, 2, false, false, true⟩)) = true
      ∧ answers (.frameTimerExpiry 3) (withFrame ⟨.firstWait 0, none, 0, false, false, true⟩ (part .run)) (fun t =>
          decide ((frameRun 3 t).timer = .lapsed) && decide (t.inFlight = State.reset.inFlight)) = true := by
  decide +kernel

theorem test_park_stales :
    answers (.park []) (withSlot 11 1 .valid (withSlot 20 5 .valid (withFrame ⟨.timed 9, none, 0, false, false, false⟩
      (part .run)))) (fun t =>
      decide (t.slot 20 = ⟨5, .stale, some 0⟩) && t.inFlight.contains .agingPass && decide ((t.slot 11).value = 0)) = true
      ∧ answers (.reset []) (withSlot 20 5 .valid (withFrame .reset (part .run))) (fun t =>
          decide (t.slot 20 = ⟨0, .neverReceived, none⟩)) = true := by
  decide +kernel

theorem test_frame_timer_idle :
    let s := withFrame ⟨.timed 1, none, 0, false, false, false⟩ (part .run)
    exec (.frameTimerExpiry 3) s = .next s
      ∧ exec (.frameTimerExpiry 63) (part .run) = .next (part .run) :=
  ⟨rfl, rfl⟩

/-- Line 1 in scan slot 0, due now, with its state. -/
def scanning (cls : Byte) (r : LineRun) (st : OpState) : State :=
  let s := withLine 1 (readLineEntry 1 (lineBytesOf cls 0)) r (withSignal 20 (lineSignal 1 none) (calibrated st))
  { s with lsc := { s.lsc with scan := some [1, 0], scanDue := some 0 } }

theorem test_scan_slot :
    answers (.scanSlotExpiry 200) (scanning 0 ⟨none, none, none, none, none⟩ .run) (fun t =>
      decide (t.lsc.lines[1] = ⟨some 200, some .active, none, some true, none⟩)
        && decide (t.slot 20 = ⟨1, .valid, some 0⟩) && decide (t.lsc.scanPos = 1)
        && decide (t.lsc.scanDue = some 250)) = true
      ∧ answers (.scanSlotExpiry 700) (scanning 0 ⟨none, some .active, some (.openCircuit, 19), some true, none⟩ .run)
          (fun t => decide ((t.slot 20).quality = .lineFault)
            && decide (t.inFlight.contains (.faultConditionStart (.line 1 .openCircuit) 4))) = true
      ∧ answers (.scanSlotExpiry 700) (scanning 0 ⟨none, some .active, none, some true, none⟩ .run) (fun t =>
          decide (t.lsc.lines[1].candidate = some (.openCircuit, 1))) = true
      ∧ answers (.scanSlotExpiry 200) (scanning 0 ⟨none, some .active, some (.inactive, 1), some true, none⟩ .run)
          (fun t => decide (t.lsc.lines[1].candidate = none)) = true
      ∧ answers (.scanSlotExpiry 512) (scanning 2 ⟨none, none, none, none, none⟩ .config) (fun t =>
          decide (t.slot 20 = ⟨100, .limited, some 0⟩)) = true
      ∧ answers (.scanSlotExpiry 1023) (scanning 3 ⟨none, some .senderOk, some (.openCircuit, 254), none, none⟩ .run) (fun t =>
          t.lsc.senderFault && decide (t.lsc.lines[1].accepted.any Reading.isFault = true)) = true := by
  decide +kernel

theorem test_readings_and_counts :
    (∀ (x : Byte × BitVec 10 × Reading), x ∈ ([(0, 99, .shortGnd), (0, 100, .active), (1, 299, .inactive), (1, 300, .active),
        (0, 599, .inactive), (0, 600, .openCircuit), (1, 999, .openCircuit), (1, 1000, .shortSupply), (2, 100, .value),
        (2, 999, .value), (2, 1000, .openCircuit), (3, 99, .shortGnd), (3, 600, .senderOk)] :
          List (Byte × BitVec 10 × Reading)) →
      answers (.scanSlotExpiry x.2.1) (scanning x.1 ⟨none, none, some (x.2.2, 254), none, none⟩ .run) (fun t =>
        decide (t.lsc.lines[1].accepted = some x.2.2)) = true)
      ∧ answers (.scanSlotExpiry 50) { part .run with now := 1000, lsc := { Lsc.reset with
          lines := Lsc.reset.lines.set 0 ⟨none, none, some (.shortGnd, 18), none, none⟩ } } (fun t =>
          decide (t.lsc.lines[0].candidate = some (.shortGnd, 19))) = true
      ∧ answers (.scanSlotExpiry 50) { part .run with now := 1000, lsc := { Lsc.reset with
          lines := Lsc.reset.lines.set 0 ⟨none, none, some (.shortGnd, 19), none, none⟩ } } (fun t =>
          decide (t.lsc.lines[0].accepted = some .shortGnd)) = true := by
  decide +kernel

theorem test_curves :
    let c : Curve := ⟨[(4, 0), (6, -3), (9, 2)]⟩
    convert c 3 = (0, .limited) ∧ convert c 4 = (0, .valid) ∧ convert c 5 = (-2, .valid) ∧ convert c 6 = (-3, .valid)
      ∧ convert c 8 = (0, .valid) ∧ convert c 9 = (2, .valid) ∧ convert c 10 = (2, .limited)
      ∧ RoundsTo (-3) 2 (-2) ∧ ¬RoundsTo (-3) 2 (-1) ∧ RoundsTo 10 3 3 := by
  unfold RoundsTo
  decide +kernel

/-- The line 1, of class PULSE_SENSE, about to accept a reading, beside an open window at 7.00 km/h. -/
def sensing (accepted next : Reading) (fault : Bool) (st : OpState) : State :=
  let s := withSlot 0 (if fault then 0 else 700) (if fault then .lineFault else .valid)
    (scanning 3 ⟨none, some accepted, some (next, 254), none, none⟩ st)
  { s with
    lsc := { s.lsc with senderFault := fault }
    sdu := { s.sdu with meas := if fault then .stopped else .opened 0 3, standFrom := some 0 } }

theorem test_sender_fault_followed :
    answers (.scanSlotExpiry 1023) (sensing .senderOk .openCircuit false .run) (fun t =>
      t.lsc.senderFault && decide (t.sdu.meas = .stopped) && decide (t.sdu.standFrom = none)
        && decide (t.slot 0 = ⟨0, .lineFault, some 0⟩) && decide (t.slot 1 = ⟨0, .lineFault, some 0⟩)) = true
      ∧ answers (.scanSlotExpiry 512) (sensing .openCircuit .senderOk true .sweep) (fun t =>
          !t.lsc.senderFault && decide (t.sdu.meas = .waiting) && decide (t.slot 0 = ⟨0, .valid, some 0⟩)) = true
      ∧ answers (.scanSlotExpiry 1023) (sensing .senderOk .openCircuit false .config) (fun t =>
          t.lsc.senderFault && decide (t.sdu.meas = .opened 0 3) && decide ((t.slot 0).quality = .lineFault)) = true := by
  decide +kernel

theorem test_parked_passes :
    let s := scanning 0 ⟨none, none, none, none, none⟩ .parked
    answers .parkedPassStart { s with lsc := { s.lsc with passDue := some 0 } } (fun t =>
      decide (t.lsc.scanPos = 1) && decide (t.lsc.scanDue = some 250) && decide (t.lsc.passDue = some 100000)) = true
      ∧ answers (.scanSlotExpiry 0) { s with lsc := { s.lsc with scanPos := 1 } } (fun t =>
          decide (t.lsc.scanDue = none) && decide (t.lsc.lines[0].lastCode = some 0)) = true := by
  decide +kernel

theorem test_parked_passes_idle :
    let s := scanning 0 ⟨none, none, none, none, none⟩ .parked
    exec .parkedPassStart s = .next s
      ∧ exec (.scanSlotExpiry 0) { s with lsc := { s.lsc with scanDue := some 1 } }
          = .next { s with lsc := { s.lsc with scanDue := some 1 } } :=
  ⟨rfl, rfl⟩

/-! ### Speed and distance -/

/-- The measurement in a state, the last accepted edge at time 0, with a residue. -/
def measuringAt (m : Measurement) (residue now : Nat) : State :=
  { calibrated .run with
    now
    sdu := { Sdu.reset with
      cal := some .unloaded, meas := m, filterRef := some 0, standFrom := some 0, boundDue := some 10000, residue } }

theorem test_pi_edge :
    answers .piEdge (measuringAt .waiting 0 20) (fun t =>
      decide (t.sdu.meas = .opened 20 0) && decide (t.sdu.residue = 100) && decide (t.sdu.standFrom = some 20)) = true
      ∧ answers .piEdge (measuringAt (.opened 0 1) 7899 99999) (fun t =>
          decide (t.sdu.meas = .opened 0 2) && decide (t.sdu.residue = 7999)) = true
      ∧ answers .piEdge (measuringAt (.opened 0 1) 7900 100000) (fun t =>
          decide (t.sdu.meas = .opened 100000 0) && decide (t.slot 0 = ⟨900, .valid, some 100000⟩)
            && decide (t.sdu.residue = 0) && decide (t.sdu.preload = 1) && decide ((t.slot 3).value = 1)
            && !t.sdu.windowOpen && decide (t.cli.events.getLast? = some (.windowClosed true))) = true
      ∧ answers .piEdge (measuringAt (.opened 0 99) 0 100000) (fun t =>
          decide (t.slot 0 = ⟨25000, .limited, some 100000⟩)) = true
      ∧ answers .piEdge { withSlot 4 9999999 .valid (measuringAt .stopped 7900 20) with
          sdu := { (measuringAt .stopped 7900 20).sdu with loadUsed := true } } (fun t =>
          decide ((t.slot 2).value = 1) && decide ((t.slot 4).value = 0) && decide (t.sdu.meas = .stopped)) = true := by
  decide +kernel

theorem test_pi_edge_ignored :
    exec .piEdge (part .config) = .next (part .config) ∧ exec .piEdge (part .parked) = .next (part .parked)
      ∧ exec .piEdge (measuringAt .waiting 0 19) = .next (measuringAt .waiting 0 19) :=
  ⟨rfl, rfl, rfl⟩

theorem test_speed_timers :
    answers .boundCheck (withSlot 0 5000 .valid (measuringAt (.opened 0 0) 0 10000)) (fun t =>
      decide (t.slot 0 = ⟨4500, .valid, some 10000⟩) && decide (t.sdu.boundDue = some 20000)) = true
      ∧ answers .boundCheck (withSlot 0 4500 .valid (measuringAt (.opened 0 0) 0 10000)) (fun t =>
          decide (t.slot 0 = ⟨4500, .valid, some 0⟩)) = true
      ∧ answers .standstillTimerExpiry (withSlot 0 5 .valid (measuringAt (.opened 0 0) 0 1000000)) (fun t =>
          decide (t.slot 0 = ⟨0, .valid, some 1000000⟩) && decide (t.sdu.meas = .waiting)) = true
      ∧ answers .plausibilityTimerExpiry
          { part .run with now := 2000000, sdu := { Sdu.reset with plausFrom := some 0 } } (fun t =>
          t.sdu.plausPresent && decide (t.inFlight.getLast? = some (.faultConditionStart .speed 0))) = true := by
  decide +kernel

theorem test_speed_timers_not_due :
    exec .boundCheck (measuringAt (.opened 0 0) 0 9999) = .next (measuringAt (.opened 0 0) 0 9999)
      ∧ exec .standstillTimerExpiry (measuringAt (.opened 0 0) 0 999999) = .next (measuringAt (.opened 0 0) 0 999999)
      ∧ exec .plausibilityTimerExpiry (part .run) = .next (part .run) :=
  ⟨rfl, rfl, rfl⟩

/-- Slot 20 is the frame speed slot, at 1,000; the pulse speed has a value and a quality. -/
def twoSources (pulse : Int) (q : Quality) (implausible : Bool) : State :=
  withSlot 20 1000 .valid (withSlot 0 pulse q { part .run with
    sdu := { Sdu.reset with cal := some { CalEntry.unloaded with frameSlot := some 20 }, implausible } })

theorem test_frame_speed :
    answers .frameSpeedNotification (twoSources 700 .valid false) (fun t =>
      decide ((t.slot 1).value = 700) && decide (t.sdu.plausFrom = none)) = true
      ∧ answers .frameSpeedNotification (twoSources 699 .valid true) (fun t =>
          decide ((t.slot 1).value = 1000) && decide (t.sdu.plausFrom = some 0)
            && decide ((t.slot 11).value = 1)) = true
      ∧ answers .frameSpeedNotification (twoSources 0 .lineFault false) (fun t =>
          decide (t.slot 1 = ⟨1000, .substituted, some 0⟩)) = true
      ∧ answers .frameSpeedNotification (part .config) (fun t => decide ((t.slot 1).quality = .notAvailable)) = true := by
  decide +kernel

/-! ### Gauges -/

/-- Channel 0 follows slot 20 over 0 to 100 with span 4,000, no damping, rate 64, hold time 0; the interval is due. -/
def gauging (st : OpState) (enabled : Bool) (p : Nat) (phase : Option SweepPhase) : State :=
  { part st with gdr := { Gdr.reset with
      homingDone := true, homingIntervals := 65, sweepPhase := phase, intervalDue := 0
      table := Gdr.reset.table.set 0 (some ⟨enabled, 20, 0, 100, 4000, 0, 64, 0⟩)
      run := Gdr.reset.run.set 0 ⟨p, 256 * p, 0, p, none⟩ } }

theorem test_gauge_interval :
    answers .gaugeInterval (withSlot 20 50 .valid (gauging .run true 1936 none)) (fun t =>
      decide (gaugeRun 0 t = ⟨2000, 512000, 2000, 2000, none⟩)) = true
      ∧ answers .gaugeInterval (gauging .run true 100 none) (fun t =>
          decide (gaugeRun 0 t = ⟨36, 0, 0, 100, some 0⟩)) = true
      ∧ answers .gaugeInterval { gauging .run false 0 none with wsp := { Wsp.reset with test := some (.gauge 0 65) } }
          (fun t => decide ((gaugeRun 0 t).p = 64)) = true
      ∧ answers .gaugeInterval (gauging .config true 65 none) (fun t => decide ((gaugeRun 0 t).p = 1)) = true
      ∧ answers .gaugeInterval (gauging .sweep true 3936 (some .rise)) (fun t =>
          decide ((gaugeRun 0 t).p = 4000) && decide (t.gdr.sweepPhase = some (.hold 0))) = true
      ∧ answers .gaugeInterval (gauging .sweep true 4000 (some (.hold 49))) (fun t =>
          decide (t.gdr.sweepPhase = some .fall)) = true
      ∧ answers .gaugeInterval (gauging .sweep true 64 (some .fall)) (fun t =>
          decide (t.gdr.sweepPhase = some .complete) && decide (t.inFlight.getLast? = some .sweepComplete)) = true := by
  decide +kernel

theorem test_homing_intervals :
    answers .gaugeInterval { State.reset with now := 10000, gdr := { Gdr.reset with homingIntervals := 64 } } (fun t =>
      decide (t.gdr.homingIntervals = 65) && decide (t.inFlight.getLast? = some .homingEnd)) = true
      ∧ answers .gaugeInterval { State.reset with now := 10000, gdr := { Gdr.reset with homingIntervals := 65 } }
          (fun t => decide (t.gdr.homingIntervals = 65)) = true
      ∧ exec .gaugeInterval State.reset = .next State.reset :=
  ⟨by decide +kernel, by decide +kernel, rfl⟩

theorem test_gauge_reports :
    let waits : State := { State.reset with
      gdr := { Gdr.reset with homingIntervals := 65 }, cli := { Cli.reset with inbound := [⟨5, []⟩] } }
    answers .homingEnd { waits with cli := Cli.reset } (fun t => t.gdr.homingDone) = true
      ∧ answers .homingEnd waits (fun t => decide (t.cli.inbound = []) && decide (lastResponse t = some (6, [11, 0])))
          = true
      ∧ answers .homingEnd { waits with cli := { Cli.reset with inbound := [⟨5, []⟩, ⟨0x13, []⟩] } } (fun t =>
          decide (t.cli.inbound = []) && decide (t.cli.responses.map Response.kind = [5, 0x13])) = true
      ∧ homingTravel waits = 4100
      ∧ answers .homingEnd (part .run) (fun t => decide (t.opState = .run)) = true
      ∧ ignitionIs 0 (gauging .sweep true 0 (some .complete)) = false
      ∧ answers .sweepComplete (gauging .sweep true 0 (some .complete)) (fun t =>
          decide (t.opState = .run) && decide (t.gdr.sweepPhase = none)
            && decide (t.cli.events.getLast? = some (.state .run .sweepComplete))) = true
      ∧ answers .sweepComplete (gauging .sweep true 0 (some .fall)) (fun t => decide (t.opState = .sweep)) = true
      ∧ answers .sweepComplete { withSlot 7 0 .valid (gauging .sweep true 0 (some .complete)) with
          cli := { Cli.reset with link := some { LinkEntry.unloaded with parkDelay := 0 } } } (fun t =>
          decide (t.opState = .parked)) = true := by
  decide +kernel

/-! ### Warnings and chime -/

/-- Entry 95 (SIGNAL_ABOVE on slot 20, set at 50, cleared at 40) with its run-time state, and the slot's value. -/
def warned (flags : Byte) (r : WarnRun) (v : Int) (q : Quality) (st : OpState) : State :=
  withSlot 20 v q { part st with wrn := { Wrn.reset with
    table := Wrn.reset.table.set 95 (readWarnEntry (warningBytes flags)), run := Wrn.reset.run.set 95 r } }

/-- A run-time state with a condition. -/
def warnAt (state : WarnState) (cond : Bool) (timer : Option Nat) : WarnRun :=
  ⟨state, some cond, false, cond, timer, false, 0⟩

theorem test_evaluation :
    answers (.evaluation 20) (warned 9 (warnAt .off false none) 50 .valid .run) (fun t =>
      decide ((warnRun 95 t).state = .onUnack) && (warnRun 95 t).observed && decide (topWarning t = some 95)
        && decide ((t.slot 9).value = 1) && t.inFlight.contains (.requestPlacing (.warning 95) 2)) = true
      ∧ answers (.evaluation 20) (warned 9 (warnAt .off false none) 49 .valid .run) (fun t =>
          decide ((warnRun 95 t).state = .off)) = true
      ∧ answers (.evaluation 20) (warned 9 (warnAt .onUnack true none) 41 .valid .run) (fun t =>
          decide ((warnRun 95 t).state = .onUnack)) = true
      ∧ answers (.evaluation 20) (warned 9 (warnAt .onUnack true none) 40 .valid .sweep) (fun t =>
          decide ((warnRun 95 t).state = .offDelayUnacked) && decide ((warnRun 95 t).timer = some 10000)) = true
      ∧ answers (.evaluation 20) (warned 9 (warnAt .onUnack true none) 0 .stale .run) (fun t =>
          (warnRun 95 t).unknown && decide ((warnRun 95 t).state = .onUnack)) = true
      ∧ answers (.evaluation 20) (warned 8 (warnAt .off false none) 50 .valid .run) (fun t =>
          (warnRun 95 t).observed && decide ((warnRun 95 t).state = .off)) = true := by
  decide +kernel

theorem test_entry_followed :
    answers (.evaluation 20) (warned 9 (warnAt .off false none) 50 .valid .run) (fun t =>
      decide ((warnRun 95 t).join = 0) && decide (t.wrn.joinCounter = 1) && decide (t.wrn.reportedTop = some 95)
        && decide (t.cli.events.getLast? = some (.warning 95 .onUnack false true))) = true
      ∧ (let s := warned 9 (warnAt .off false none) 50 .valid .run
        answers (.evaluation 20) { s with wrn := { s.wrn with joinCounter := 65535 } } (fun t =>
          decide ((warnRun 95 t).join = 0) && decide (t.wrn.joinCounter = 1)) = true)
      ∧ (let s := withSignal 20 (lineSignal 0 none) (warned 9 (warnAt .off false none) 50 .valid .parked)
        answers (.evaluation 20) s (fun t => decide ((warnRun 95 t).state = .onUnack)) = true
          ∧ (readWarnEntry (warningBytes 9)).any (fun e => evaluated e s) = true
          ∧ answers (.warningTimerExpiry 95) { s with wrn := { s.wrn with
              run := s.wrn.run.set 95 (warnAt .onDelay true (some 0)) } } (fun t =>
              decide ((warnRun 95 t).state = .onUnack)) = true)
      ∧ answers (.evaluation 20) (warned 9 (warnAt .off false none) 50 .valid .parked) (fun t =>
          decide ((warnRun 95 t).state = .off)) = true := by
  decide +kernel

theorem test_evaluation_config :
    answers (.evaluation 20) (warned 9 (warnAt .off false none) 50 .valid .config) (fun t =>
      decide (warnRun 95 t = warnAt .off false none)) = true := by
  decide +kernel

theorem test_warning_timers :
    answers (.warningTimerExpiry 95) (warned 9 (warnAt .onDelay true (some 0)) 50 .valid .run) (fun t =>
      decide ((warnRun 95 t).state = .onUnack)) = true
      ∧ answers (.warningTimerExpiry 95) (warned 1 (warnAt .onDelay true (some 0)) 50 .valid .run) (fun t =>
          decide (warnRun 95 t = warnAt .onAck true none)) = true
      ∧ answers (.warningTimerExpiry 95) (warned 9 (warnAt .offDelayAcked false (some 0)) 0 .valid .sweep) (fun t =>
          decide ((warnRun 95 t).state = .off)) = true
      ∧ answers .flashClock { part .run with now := 500000 } (fun t =>
          !t.wrn.flashLit && decide (t.wrn.flashDue = 1000000)) = true
      ∧ exec .flashClock (part .run) = .next (part .run)
      ∧ exec (.warningTimerExpiry 0) (part .run) = .next (part .run) :=
  ⟨by decide +kernel, by decide +kernel, by decide +kernel, by decide +kernel, rfl, rfl⟩

theorem test_telltales :
    telltaleLit 3 (warned 41 (warnAt .onUnack true none) 50 .valid .run) = true
      ∧ telltaleLit 3 { warned 41 (warnAt .onUnack true none) 50 .valid .run with
          wsp := { Wsp.reset with test := some (.telltale 3 false) } } = false
      ∧ telltaleLit 3 (warned 9 (warnAt .onDelay true none) 50 .valid .run) = false
      ∧ telltaleLit 3 (warned 9 (warnAt .onAck true none) 50 .valid .run) = true
      ∧ telltaleLit 31 (part .sweep) = true ∧ telltaleLit 31 (part .run) = false := by
  decide +kernel

/-- Two requests held: entry 7's plays, of pattern 1 (priority 3), over portal 0's of pattern 0. -/
def arbitrating (inTone : Bool) (count : Nat) (st : OpState) : State :=
  { part st with now := 100, chg := { Chg.reset with
      table := Chg.reset.table.set 1 (readPattern patternBytes), seq := 2
      requests := [⟨.portal 0, 0, 1, 0⟩, ⟨.warning 7, 1, 2, count⟩], playing := some ⟨.warning 7, inTone, 100⟩ } }

theorem arbitrating_legal :
    ChimeLegal (arbitrating false 0 .run) ∧ ChimeLegal (arbitrating true 0 .run) ∧ ChimeLegal (arbitrating true 0 .parked) := by
  refine ⟨⟨?_, ?_, ?_, ?_, ?_, fun b hb => ?_⟩, ⟨?_, ?_, ?_, ?_, ?_, fun b hb => ?_⟩, ⟨?_, ?_, ?_, ?_, ?_, fun b hb => ?_⟩⟩
  all_goals first
    | decide +kernel
    | (cases hb; exact ⟨⟨.warning 7, 1, 2, 0⟩, ⟨by decide +kernel, by decide +kernel⟩, rfl⟩)

theorem test_chime_requests :
    answers (.requestPlacing (.portal 3) 0) (arbitrating true 0 .run) (fun t =>
      decide (t.chg.requests.getLast? = some ⟨.portal 3, 0, 3, 0⟩) && (portalRun 3 t).held
        && decide (t.chg.playing = some ⟨.warning 7, true, 100⟩)) = true
      ∧ answers (.requestPlacing (.portal 0) 1) (arbitrating true 0 .parked) (fun t =>
          decide (t.chg.requests = [⟨.warning 7, 1, 2, 0⟩])) = true
      ∧ answers (.requestWithdrawal (.warning 7)) (arbitrating true 0 .run) (fun t =>
          decide (t.chg.playing = some ⟨.portal 0, true, 200100⟩)) = true
      ∧ answers (.requestPlacing (.warning 7) 1) (arbitrating false 0 .run) (fun t =>
          decide (t.chg.playing = some ⟨.warning 7, true, 200100⟩)) = true
      ∧ answers (.requestPlacing .display 1) (arbitrating false 0 .run) (fun t =>
          decide (t.chg.playing = some ⟨.warning 7, false, 100⟩)) = true
      ∧ toneHalfPeriod (arbitrating true 0 .run) = some 1000 ∧ levelCode (arbitrating true 0 .run) = 0
      ∧ tonePin { arbitrating true 0 .run with now := 0 } = false := by
  decide +kernel

theorem test_chime_play_arbitrates :
    LinkReady (arbitrating true 0 .run)
      ∧ answers (.chimePlay [0]) (arbitrating true 0 .run) (fun t =>
          decide (t.chg.playing = some ⟨.warning 7, true, 100⟩)) = true
      ∧ answers (.chimeStop []) (arbitrating true 0 .run) (fun t =>
          decide (t.chg.playing = some ⟨.warning 7, true, 100⟩) && decide (t.chg.requests.length = 2)) = true
      ∧ answers (.chimePlay [1]) (chiming false) (fun t => decide (t.chg.playing = some ⟨.display, true, 200000⟩)) = true :=
  ⟨⟨rfl, rfl⟩, by decide +kernel, by decide +kernel, by decide +kernel⟩

theorem test_pattern_write_cuts :
    (readPattern patternBytes).isSome = true ∧ LinkReady (arbitrating true 1 .run)
      ∧ answers (.patternTableWrite (1 :: patternBytes)) (arbitrating true 1 .run) (fun t =>
          decide (t.chg.playing = some ⟨.warning 7, true, 200100⟩)
            && decide (t.chg.requests = [⟨.portal 0, 0, 1, 0⟩, ⟨.warning 7, 1, 2, 1⟩])) = true
      ∧ answers (.patternTableWrite (1 :: patternBytes)) (arbitrating true 2 .run) (fun t =>
          decide (t.chg.requests = [⟨.portal 0, 0, 1, 0⟩])) = true :=
  ⟨by decide +kernel, ⟨rfl, rfl⟩, by decide +kernel, by decide +kernel⟩

theorem test_bursts :
    answers .onTimeEnd (arbitrating true 0 .run) (fun t => decide (t.chg.playing = some ⟨.warning 7, false, 200100⟩))
      = true
      ∧ answers .burstEnd (arbitrating false 0 .run) (fun t =>
          decide (t.chg.requests = [⟨.portal 0, 0, 1, 0⟩, ⟨.warning 7, 1, 2, 1⟩])
            && decide (t.chg.playing = some ⟨.warning 7, true, 200100⟩)) = true
      ∧ answers .burstEnd (arbitrating false 1 .run) (fun t =>
          decide (t.chg.requests = [⟨.portal 0, 0, 1, 0⟩])
            && decide (t.chg.playing = some ⟨.portal 0, true, 200100⟩)) = true
      ∧ exec .burstEnd (arbitrating true 0 .run) = .next (arbitrating true 0 .run)
      ∧ exec .onTimeEnd (arbitrating false 0 .run) = .next (arbitrating false 0 .run) :=
  ⟨by decide +kernel, by decide +kernel, by decide +kernel, rfl, rfl⟩

/-! ### Doors -/

/-- Leaf 0 of portal 0 on the slots 20 (closed), 21 (open) and 22 (edge), its lock not fitted, requests from slot 23. -/
def doored (state : LeafState) (closed opened edge request : Int) (st : OpState) : State :=
  withSlot 20 closed .valid (withSlot 21 opened .valid (withSlot 22 edge .valid (withSlot 23 request .valid
    { part st with drm := { Drm.reset with
        table := Drm.reset.table.set 0 (some ⟨true, 20, 21, none, 22, 400, false, none, none, some 23, 5⟩)
        leaves := Drm.reset.leaves.set 0 { LeafRun.reset with state } } })))

theorem test_doors :
    leafInputs 0 (doored .closed 0 0 0 0 .run) = [20, 21, 22]
      ∧ answers (.doorInputNotification 20) (doored .closed 0 0 0 0 .run) (fun t =>
          decide ((leafRun 0 t).state = .opening) && decide ((leafRun 0 t).transitDue = some 4000000)) = true
      ∧ answers (.doorInputNotification 21) (doored .opening 0 1 0 0 .run) (fun t =>
          decide ((leafRun 0 t).state = .opened) && decide ((leafRun 0 t).cycles = 1)
            && decide ((t.slot 8).value = 1)) = true
      ∧ answers (.doorInputNotification 20) (doored .closing 1 0 0 0 .sweep) (fun t =>
          decide ((leafRun 0 t).state = .locked)) = true
      ∧ answers (.doorInputNotification 20) (doored .closing 1 1 0 0 .run) (fun t =>
          decide ((leafRun 0 t).state = .fault)
            && t.inFlight.contains (.faultConditionStart (.door 0 .inconsistent) 5)) = true
      ∧ answers (.doorInputNotification 22) (doored .closing 0 0 1 0 .run) (fun t =>
          (leafRun 0 t).edge && decide ((leafRun 0 t).obstructions = 1)) = true
      ∧ answers (.doorInputNotification 23) (doored .closed 1 0 0 1 .parked) (fun t =>
          t.drm.latch && t.cli.wake && decide ((t.slot 6).value = 1)) = true
      ∧ answers (.doorInputNotification 20) (doored .closed 0 0 0 0 .config) (fun t =>
          decide ((leafRun 0 t).state = .closed)) = true := by
  decide +kernel

/-- The portal of `doored` OPEN, a request pressed, VEHICLE_SPEED 0. -/
def pressed (state : LeafState) (closed opened : Int) : State :=
  let s := withSlot 1 0 .valid (doored state closed opened 0 0 .run)
  { s with drm := { s.drm with latch := true, portals := s.drm.portals.set 0 ⟨.secured, false, true, false, false⟩ } }

theorem test_portals :
    answers (.doorInputNotification 20) (pressed .locked 0 0) (fun t =>
      decide (portalRun 0 t = ⟨.opened, false, false, false, false⟩) && !t.drm.latch && decide ((t.slot 6).value = 0)
        && decide (t.cli.events.drop 1 = [.doorLeaf 0 .opening, .doorPortal 0 .opened false, .stopRequest false (some 0)]))
      = true
      ∧ answers (.doorInputNotification 20) (withSlot 1 300 .valid (pressed .locked 0 0)) (fun t => t.drm.latch) = true
      ∧ answers (.doorInputNotification 20) (doored .closing 1 0 0 0 .run) (fun t =>
          decide ((portalRun 0 t).state = .secured) && decide ((t.slot 5).value = 1) && decide ((t.slot 8).value = 0))
          = true
      ∧ answers (.doorInputNotification 23) (withSlot 23 0 .stale (pressed .locked 1 0)) (fun t =>
          (portalRun 0 t).requested && !(portalRun 0 t).reading) = true := by
  decide +kernel

theorem test_transit_timer :
    let moving (due : Nat) : State := { part .run with
      drm := { Drm.reset with leaves := Drm.reset.leaves.set 7 { LeafRun.reset with
        state := .opening, transitDue := some due, transitStart := some 0 } } }
    answers (.transitTimerExpiry 7) (moving 0) (fun t =>
      decide (leafRun 7 t = { LeafRun.reset with state := .ajar, transitStart := some 0, transitFlag := true })
        && decide (t.inFlight.contains (.faultConditionStart (.door 7 .transit) 0))) = true
      ∧ exec (.transitTimerExpiry 7) (moving 1) = .next (moving 1) :=
  ⟨by decide +kernel, rfl⟩

/-! ### Fault memory -/

/-- A full list of records of the lines 4 to 35, all ACTIVE but line 10's. -/
def fullRecords (allActive : Bool) : State :=
  withRecords ((List.finRange 32).map fun k => stored ⟨k.val + 4, by omega⟩ (allActive || k.val ≠ 6) 0) (part .run)

theorem test_fault_start :
    answers (.faultConditionStart (.line 3 .shortGnd) 0) (withRecords [stored 3 false 5] (part .run)) (fun t =>
      decide (t.flt.records = [stored 3 true 0])
        && decide (t.cli.events.getLast? = some (.fault (.line 3 .shortGnd) .active 255))
        && decide ((t.slot 10).value = 1)) = true
      ∧ answers (.faultConditionStart (.line 3 .shortGnd) 0) (withRecords [stored 3 true 5] (part .run)) (fun t =>
          decide (t.flt.records = [stored 3 true 5])) = true
      ∧ answers (.faultConditionStart .speed 2) (part .run) (fun t =>
          decide (t.flt.records = [⟨.speed, 2, true, 1, none, none, 0, []⟩]) && t.sdu.implausible) = true
      ∧ (recordOf .speed (fullRecords false) = none ∧ recordOf .speed (fullRecords true) = none)
      ∧ answers (.faultConditionStart .speed 2) (fullRecords false) (fun t =>
          decide (t.flt.records.length = 32) && decide (recordOf (.line 10 .shortGnd) t = none)
            && (recordOf .speed t).isSome) = true
      ∧ answers (.faultConditionStart .speed 2) (fullRecords true) (fun t =>
          t.flt.overflow && decide (recordOf .speed t = none)) = true := by
  decide +kernel

theorem test_fault_end :
    answers (.faultConditionEnd (.line 3 .shortGnd) 0) (withRecords [stored 3 true 5] (part .run)) (fun t =>
      decide (t.flt.records = [stored 3 false 5])
        && decide (t.cli.events.getLast? = some (.fault (.line 3 .shortGnd) .stored 255))) = true
      ∧ answers (.faultConditionEnd (.line 3 .shortGnd) 0) (withRecords [stored 3 false 5] (part .run)) (fun t =>
          decide (t.flt.records = [stored 3 false 5])) = true := by
  decide +kernel

/-- Class 0 with aging limit 6; a STORED record at 5, an ACTIVE one and a STORED one at 4. -/
def aging : State :=
  let s := withRecords [stored 3 false 5, stored 4 true 63, stored 5 false 4] (part .run)
  { s with flt := { s.flt with table := s.flt.table.set 0 (some ⟨1, 6, []⟩) } }

theorem test_aging_pass :
    (FaultMemoryLegal aging ∧ FaultMemoryLegal (fullRecords true))
      ∧ answers .agingPass aging (fun t => decide (t.flt.records = [stored 4 true 63, stored 5 false 5])
          && decide (t.cli.events.getLast? = some (.fault (.line 3 .shortGnd) .removed 255))) = true :=
  ⟨⟨⟨by decide +kernel, by decide +kernel⟩, by decide +kernel, by decide +kernel⟩, by decide +kernel⟩

/-- Entry 95 shows the ACTIVE records of class 0. -/
def classWarned (r : WarnRun) (s : State) : State :=
  let e := (readWarnEntry (warningBytes 9)).map fun e => { e with kind := .faultClass, sourceClass := 0 }
  { s with wrn := { s.wrn with table := s.wrn.table.set 95 e, run := s.wrn.run.set 95 r } }

theorem test_fault_handed_on :
    answers (.faultConditionStart (.line 3 .shortGnd) 0) (classWarned (warnAt .off false none) (part .run)) (fun t =>
      decide ((warnRun 95 t).state = .onUnack) && decide ((t.slot 9).value = 1)) = true
      ∧ answers (.faultConditionEnd (.line 3 .shortGnd) 0) (classWarned (warnAt .onUnack true none)
          (withRecords [stored 3 true 5] (part .run))) (fun t => decide ((warnRun 95 t).state = .offDelayUnacked)) = true
      ∧ answers (.faultConditionStart .speed 2) (classWarned (warnAt .onUnack true none) (fullRecords false)) (fun t =>
          decide ((warnRun 95 t).state = .onUnack)) = true
      ∧ answers (ask .clearFaults []) (classWarned (warnAt .onUnack true none) (withSlot 1 49 .valid
          { withRecords [stored 3 true 5] (part .run) with
            wsp := { Wsp.reset with settings := { Wsp.reset.settings with rate := .k500 } } })) (fun t =>
          decide ((warnRun 95 t).truth = some false)) = true
      ∧ answers .agingPass (classWarned (warnAt .onUnack true none) aging) (fun t =>
          decide ((warnRun 95 t).truth = some true)) = true
      ∧ answers (.faultConditionStart .speed 2) (twoSources 699 .valid false) (fun t =>
          t.sdu.implausible && decide (t.slot 1 = ⟨1000, .valid, some 0⟩)) = true
      ∧ answers (.faultConditionEnd .speed 2) (withRecords [⟨.speed, 2, true, 1, none, none, 0, []⟩]
          (twoSources 699 .valid true)) (fun t =>
          !t.sdu.implausible && decide (t.slot 1 = ⟨699, .valid, some 0⟩)) = true := by
  decide +kernel

/-! ### CLI's notifications -/

/-- The part in RUN again as one order of the blocks takes it there. -/
def returned (s : State) : State := tellRun 0 true { s with opState := .run }

theorem test_return_from_parked :
    let entry (r : WarnRun) := withSlot 7 1 .valid (warned 9 r 50 .valid .parked)
    let carried := withSignal 20 (lineSignal 0 none) (entry (warnAt .onAck true none))
    (warnRun 95 (returned (entry { WarnRun.reset with observed := true }))).state = .onUnack
      ∧ (readWarnEntry (warningBytes 9)).any (fun e => evaluated e carried) = true
      ∧ warnRun 95 (returned carried) = warnAt .onAck true none
      ∧ (leafRun 0 (returned (withSlot 20 0 .stale (doored .closed 0 1 0 0 .parked)))).state = .fault
      ∧ (leafRun 0 (returned (doored .closed 0 1 0 0 .parked))).state = .opened
      ∧ (gaugeRun 0 (returned (gauging .parked true 9 none))).f = 2304
      ∧ (returned (measuringAt .stopped 0 9)).sdu.meas = .waiting := by
  decide +kernel

theorem test_cli_notification :
    let s := withSlot 7 1 .valid (calibrated .parked)
    s.opState = .parked ∧ (s.slot ignition).value = 1 ∧ (s.slot ignition).quality = .valid ∧ sendingHeld s = true
      ∧ answers (.cliNotification 7) (withSlot 7 0 .valid (part .run)) (fun t =>
          decide (t.cli.parkDue = some 10000000)) = true
      ∧ answers (.cliNotification 7) { withSlot 7 0 .lineFault (part .run) with
          cli := { Cli.reset with parkDue := some 5 } } (fun t => decide (t.cli.parkDue = none)) = true
      ∧ answers (.cliNotification 1) (withSlot 1 300 .valid (part .sweep)) (fun t =>
          decide (t.opState = .run) && decide (t.cli.events.getLast? = some (.state .run .abort))) = true
      ∧ answers (.cliNotification 1) (withSlot 1 299 .valid (part .sweep)) (fun t => decide (t.opState = .sweep))
          = true := by
  decide +kernel

/-- The link table loaded with a park delay of 0 s. -/
def withoutDelay (s : State) : State := { s with cli := { s.cli with link := some { LinkEntry.unloaded with parkDelay := 0 } } }

theorem test_cli_ignition_forms :
    let off (s : State) : State := withSlot 7 0 .valid (withSlot 1 300 .valid s)
    exec (.cliNotification 7) (off (part .config)) = .next (off (part .config))
      ∧ exec (.cliNotification 7) (withSlot 7 1 .lineFault (part .parked)) = .next (withSlot 7 1 .lineFault (part .parked))
      ∧ answers (.cliNotification 7) (withoutDelay (off (part .sweep))) (fun t =>
          decide (t.opState = .parked) && decide (t.lsc.passDue = some 100000)) = true
      ∧ answers (.cliNotification 1) (off (part .sweep)) (fun t =>
          decide (t.opState = .run) && decide (t.cli.parkDue = some 10000000)) = true
      ∧ answers (.cliNotification 1) (withoutDelay (off (part .sweep))) (fun t =>
          decide (t.opState = .parked) && decide (t.cli.events.drop 1 =
            [.state .run .abort, .state .parked .parkDelay])) = true := by
  refine ⟨rfl, rfl, ?_⟩
  decide +kernel

theorem test_cli_updates :
    let s (v : Int) : State :=
      let s := withSignal 20 (lineSignal 1 none) (withSlot 20 v .valid (part .run))
      { s with cli := { s.cli with reports := s.cli.reports.set 20 ⟨some (10, .valid), 0⟩ } }
    answers (.cliNotification 20) (s 12) (fun t => decide (t.cli.updates = [20])) = true
      ∧ answers (.cliNotification 20) (s 11) (fun t => decide (t.cli.updates = [])) = true := by
  decide +kernel

/-! ### The workshop port -/

/-- WS runs at 500 kbit/s. -/
def atPort (s : State) : State := { s with wsp := { s.wsp with settings := { s.wsp.settings with rate := .k500 } } }

/-- A telltale test that runs since time 0. -/
def testing : State :=
  let s := atPort (part .run)
  { s with wsp := { s.wsp with test := some (.telltale 3 true), testDue := some 10000000 } }

/-- The segments of the response in flight. -/
def segments (t : State) : Option (List (List Byte)) := t.wsp.response.map WsResponse.segments

theorem test_workshop_reads :
    WorkshopReady (atPort (part .run))
      ∧ answers (ask .readIdent [0, 9]) (atPort (part .run)) (fun t => segments t = some
          [[0x00, 1, 0, 9, 0x17, 0x0A, 0x14, 0x06], [0x81, 1, 1, 1, 0, 0]]) = true
      ∧ answers (.unknownServiceRequest ⟨emptyHead, []⟩) (atPort (part .run)) (fun t => segments t = some [[0x80, 0, 1, 0]]) = true
      ∧ answers (.unknownServiceRequest ⟨{ emptyHead with dlc := 1 }, [15]⟩) (atPort (part .run)) (fun t => segments t = some [[0x80, 15, 2, 0]])
          = true
      ∧ answers (ask .readDoor [3]) (atPort (part .run)) (fun t => segments t = some [[0x80, 7, 1, 0]]) = true
      ∧ answers (ask .readDoor [4, 0]) (atPort (part .run)) (fun t => segments t = some [[0x80, 7, 3, 0]]) = true
      ∧ answers (ask .readLine [48]) (atPort (part .run)) (fun t => segments t = some [[0x80, 6, 3, 0]]) = true
      ∧ answers (ask .readFaultRecord [0]) (atPort (withRecords [stored 3 false 5] (part .run))) (fun t =>
          segments t = some [[0, 3, 0, 18, 1, 0, 0, 3], [1, 0, 0, 1, 255, 255, 255, 255],
            [0x82, 255, 255, 255, 255, 255, 5, 0]]) = true := by
  refine ⟨⟨rfl, rfl, rfl⟩, ?_⟩
  decide +kernel

theorem test_workshop_arrives :
    Arrives ⟨false, 0x6A0, 3⟩ [7, 0, 0] (atPort (part .run)) ∧ Arrives ⟨false, 0x6A0, 9⟩ (List.replicate 8 1) (atPort (part .run))
      ∧ Arrives emptyHead [] (atPort (part .run)) ∧ Arrives emptyHead [] testing ∧ (testing.wsp.test ≠ none) := by
  unfold Arrives
  decide +kernel

theorem test_workshop_passes_over :
    exec (ask .readIdent []) (part .run) = .next (part .run)
      ∧ exec (.readIdent ⟨⟨false, 0x6A1, 1⟩, []⟩) (atPort (part .run)) = .next (atPort (part .run))
      ∧ exec (.readIdent ⟨⟨true, 0x6A0, 1⟩, []⟩) (atPort (part .run)) = .next (atPort (part .run)) :=
  ⟨rfl, rfl, rfl⟩

theorem test_workshop_writes :
    let still : State := withSlot 1 49 .valid (atPort (withRecords [stored 3 false 5] (part .run)))
    answers (ask .clearFaults []) still (fun t => decide (t.flt.records = []) && decide (segments t = some [[0x80, 4, 0, 0]])
      && decide (t.cli.events.getLast? = some (.faultsCleared .workshop))) = true
      ∧ answers (ask .clearFaults []) (withSlot 1 50 .valid still) (fun t =>
          decide (t.flt.records = [stored 3 false 5]) && decide (segments t = some [[0x80, 4, 7, 0]])) = true
      ∧ answers (ask .clearDoorCounters [3]) still (fun t => segments t = some [[0x80, 8, 0, 0]]) = true
      ∧ answers (ask .clearDoorCounters [4]) still (fun t => segments t = some [[0x80, 8, 3, 0]]) = true
      ∧ answers (ask .writeCal [0, 0xD0, 7, 0, 0]) still (fun t =>
          decide (t.sdu.cal = some { CalEntry.unloaded with kd := 2000 })) = true
      ∧ answers (ask .writeCal [0, 0xCF, 7, 0, 0]) still (fun t => segments t = some [[0x80, 10, 3, 0]]) = true
      ∧ answers (ask .writeCal [7, 0, 0, 0, 0]) still (fun t => segments t = some [[0x80, 10, 2, 0]]) = true
      ∧ answers (ask .writeCal [3, 25, 0, 0, 0]) (withSlot 0 7 .valid (atPort (measuringAt (.opened 0 1) 0 250000)))
          (fun t => decide (t.sdu.standFrom = none) && decide ((t.slot 0).value = 0) && decide (t.sdu.meas = .waiting))
          = true
      ∧ answers (.calibrationTableWrite (0 :: calBytes)) (withSlot 0 7 .valid (measuringAt .waiting 0 9)) (fun t =>
          decide (t.sdu.meas = .waiting) && decide (t.slot 0 = ⟨7, .valid, some 0⟩)) = true
      ∧ answers (ask .writeCal [5, 50, 0, 0, 0]) (withSlot 0 0 .notAvailable still) (fun t =>
          decide (t.slot 0 = ⟨0, .valid, some 0⟩)) = true
      ∧ answers (ask .writeCal [3, 26, 0, 0, 0]) (withSlot 0 7 .valid (atPort (measuringAt (.opened 0 1) 0 250000)))
          (fun t => decide (t.sdu.standFrom = some 0) && decide ((t.slot 0).value = 7)) = true
      ∧ answers (ask .clearFaults []) { still with sdu := { still.sdu with plausPresent := true, implausible := true } }
          (fun t => !t.sdu.implausible && t.inFlight.contains (.faultConditionStart .speed 0)) = true := by
  decide +kernel

theorem test_output_tests :
    let still : State := withSlot 1 49 .valid (atPort (gauging .run true 10 none))
    answers (ask .testTelltale [31, 1]) still (fun t => telltaleLit 31 t && decide (t.wsp.testDue = some 10000000)) = true
      ∧ answers (ask .testTelltale [32, 1]) still (fun t => segments t = some [[0x80, 11, 3, 0]]) = true
      ∧ answers (ask .testGauge [0, 0xFF, 0xFF]) still (fun t => decide (t.wsp.test = some (.gauge 0 4000))) = true
      ∧ answers (ask .testChime [7]) still (fun t => decide (t.chg.playing = some ⟨.workshop, true, 200000⟩)) = true
      ∧ answers (ask .testChime [7]) (withSlot 1 50 .valid still) (fun t => segments t = some [[0x80, 13, 7, 0]]) = true
      ∧ answers (ask .testChime [7]) (atPort (part .sweep)) (fun t => segments t = some [[0x80, 13, 4, 0]]) = true := by
  decide +kernel

theorem test_output_test_ends :
    answers (ask .testEnd []) testing (fun t => decide (t.wsp.test = none)) = true
      ∧ answers (ask .readIdent []) { testing with wsp := { testing.wsp with response := some ⟨[[1], [2]], some 5⟩ } }
          (fun t => decide (t.wsp.test = none)
            && decide (segments t = some [[0x00, 1, 0, 9, 0x17, 0x0A, 0x14, 0x06], [0x81, 1, 1, 1, 0, 0]])) = true
      ∧ answers .testTimerExpiry { testing with now := 10000000 } (fun t => decide (t.wsp.test = none)) = true
      ∧ answers .wspSpeedNotification (withSlot 1 300 .valid testing) (fun t => decide (t.wsp.test = none)) = true
      ∧ answers .wspSpeedNotification (withSlot 1 299 .valid testing) (fun t => t.wsp.test.isSome) = true
      ∧ exec .testTimerExpiry testing = .next testing :=
  ⟨by decide +kernel, by decide +kernel, by decide +kernel, by decide +kernel, by decide +kernel, rfl⟩

/-- A response of the given segments at the port, with an error count. -/
def sending (segments : List (List Byte)) (pacingDue : Option Nat) (txErrors : Nat) : State :=
  let s := atPort (part .run)
  { s with wsp := { s.wsp with response := some ⟨segments, pacingDue⟩, txErrors } }

theorem test_segments :
    answers .segmentSent (sending [[1], [2]] none 9) (fun t =>
      decide (t.wsp.response = some ⟨[[2]], some 5000⟩) && decide (t.wsp.txErrors = 8)) = true
      ∧ answers .segmentSent (sending [[1]] none 0) (fun t => decide (t.wsp.response = none)) = true
      ∧ answers .pacingExpiry (sending [[2]] (some 0) 0) (fun t => decide (t.wsp.response = some ⟨[[2]], none⟩)) = true
      ∧ answers .segmentFailed (sending [[1]] none 247) (fun t =>
          decide (t.wsp.txErrors = 255) && decide (t.wsp.busOffUntil = none)) = true
      ∧ answers .segmentFailed (sending [[1]] none 248) (fun t =>
          decide (t.wsp.busOffUntil = some 1000000) && decide (t.wsp.response = none)) = true
      ∧ (let s := sending [] none 1
        answers .segmentSent { s with wsp := { s.wsp with orphan := some [1] } } (fun t =>
          decide (t.wsp.orphan = none) && decide (t.wsp.txErrors = 0)) = true)
      ∧ frameAtPort (sending [[1, 5], [2]] none 0) = some (⟨false, 0x6A8, 2⟩, [1, 5])
      ∧ frameAtPort (sending [[2]] (some 5) 0) = none ∧ frameAtPort (part .run) = none
      ∧ (segmentsOf 3 .ok (List.replicate 42 0)).length = 7 := by
  decide +kernel

theorem test_ports :
    let linked (s : State) : State := { s with cli := { s.cli with link := some { LinkEntry.unloaded with
      va := .k125, vb := .k1000, ws := .k250 } } }
    answers (.portRateTakesEffect .va) (linked (part .run)) (fun t => decide (t.frp.vaRate = .k125)) = true
      ∧ answers (.portRateTakesEffect .vb) (linked (part .run)) (fun t => decide (t.frp.vbRate = .k1000)) = true
      ∧ answers (.portRateTakesEffect .ws) (linked (part .run)) (fun t => decide (t.wsp.settings.rate = .k250)) = true
      ∧ answers .busOffRecovery
          (linked { part .run with wsp := { Wsp.reset with busOffUntil := some 0, txErrors := 256 } }) (fun t =>
          decide (t.wsp.busOffUntil = none) && decide (t.wsp.txErrors = 0)) = true
      ∧ exec .busOffRecovery (part .run) = .next (part .run)
      ∧ exec .pacingExpiry (sending [[2]] (some 1) 0) = .next (sending [[2]] (some 1) 0) :=
  ⟨by decide +kernel, by decide +kernel, by decide +kernel, by decide +kernel, rfl, rfl⟩

/-! ### Invariants -/

theorem test_legal_reset : LinkLegal State.reset ∧ DistanceLegal State.reset :=
  ⟨⟨by decide +kernel, by decide +kernel, by decide +kernel, by decide +kernel⟩, by decide +kernel, by decide +kernel,
    by decide +kernel, fun i h => nomatch h⟩

theorem test_legal_orphan :
    let s := sending [[1], [2]] none 0
    LinkLegal { s with wsp := { s.wsp with orphan := some [7] } } :=
  ⟨by decide +kernel, by decide +kernel, by decide +kernel, by decide +kernel⟩

theorem test_legal_warned :
    (let s := withSlot 9 1 .valid (warned 9 (warnAt .onUnack true none) 50 .valid .run)
     WarningsLegal { s with wrn := { s.wrn with reportedTop := some 95 } })
      ∧ WarningsLegal (part .run) ∧ WarningsLegal (calibrated .config) := by
  refine ⟨⟨?_, ?_, fun h => ?_, ?_⟩, ⟨?_, ?_, fun h => ?_, ?_⟩, ⟨?_, ?_, fun h => ?_, ?_⟩⟩
  all_goals first
    | (exact absurd h (by decide +kernel))
    | decide +kernel

theorem test_legal_parked : WarningsLegal (warned 9 { WarnRun.reset with observed := true } 50 .valid .parked) := by
  have off : ∀ i : Fin 96, let r := warnRun i (warned 9 { WarnRun.reset with observed := true } 50 .valid .parked)
      r.state = .off ∧ r.timer = none ∧ r.truth = none ∧ r.cond = false := by decide +kernel
  exact ⟨by decide +kernel, by decide +kernel, fun _ i _ _ _ => off i, by decide +kernel⟩

theorem test_legal_gauging : GaugesLegal (gauging .run true 1936 none) := by
  intro c
  refine ⟨?_, ?_, ?_, ?_, fun position h => nomatch h⟩ <;> revert c <;> decide +kernel

end Sys2Proof.Tests
end

section
/-! PROOFS. The two power-on statements: what power-on reset leaves in every block, and POWER_ON_RESET's return to it. -/

namespace Sys2Proof.Machine

/-! ### The tables after power-on reset -/

/-- No entry of a table of absent entries is loaded. -/
theorem anyLoaded_replicate (α : Type) (n : Nat) : anyLoaded (Vector.replicate n (none : Option α)) = false := by
  simp [anyLoaded]

theorem State.slot_reset_of_lt (i : Slot) (h : i.val < 12) :
    State.reset.slot i = if i.val < 3 then .firstWrite .notAvailable
      else if i.val = 7 then .unwritten else .firstWrite .valid := by
  obtain ⟨n, hn⟩ := i
  simp only at h
  interval_cases n <;> rfl

theorem State.slot_reset_of_le (i : Slot) (h : 12 ≤ i.val) : State.reset.slot i = .unwritten := by
  simp only [State.slot, State.reset, Sst.reset, Fin.getElem_fin, Vector.getElem_mk, List.getElem_toArray]
  rw [List.getElem_append_right (by exact h), List.getElem_replicate]

/-- Every slot after power-on reset (R16): never received, or written 0 by its producer. -/
theorem State.slot_reset (i : Slot) : State.reset.slot i =
    if i.val = 7 ∨ 12 ≤ i.val then ⟨0, .neverReceived, none⟩
    else if i.val < 3 then ⟨0, .notAvailable, some 0⟩ else ⟨0, .valid, some 0⟩ := by
  by_cases h : 12 ≤ i.val
  · rw [slot_reset_of_le i h, if_pos (.inr h)]
    rfl
  · rw [slot_reset_of_lt i (by omega)]
    by_cases h3 : i.val < 3
    · rw [if_pos h3, if_neg (by omega), if_pos h3]
      rfl
    · by_cases h7 : i.val = 7
      · rw [if_neg h3, if_pos h7, if_pos (.inl h7)]
        rfl
      · rw [if_neg h3, if_neg h7, if_neg (by omega), if_neg h3]
        rfl

theorem loadStates_reset : loadStates State.reset = List.replicate 12 false := by
  simp only [loadStates, State.reset, Sst.reset, Frp.reset, Lsc.reset, Sdu.reset, Gdr.reset, Wrn.reset, Chg.reset,
    Drm.reset, Flt.reset, Cli.reset, anyLoaded_replicate, Option.isSome_none]
  rfl

/-- The age of every slot after power-on reset (R9, R16). -/
theorem age_reset (i : Slot) :
    (State.reset.slot i).age State.reset.now = if i.val = 7 ∨ 12 ≤ i.val then 65535 else 0 := by
  rw [State.slot_reset]
  split
  · rfl
  · split <;> rfl

/-- Settles O3: the tables after power-on reset hold one record everywhere, and the slots are those of R16. -/
theorem resetIsPowerOnState : Obligations.ResetIsPowerOnState := by
  have frames (i : Fin 64) : frameRun i State.reset = ⟨.stopped, none, 0, false, false, false⟩ := by
    simp [frameRun, State.reset, Frp.reset, FrameRun.reset]
  have flags (i : Slot) : State.reset.frp.senderErr[i] = false := by simp [State.reset, Frp.reset]
  have lines (l : Fin 48) : State.reset.lsc.lines[l] = ⟨none, none, none, none, none⟩ := by
    simp [State.reset, Lsc.reset]
  have gauges (c : Fin 6) : (gaugeRun c State.reset).p = 0 := by simp [gaugeRun, State.reset, Gdr.reset]
  have warnings (i : Fin 96) : warnRun i State.reset = .reset := by simp [warnRun, State.reset, Wrn.reset]
  have leaves (l : Fin 8) : leafRun l State.reset = .reset := by simp [leafRun, State.reset, Drm.reset]
  have portals (p : Fin 4) : portalRun p State.reset = .reset := by simp [portalRun, State.reset, Drm.reset]
  have reports (i : Slot) : State.reset.cli.reports[i].last = none := by simp [State.reset, Cli.reset]
  exact ⟨rfl, loadStates_reset, State.slot_reset, age_reset, frames, flags, rfl, rfl, lines, rfl, rfl, gauges, rfl, rfl,
    fun i => by rw [warnings i]; exact ⟨rfl, rfl, rfl⟩, rfl, rfl, rfl, rfl, rfl, rfl, rfl, rfl, leaves, portals, rfl,
    rfl, rfl, rfl, rfl, rfl, rfl, rfl, rfl, rfl, rfl, reports, rfl, rfl, rfl, rfl, rfl, rfl, rfl, rfl⟩

/-- The transmitter takes the STATE event of power-on at once when LRDY is asserted, and nothing otherwise (R171,
R183). -/
theorem powerOn_eq (s : State) : powerOn s = { State.reset with
    freeCount := s.freeCount
    pending := s.pending
    cli := { Cli.reset with
      lrdy := s.cli.lrdy
      events := if s.cli.lrdy then [] else [.state .config .powerOn]
      tx := if s.cli.lrdy then some (Event.bytes (.state .config .powerOn) false) else none } } := by
  unfold powerOn
  cases s.cli.lrdy
  · exact transmit_held rfl
  · rfl

/-- Settles O4: power-on reset, and the one choice the transmitter makes after it. -/
theorem powerOnResetRestarts : Obligations.PowerOnResetRestarts := fun s =>
  ⟨powerOn s, rfl, by rw [powerOn_eq]; rfl, by rw [powerOn_eq]⟩

end Sys2Proof.Machine
end

section
/-! PROOFS. The signal store's write and read, and the one choice of the step on an empty queue. -/

namespace Sys2Proof.Machine

/-! ### Slot writes (R7, R8) -/

/-- A value write to a configurable slot stores the limit it passes, LIMITED, and else the value (R8). -/
theorem clamped_configurable {i : Slot} (h : isInternal i = false) (v : Int) (q : Quality) (s : State) :
    clamped i v q s =
      if v < (s.signal i).elim i32Min SignalEntry.min then ((s.signal i).elim i32Min SignalEntry.min, .limited)
      else if (s.signal i).elim i32Max SignalEntry.max < v then ((s.signal i).elim i32Max SignalEntry.max, .limited)
      else (v, q) := by
  simp [clamped, h]

/-- Settles O7: the slots after each of the two writes, by where the value lies against the limits. -/
theorem slotWriteStoresClampedValue : Obligations.SlotWriteStoresClampedValue := by
  intro i v q s lo hi
  refine ⟨fun h => valueWrite_internal i h v q s, fun h below => ?_, fun h above beyond => ?_,
    fun h above under => ?_, ?_, fun j hj => ⟨valueWrite_other hj v q s, qualityWrite_other hj q s⟩, valueWrite_frame i v q s,
    qualityWrite_frame i q s⟩
  · rw [valueWrite_slot, if_pos rfl, clamped_configurable h, if_pos below]
  · rw [valueWrite_slot, if_pos rfl, clamped_configurable h, if_neg (not_lt.2 above), if_pos beyond]
  · rw [valueWrite_slot, if_pos rfl, clamped_configurable h, if_neg (not_lt.2 above), if_neg (not_lt.2 under)]
  · rw [qualityWrite_slot, if_pos rfl]

/-! ### The effective read (R13) -/

theorem usable_iff (q : Quality) : q.usable = true ↔ q = .valid ∨ q = .limited ∨ q = .substituted := by
  cases q <;> simp [Quality.usable]

/-- A slot without a fallback is read as its own record (R13). -/
theorem effRead_of_noFallback {i : Slot} {s : State} (h : fallbackOf i s = none) :
    effRead i s = ((s.slot i).value, (s.slot i).quality) := by
  simp [effRead, h]

/-- An unusable slot is read as the own value of a usable fallback, SUBSTITUTED (R13). -/
theorem effRead_of_fallback {i f : Slot} {s : State} (unusable : (s.slot i).quality.usable = false)
    (h : fallbackOf i s = some f) :
    effRead i s = if (s.slot f).quality.usable then ((s.slot f).value, .substituted)
      else ((s.slot i).value, (s.slot i).quality) := by
  simp [effRead, unusable, h]

/-- Settles O9: usable, without a fallback, or with one. -/
theorem effectiveReadFollowsFallbackOnce : Obligations.EffectiveReadFollowsFallbackOnce := by
  intro i s own
  refine ⟨fun usable => ?_, fun inner => ?_, fun missing => ?_, fun f outer unusable h => ?_, usable_iff⟩
  · simp [effRead, usable, own]
  · exact effRead_of_noFallback (by simp [fallbackOf, inner])
  · exact effRead_of_noFallback (by simp [fallbackOf, missing])
  · exact effRead_of_fallback unusable (by simp [fallbackOf, outer, h])

/-! ### The empty queue (log entries 2, 3) -/

/-- The step on an empty queue takes one ready thing, or lets a microsecond pass when nothing is ready. -/
theorem idle_cases (s : State) :
    (ready s = [] ∧ idle s = tick s) ∨ ∃ c ∈ ready s, idle s = putInFront c s := by
  by_cases h : ready s = []
  · exact .inl ⟨h, by simp [idle, h]⟩
  · have hlt := Nat.mod_lt (Config.pick s.freeCount) (List.length_pos_of_ne_nil h)
    exact .inr ⟨_, List.getElem_mem hlt, by simp only [idle, List.getElem?_eq_getElem hlt]⟩

end Sys2Proof.Machine
end

section
/-! PROOFS. What stands ready on an empty queue. -/

namespace Sys2Proof.Machine

/-- The timer of a frame entry has come to its time (R33). -/
theorem frameDue_iff (r : FrameRun) (s : State) :
    isDue (frameDue r) s = true ↔ ∃ d, (r.timer = .firstWait d ∨ r.timer = .timed d) ∧ d ≤ s.now := by
  cases h : r.timer <;> simp [frameDue, h, isDue]

theorem live_iff (st : OpState) : st.live = true ↔ st = .run ∨ st = .sweep := by cases st <;> simp [OpState.live]

/-- The burst timer's command, by the part of the burst that plays (R121). -/
theorem mem_burstCommand (c : Instr) (s : State) :
    c ∈ burstCommand s ↔
      ((∃ p, s.chg.playing = some p ∧ p.inTone = true ∧ p.due ≤ s.now) ∧ c = .onTimeEnd)
      ∨ ((∃ p, s.chg.playing = some p ∧ p.inTone = false ∧ p.due ≤ s.now) ∧ c = .burstEnd) := by
  cases h : s.chg.playing with
  | none => simp [burstCommand, h]
  | some p => cases k : p.inTone <;> simp [burstCommand, h, k, mem_whenDue]

theorem standstillDue_iff (s : State) :
    standstillDue s = true ↔ ∃ t, s.sdu.standFrom = some t ∧ t + 10000 * (calOf s).standstill ≤ s.now := by
  simp [standstillDue, Option.any_eq_true]

/-- The report clock of a reported slot has come to its heartbeat, its own or the default (R173). -/
theorem heartbeatDue_iff (i : Slot) (s : State) :
    heartbeatDue i s = true ↔ ∃ e, s.signal i = some e ∧ e.report = true
      ∧ (let beat := if e.heartbeat = 0 then (linkOf s).heartbeat else e.heartbeat
         beat ≠ 0 ∧ s.cli.reports[i].clockFrom + 100000 * beat ≤ s.now) := by
  cases h : s.signal i <;> simp [heartbeatDue, heartbeatOf, reportFlag, h, and_assoc]

/-- A pending slot has no last report, or its clock has come to its minimum interval (R174). -/
theorem eligible_iff (i : Slot) (s : State) :
    eligible s i = true ↔ s.cli.reports[i].last = none
      ∨ 10000 * (s.signal i).elim 1 SignalEntry.minInterval ≤ s.now - s.cli.reports[i].clockFrom := by
  simp [eligible]

theorem mem_dueVehicle (c : Instr) (s : State) :
    c ∈ dueVehicle s ↔
      (∃ i, isDue (frameDue (frameRun i s)) s = true ∧ c = .frameTimerExpiry i)
      ∨ (isDue s.lsc.passDue s = true ∧ c = .parkedPassStart)
      ∨ (isDue s.lsc.scanDue s = true ∧ c = .scanSlotExpiry (Config.lineCode s.freeCount))
      ∨ (isDue s.sdu.boundDue s = true ∧ c = .boundCheck)
      ∨ (standstillDue s = true ∧ c = .standstillTimerExpiry)
      ∨ ((∃ t, s.sdu.plausFrom = some t ∧ t + 10000 * (calOf s).plausTime ≤ s.now) ∧ c = .plausibilityTimerExpiry) := by
  simp [dueVehicle, mem_whenDue, mem_indices, Option.any_eq_true]

theorem mem_dueDriver (c : Instr) (s : State) :
    c ∈ dueDriver s ↔
      (s.gdr.intervalDue ≤ s.now ∧ c = .gaugeInterval)
      ∨ (∃ i, ((∃ e, warnEntry i s = some e ∧ e.enabled = true ∧ EvaluatedNow e s)
          ∧ isDue (warnRun i s).timer s = true) ∧ c = .warningTimerExpiry i)
      ∨ (s.wrn.flashDue ≤ s.now ∧ c = .flashClock)
      ∨ c ∈ burstCommand s
      ∨ (∃ l, isDue (leafRun l s).transitDue s = true ∧ c = .transitTimerExpiry l) := by
  simp [dueDriver, mem_whenDue, mem_indices, Option.any_eq_true, evaluatedNow_iff]

theorem mem_dueLinks (c : Instr) (s : State) :
    c ∈ dueLinks s ↔
      (gapDue s = true ∧ c = .receiveGapExpiry)
      ∨ (∃ i, (heartbeatDue i s = true ∧ i ∉ s.cli.updates) ∧ c = .heartbeat i)
      ∨ (∃ i ∈ s.cli.updates, (sendingHeld s = false ∧ eligible s i = true) ∧ c = .minimumIntervalReached i)
      ∨ ((s.opState.live = true ∧ isDue s.cli.parkDue s = true) ∧ c = .parkDelayExpiry)
      ∨ (isDue s.wsp.testDue s = true ∧ c = .testTimerExpiry)
      ∨ ((∃ r, s.wsp.response = some r ∧ isDue r.pacingDue s = true) ∧ c = .pacingExpiry)
      ∨ (isDue s.wsp.busOffUntil s = true ∧ c = .busOffRecovery) := by
  simp [dueLinks, mem_whenDue, mem_indices, Option.any_eq_true, sendingHeld, and_assoc, and_left_comm, and_comm]

/-- The commands of the timers are those that stand for one that has come to its time. -/
theorem timerReady_iff (c : Instr) (s : State) :
    c ∈ dueVehicle s ++ dueDriver s ++ dueLinks s ↔ TimerReady c s := by
  simp only [List.mem_append, mem_dueVehicle, mem_dueDriver, mem_dueLinks, mem_burstCommand]
  unfold TimerReady
  cases c with
  | frameTimerExpiry i => simp [frameDue_iff]
  | parkedPassStart => simp [isDue_iff]
  | scanSlotExpiry code => simp [isDue_iff, and_comm]
  | boundCheck => simp [isDue_iff]
  | standstillTimerExpiry => simp [standstillDue_iff]
  | plausibilityTimerExpiry => simp
  | gaugeInterval => simp
  | warningTimerExpiry i => simp [isDue_iff]
  | flashClock => simp
  | onTimeEnd => simp
  | burstEnd => simp
  | transitTimerExpiry l => simp [isDue_iff]
  | receiveGapExpiry => simp [gapDue]
  | heartbeat i => simp [heartbeatDue_iff, and_comm]
  | minimumIntervalReached i => simp [eligible_iff]
  | parkDelayExpiry => simp [isDue_iff, live_iff]
  | testTimerExpiry => simp [isDue_iff]
  | pacingExpiry => simp [isDue_iff]
  | busOffRecovery => simp [isDue_iff]
  | _ => simp only [reduceCtorEq, and_false, exists_false, or_self]

/-- Settles O2: the members of `ready`, and the one choice of the step. -/
theorem emptyQueueRunsByItself : Obligations.EmptyQueueRunsByItself := by
  intro s
  refine ⟨fun c => ?_, fun empty => ⟨idle s, by simp [step, empty], ?_⟩⟩
  · rw [← arrivalReady_iff, ← timerReady_iff]
    simp only [ready, List.mem_append, or_assoc]
  · exact idle_cases s

end Sys2Proof.Machine
end

section
/-! PROOFS. The active list and the records that only read. -/

namespace Sys2Proof.Machine

/-! ### The active list (R112) -/

theorem insertByKey_perm (s : State) (i : Fin 96) (l : List (Fin 96)) : (insertByKey s i l).Perm (i :: l) := by
  induction l with
  | nil => exact .refl _
  | cons j l ih =>
    unfold insertByKey
    split
    · exact .refl _
    · exact (ih.cons j).trans (.swap i j l)

/-- The active list is the enabled entries in a list state, put in order. -/
theorem activeList_perm (s : State) : (activeList s).Perm ((indices 96).filter (inActiveList s)) := by
  unfold activeList
  induction (indices 96).filter (inActiveList s) with
  | nil => exact .refl _
  | cons i l ih => exact (insertByKey_perm s i _).trans (ih.cons i)

/-- `i` may stand before `j`: its keys are not above those of `j`. -/
def KeyLE (s : State) (i j : Fin 96) : Prop := listKey s i ≤ listKey s j

theorem insertByKey_sorted (s : State) (i : Fin 96) (l : List (Fin 96)) (h : l.Pairwise (KeyLE s)) :
    (insertByKey s i l).Pairwise (KeyLE s) := by
  induction l with
  | nil => simp [insertByKey]
  | cons j l ih =>
    obtain ⟨hj, hl⟩ := List.pairwise_cons.1 h
    unfold insertByKey
    split
    · rename_i lt
      refine List.pairwise_cons.2 ⟨fun k hk => ?_, h⟩
      rcases List.mem_cons.1 hk with rfl | hk
      · exact le_of_lt lt
      · exact le_trans (le_of_lt lt) (hj k hk)
    · rename_i le
      refine List.pairwise_cons.2 ⟨fun k hk => ?_, ih hl⟩
      rcases List.mem_cons.1 ((insertByKey_perm s i l).mem_iff.1 hk) with rfl | hk
      · exact not_lt.1 le
      · exact hj k hk

theorem activeList_sorted (s : State) : (activeList s).Pairwise (KeyLE s) := by
  unfold activeList
  induction (indices 96).filter (inActiveList s) with
  | nil => exact .nil
  | cons i l ih => exact insertByKey_sorted s i _ ih

theorem mem_activeList (i : Fin 96) (s : State) : i ∈ activeList s ↔ inActiveList s i = true := by
  simp [(activeList_perm s).mem_iff, mem_indices]

theorem activeList_nodup (s : State) : (activeList s).Nodup :=
  (activeList_perm s).nodup_iff.2 ((List.nodup_finRange 96).filter _)

theorem activeList_length (s : State) : (activeList s).length = listLength s := by
  rw [(activeList_perm s).length_eq, listLength, List.countP_eq_length_filter]

theorem inList_iff (st : WarnState) : st.inList = true ↔ st ≠ .off ∧ st ≠ .onDelay := by
  cases st <;> simp [WarnState.inList]

theorem inActiveList_iff (s : State) (i : Fin 96) :
    inActiveList s i = true ↔ ∃ e, warnEntry i s = some e ∧ e.enabled = true ∧ (warnRun i s).state ≠ .off
      ∧ (warnRun i s).state ≠ .onDelay := by
  cases h : warnEntry i s <;> simp [inActiveList, warnEnabled, h, inList_iff]

/-- The order of two lists of four keys, key by key. -/
theorem fourKeys_le {a b c d a' b' c' d' : Nat} (h : [a, b, c, d] ≤ [a', b', c', d']) :
    a ≤ a' ∧ (a = a' → b ≤ b' ∧ (b = b' → c ≤ c' ∧ (c = c' → d ≤ d'))) := by
  rw [← not_lt] at h
  simp only [List.cons_lt_cons_iff, List.not_lt_nil] at h
  omega

/-- The acknowledgement key of an entry in the list: 0 while it is unacknowledged (R112). -/
theorem unacked_key {st : WarnState} (h : st.inList = true) :
    bitNat (!st.unacked) = if st = .onAck ∨ st = .offDelayAcked then 1 else 0 := by
  revert h
  cases st <;> decide

/-- Which of two entries of the active list stands first: severity, acknowledgement, rank, join sequence (R112). -/
theorem KeyLE.keys {s : State} {i j : Fin 96} {d e : WarnEntry} (hi : inActiveList s i = true)
    (hj : inActiveList s j = true) (hd : warnEntry i s = some d) (he : warnEntry j s = some e) (h : KeyLE s i j) :
    let acked (i : Fin 96) : Nat := if (warnRun i s).state = .onAck ∨ (warnRun i s).state = .offDelayAcked then 1 else 0
    d.severity.code ≤ e.severity.code
      ∧ (d.severity.code = e.severity.code → acked i ≤ acked j
        ∧ (acked i = acked j → d.rank ≤ e.rank ∧ (d.rank = e.rank → (warnRun i s).join ≤ (warnRun j s).join))) := by
  have listed {i : Fin 96} (h : inActiveList s i = true) : (warnRun i s).state.inList = true := by
    simp only [inActiveList, Bool.and_eq_true] at h
    exact h.2
  have keys := fourKeys_le h
  simp only [unacked_key (listed hi), unacked_key (listed hj), hd, he, Option.getD_some] at keys
  exact keys

/-! ### The records that only read (R175) -/

/-- A read answers with its data and does nothing else. -/
theorem exec_read {c : Instr} {r : ClRecord} {s : State} {d : List Byte} (h : managementRecord c = some r)
    (k : LinkReady s) (l : heldRecord r s = false) (e : answerRecord r s = answerRead d) :
    exec c s = .next (respond r.kind .ok d s) := exec_accepted h k l e

/-- No record but a START is ever held (R92). -/
theorem heldRecord_of_kind {kind : Byte} (h : kind ≠ 0x05) (body : List Byte) (s : State) :
    heldRecord ⟨kind, body⟩ s = false := by
  rw [heldRecord, decide_eq_false h, Bool.false_and]

/-- A record that CONFIG refuses (R175). -/
theorem whenState_outsideConfig (s : State) (a : Answer) :
    whenState outsideConfig s a = if s.opState = .config then refuse .state else a := by
  by_cases h : s.opState = .config <;> simp [whenState, outsideConfig, h]

theorem e8_toNat (b : Byte) : e8 b.toNat = [b] := by simp [e8]

theorem exec_tableRead {s : State} (ready : LinkReady s) (table index : Byte) :
    exec (.tableRead [table, index]) s = .next
      (match tableReadBytes table.toNat index.toNat s with
        | none => respond 0x02 .unknown [] s
        | some none => respond 0x02 .range [] s
        | some (some entry) => respond 0x02 .ok (table :: index :: entry) s) := by
  have held := heldRecord_of_kind (kind := 0x02) (by decide) [table, index] s
  have answer : answerRecord ⟨0x02, [table, index]⟩ s
      = (tableReadBytes table.toNat index.toNat s).elim (refuse .unknown) fun data =>
          data.elim (refuse .range) fun data => answerRead (table :: e8 index.toNat ++ data) := rfl
  split <;> rename_i data
  · exact exec_refused rfl ready held (by rw [answer, data]; rfl)
  · exact exec_refused rfl ready held (by rw [answer, data]; rfl)
  · exact exec_read rfl ready held (by rw [answer, data, e8_toNat]; rfl)

theorem exec_listRead {s : State} (ready : LinkReady s) (first : Byte) :
    let l := ((activeList s).drop first.toNat).take 12
    exec (.listRead [first]) s = .next
      (if s.opState = .config then respond 0x04 .state [] s
      else if 95 < first.toNat then respond 0x04 .range [] s
      else respond 0x04 .ok (e8 (activeList s).length ++ eOptFF (topWarning s) ++ e8 l.length
        ++ l.flatMap (listElement s)) s) := by
  have held := heldRecord_of_kind (kind := 0x04) (by decide) [first] s
  have answer : answerRecord ⟨0x04, [first]⟩ s = whenState outsideConfig s
      (if first.toNat ≤ 95 then
        let l := ((activeList s).drop first.toNat).take 12
        answerRead (e8 (activeList s).length ++ eOptFF (topWarning s) ++ e8 l.length ++ l.flatMap (listElement s))
      else refuse .range) := rfl
  rw [whenState_outsideConfig] at answer
  intro l
  split
  · rename_i config
    exact exec_refused rfl ready held (by rw [answer, if_pos config])
  · rename_i config
    split
    · rename_i beyond
      exact exec_refused rfl ready held (by rw [answer, if_neg config, if_neg (Nat.not_le.2 beyond)])
    · rename_i within
      exact exec_read rfl ready held (by rw [answer, if_neg config, if_pos (Nat.not_lt.1 within)])

theorem exec_signalRead {s : State} (ready : LinkReady s) (i : Byte) :
    let slot : Slot := ⟨i.toNat, i.isLt⟩
    exec (.signalRead [i]) s = .next (respond 0x03 .ok
      ([i] ++ eInt32 (s.slot slot).value ++ e8 (s.slot slot).quality.code ++ e16 ((s.slot slot).age s.now)
        ++ eInt32 (effRead slot s).1 ++ e8 (effRead slot s).2.code) s) := by
  have answer : answerRecord ⟨0x03, [i]⟩ s = answerRead (signalBytes ⟨i.toNat, i.isLt⟩ s) := rfl
  exact exec_read rfl ready (heldRecord_of_kind (by decide) _ s) (by rw [answer, signalBytes, e8_toNat])

theorem exec_faultRead {s : State} (ready : LinkReady s) (pos : Byte) :
    exec (.faultRead [pos]) s = .next
      (match s.flt.records[pos.toNat]? with
        | none => respond 0x11 .range [] s
        | some r => respond 0x11 .ok (e8 s.flt.records.length ++ e8 (bitNat s.flt.overflow) ++ r.bytes) s) := by
  have held := heldRecord_of_kind (kind := 0x11) (by decide) [pos] s
  have answer : answerRecord ⟨0x11, [pos]⟩ s
      = (s.flt.records[pos.toNat]?.map fun r => faultCountBytes s ++ r.bytes).elim (refuse .range) answerRead := rfl
  split <;> rename_i record
  · exact exec_refused rfl ready held (by rw [answer, record]; rfl)
  · exact exec_read rfl ready held (by rw [answer, record]; rfl)

/-- Settles O17: the order of the active list, and the answer of each read. -/
theorem readRecordsAnswerAndChangeNothing : Obligations.ReadRecordsAnswerAndChangeNothing := by
  intro s
  refine ⟨⟨fun i => (mem_activeList i s).trans (inActiveList_iff s i), activeList_nodup s, List.head?_eq_getElem?,
    activeList_length s, ?_⟩, fun ready =>
      ⟨exec_tableRead ready, exec_signalRead ready, exec_listRead ready, exec_faultRead ready, ?_⟩⟩
  · refine (activeList_sorted s).imp_of_mem fun {i j} hi hj h d e hd he => ?_
    exact KeyLE.keys ((mem_activeList i s).1 hi) ((mem_activeList j s).1 hj) hd he h
  · exact exec_read rfl ready (heldRecord_of_kind (by decide) _ s) rfl

end Sys2Proof.Machine
end

section
/-! PROOFS. The notifications that a change of a slot makes (R10 to R12). -/

namespace Sys2Proof.Machine

/-! ### Tables with their indices -/

theorem entries_eq {α : Type} {n : Nat} (t : Vector α n) : entries t = (indices n).map fun i => (i, t[i]) := by
  apply List.ext_getElem <;> simp [entries, indices]

theorem indices_nodup (n : Nat) : (indices n).Nodup := List.nodup_finRange n

/-- The configurable slots with an entry that passes the test. -/
theorem mem_slotsWith (test : SignalEntry → Bool) (k : Slot) (s : State) :
    k ∈ slotsWith test s ↔ isInternal k = false ∧ ∃ g, s.signal k = some g ∧ test g = true := by
  simp only [slotsWith, entries_eq, List.filterMap_map, List.mem_filterMap]
  constructor
  · rintro ⟨j, -, hj⟩
    simp only [Function.comp_apply, Option.ite_none_right_eq_some, Option.some.injEq, Bool.and_eq_true,
      Bool.not_eq_true'] at hj
    obtain ⟨⟨inner, passes⟩, rfl⟩ := hj
    cases h : s.signal j <;> simp_all [State.signal]
  · rintro ⟨inner, g, hg, passes⟩
    exact ⟨k, mem_indices 256 k, by simp_all [State.signal]⟩

/-- No slot is a dependant of itself (R12). -/
theorem ne_of_mem_dependants {i d : Slot} {s : State} (h : d ∈ dependants i s) : d ≠ i := by
  obtain ⟨⟨j, e⟩, -, hj⟩ := List.mem_filterMap.1 h
  simp only [Option.ite_none_right_eq_some, Option.some.injEq, Bool.and_eq_true, decide_eq_true_eq] at hj
  obtain ⟨⟨⟨-, other⟩, -⟩, rfl⟩ := hj
  exact other

theorem dependants_nodup (i : Slot) (s : State) : (dependants i s).Nodup := by
  rw [dependants, entries_eq, List.filterMap_map]
  refine (indices_nodup 256).filterMap fun a b d ha hb => ?_
  simp only [Function.comp_apply, Option.mem_def, Option.ite_none_right_eq_some, Option.some.injEq] at ha hb
  exact ha.2.trans hb.2.symm

/-! ### The notices of one slot -/

theorem mem_useNotices (c : Instr) (d : Slot) (s : State) :
    c ∈ useNotices d s ↔ (wrnUses d s = true ∧ c = .evaluation d) ∨ (drmUses d s = true ∧ c = .doorInputNotification d)
      ∨ (frameSpeedSlot s = some d ∧ c = .frameSpeedNotification) := by
  simp [useNotices, List.mem_ite_nil_right]

theorem mem_ownNotices (c : Instr) (i : Slot) (s : State) :
    c ∈ ownNotices i s ↔ ((i = ignition ∨ i = vehicleSpeed ∨ reportFlag i s = true) ∧ c = .cliNotification i)
      ∨ (i = vehicleSpeed ∧ c = .wspSpeedNotification) := by
  simp [ownNotices, List.mem_ite_nil_right]

theorem useNotices_nodup (d : Slot) (s : State) : (useNotices d s).Nodup := by
  unfold useNotices
  split <;> split <;> split <;> simp

theorem ownNotices_nodup (i : Slot) (s : State) : (ownNotices i s).Nodup := by
  unfold ownNotices
  split <;> split <;> simp

/-- Two slots share no notice: one slot alone is the frame speed slot. -/
theorem useNotices_disjoint {d e : Slot} (h : d ≠ e) (s : State) : (useNotices d s).Disjoint (useNotices e s) := by
  intro c hd he
  rcases (mem_useNotices c d s).1 hd with ⟨-, rfl⟩ | ⟨-, rfl⟩ | ⟨hd, rfl⟩ <;>
    rcases (mem_useNotices _ e s).1 he with ⟨-, k⟩ | ⟨-, k⟩ | ⟨he, k⟩ <;> simp_all

theorem ownNotices_disjoint (i d : Slot) (s : State) : (ownNotices i s).Disjoint (useNotices d s) := by
  intro c hi hd
  rcases (mem_ownNotices c i s).1 hi with ⟨-, rfl⟩ | ⟨-, rfl⟩ <;> simp [mem_useNotices] at hd

/-! ### The notices of a change -/

/-- The dependants of `i` whose effective read a change of `i` may change (R12). -/
def reachedBy (i : Slot) (qualityChanged : Bool) (s : State) : List Slot :=
  (dependants i s).filter fun d => qualityChanged || !(s.slot d).quality.usable

theorem mem_reachedBy (i d : Slot) (b : Bool) (s : State) :
    d ∈ reachedBy i b s ↔ d ∈ dependants i s ∧ (b = true ∨ (s.slot d).quality.usable = false) := by
  simp [reachedBy]

theorem dependantNotices_eq (i : Slot) (b : Bool) (s : State) :
    dependantNotices i b s = (reachedBy i b s).flatMap fun d => useNotices d s := by
  unfold dependantNotices reachedBy
  induction dependants i s with
  | nil => rfl
  | cons d l ih =>
    rw [List.flatMap_cons, ih, List.filter_cons]
    split <;> simp

/-- The notices of a change, told by the slots as they were. -/
theorem noticesOf_change {i : Slot} {r : SlotRecord} {s : State}
    (h : ¬((s.slot i).value = r.value ∧ (s.slot i).quality = r.quality)) :
    noticesOf i r s = useNotices i s ++ ownNotices i s
      ++ (reachedBy i (decide ((s.slot i).quality ≠ r.quality)) s).flatMap fun d => useNotices d s := by
  let s' : State := { s with sst := { s.sst with slots := s.sst.slots.set i r } }
  have others : ∀ d ≠ i, s'.slot d = s.slot d := fun d hd => by
    rw [← slot_eq (t := putRecord i r s) (by rw [putRecord_eq]), putRecord_slot, if_neg hd]
  have reached : reachedBy i (decide ((s.slot i).quality ≠ r.quality)) s'
      = reachedBy i (decide ((s.slot i).quality ≠ r.quality)) s :=
    List.filter_congr fun d hd => by rw [others d (ne_of_mem_dependants hd)]
  rw [noticesOf, if_neg h]
  show useNotices i s' ++ ownNotices i s' ++ dependantNotices i _ s' = _
  rw [dependantNotices_eq, reached]
  rfl

theorem mem_noticesOf {i : Slot} {r : SlotRecord} {s : State}
    (h : ¬((s.slot i).value = r.value ∧ (s.slot i).quality = r.quality)) (c : Instr) :
    c ∈ noticesOf i r s ↔ c ∈ useNotices i s ∨ c ∈ ownNotices i s
      ∨ ∃ d ∈ reachedBy i (decide ((s.slot i).quality ≠ r.quality)) s, c ∈ useNotices d s := by
  simp [noticesOf_change h]

/-- No notification is made twice. -/
theorem noticesOf_nodup (i : Slot) (r : SlotRecord) (s : State) : (noticesOf i r s).Nodup := by
  by_cases h : (s.slot i).value = r.value ∧ (s.slot i).quality = r.quality
  · simp [noticesOf, h]
  have own : (useNotices i s ++ ownNotices i s).Nodup :=
    (useNotices_nodup i s).append (ownNotices_nodup i s) (ownNotices_disjoint i i s).symm
  have dependent : ((reachedBy i (decide ((s.slot i).quality ≠ r.quality)) s).flatMap fun d => useNotices d s).Nodup :=
    List.nodup_flatMap.2 ⟨fun d _ => useNotices_nodup d s,
      ((dependants_nodup i s).filter _).imp fun hd => useNotices_disjoint hd s⟩
  rw [noticesOf_change h]
  refine own.append dependent fun c hc hd => ?_
  obtain ⟨d, hd, hcd⟩ := List.mem_flatMap.1 hd
  have other : d ≠ i := ne_of_mem_dependants ((mem_reachedBy i d _ s).1 hd).1
  rcases List.mem_append.1 hc with hc | hc
  · exact useNotices_disjoint other s hcd hc
  · exact ownNotices_disjoint i d s hc hcd

/-- Settles O8: the notices of a change as a list without repetition, and who is in it. -/
theorem writeNotifiesConsumers : Obligations.WriteNotifiesConsumers := by
  intro i r s same reached
  refine ⟨fun h => ?_, fun h => ⟨noticesOf i r s, by rw [putRecord_eq], noticesOf_nodup i r s, ?_⟩⟩
  · have none : noticesOf i r s = [] := if_pos h
    rw [putRecord_eq, none, List.append_nil]
  have mem_reached (d : Slot) : d ∈ reachedBy i (decide ((s.slot i).quality ≠ r.quality)) s ↔ reached d := by
    rw [mem_reachedBy, decide_eq_true_eq]
  have other {d : Slot} (h : reached d) : d ≠ i := ne_of_mem_dependants h.1
  have self : ¬reached i := fun h => other h rfl
  have mem (c : Instr) := mem_noticesOf h c
  simp only [mem_reached, mem_useNotices, mem_ownNotices] at mem
  have count {c : Instr} {P : Prop} [Decidable P] (k : c ∈ noticesOf i r s ↔ P) :
      (noticesOf i r s).count c = if P then 1 else 0 := (noticesOf_nodup i r s).count.trans (if_congr k rfl rfl)
  refine ⟨count ?_, count ?_, count ?_, count ?_, ?_, fun d hd => ⟨?_, ?_, ?_⟩⟩ <;> rw [mem]
  · simp [self]
  · simp [self]
  · simp
  · simp
  · have apart : (∃ d, reached d ∧ frameSpeedSlot s = some d) ↔ ∃ d, d ≠ i ∧ reached d ∧ frameSpeedSlot s = some d :=
      exists_congr fun d => ⟨fun h => ⟨other h.1, h⟩, And.right⟩
    simp [apart]
  · simp [hd]
  · simp [hd]
  · simp [hd]

end Sys2Proof.Machine
end

section
/-! PROOFS. SIGNAL_TABLE_WRITE: the entry, the record of its slot, the line that brings it up to date, and the report
flag. -/

namespace Sys2Proof.Machine

/-! ### The line brings a slot up to date (R54) -/

/-- What a value write leaves in a configurable slot, by the limits of its entry (R8). -/
theorem written_configurable {i : Slot} {e : SignalEntry} {s : State} (h : isInternal i = false)
    (he : s.signal i = some e) (v : Int) (q : Quality) :
    written i v q s = if v < e.min then ⟨e.min, .limited, some s.now⟩
      else if e.max < v then ⟨e.max, .limited, some s.now⟩ else ⟨v, q, some s.now⟩ := by
  simp only [written, clamped_configurable h, he, Option.elim_some]
  split
  · rfl
  · split <;> rfl

theorem valueWrite_slot_self (i : Slot) (v : Int) (q : Quality) (s : State) :
    (valueWrite i v q s).slot i = written i v q s := by
  rw [valueWrite_slot, if_pos rfl, written]

theorem qualityWrite_slot_self (i : Slot) (q : Quality) (s : State) :
    (qualityWrite i q s).slot i = ⟨(s.slot i).value, q, some s.now⟩ := by
  rw [qualityWrite_slot, if_pos rfl]

theorem heldValue_state {r : LineRun} {b : Bool} (h : r.state = some b) :
    heldValue r = some (((bitNat b : Nat) : Int), Quality.valid) := by
  simp [heldValue, h]

theorem heldValue_curve {r : LineRun} (h : r.state = none) : heldValue r = r.curveValue := by
  simp [heldValue, h]

section
variable {i : Slot} {l : Fin 48} {s : State}

/-- A line without an entry or without an accepted reading brings nothing (R54). -/
theorem attachSlot_silent (h : s.lsc.lines[l].accepted = none ∨ s.lsc.table[l] = none) : attachSlot i l s = s := by
  unfold attachSlot
  rcases h with h | h
  · simp only [h, ite_self]
  · simp only [h, Option.isNone_none, if_true]

/-- An accepted reading of a switch or a curve writes the value the line holds (R54). -/
theorem attachSlot_held (loaded : s.lsc.table[l] ≠ none) {v : Int × Quality}
    (reads : s.lsc.lines[l].accepted = some .active ∨ s.lsc.lines[l].accepted = some .inactive
      ∨ s.lsc.lines[l].accepted = some .value)
    (held : heldValue s.lsc.lines[l] = some v) : attachSlot i l s = valueWrite i v.1 v.2 s := by
  have entry : s.lsc.table[l].isNone = false := Option.isNone_eq_false_iff.2 (Option.isSome_iff_ne_none.2 loaded)
  unfold attachSlot
  rcases reads with h | h | h <;> simp only [entry, h, held, Option.elim_some, Bool.false_eq_true, if_false]

theorem attachSlot_senderOk (loaded : s.lsc.table[l] ≠ none) (h : s.lsc.lines[l].accepted = some .senderOk) :
    attachSlot i l s = valueWrite i 1 .valid s := by
  have entry : s.lsc.table[l].isNone = false := Option.isNone_eq_false_iff.2 (Option.isSome_iff_ne_none.2 loaded)
  simp only [attachSlot, entry, h, Bool.false_eq_true, if_false]

/-- A fault reading marks the slot behind the value the line holds, if it holds one (R54). -/
theorem attachSlot_fault (loaded : s.lsc.table[l] ≠ none) {x : Reading} (h : s.lsc.lines[l].accepted = some x)
    (fault : x.isFault = true) :
    attachSlot i l s
      = qualityWrite i .lineFault ((heldValue s.lsc.lines[l]).elim s fun v => valueWrite i v.1 v.2 s) := by
  have entry : s.lsc.table[l].isNone = false := Option.isNone_eq_false_iff.2 (Option.isSome_iff_ne_none.2 loaded)
  unfold attachSlot
  cases x with
  | active | inactive | value | senderOk => exact absurd fault (by decide)
  | shortGnd | openCircuit | shortSupply => simp only [entry, h, Bool.false_eq_true, if_false]

/-- The record of a slot brought up to date from a fault reading: the held value stays under LINE_FAULT (R54). -/
theorem attachSlot_fault_slot (loaded : s.lsc.table[l] ≠ none) {x : Reading} (h : s.lsc.lines[l].accepted = some x)
    (fault : x.isFault = true) :
    (attachSlot i l s).slot i
      = ⟨(heldValue s.lsc.lines[l]).elim (s.slot i).value fun v => (written i v.1 v.2 s).value, .lineFault,
          some s.now⟩ := by
  rw [attachSlot_fault loaded h fault, qualityWrite_slot_self]
  cases heldValue s.lsc.lines[l] with
  | none => rfl
  | some v => rw [Option.elim_some, Option.elim_some, valueWrite_slot_self, valueWrite_frame i _ _ s .now (by decide)]

theorem attachSlot_other {j : Slot} (h : j ≠ i) : (attachSlot i l s).slot j = s.slot j := by
  have held : ((heldValue s.lsc.lines[l]).elim s fun v => valueWrite i v.1 v.2 s).slot j = s.slot j := by
    cases heldValue s.lsc.lines[l]
    · rfl
    · exact valueWrite_other h _ _ s
  unfold attachSlot
  simp only
  split
  · rfl
  · split
    · rfl
    · exact held
    · exact held
    · exact held
    · exact valueWrite_other h _ _ s
    · exact (qualityWrite_other h _ _).trans held
    · exact (qualityWrite_other h _ _).trans held
    · exact (qualityWrite_other h _ _).trans held

end

/-! ### The write of a signal entry (R4, R173) -/

/-- The signal table with one entry replaced. -/
def loadSignal (i : Slot) (e : SignalEntry) (s : State) : State :=
  { s with sst := { s.sst with table := s.sst.table.set i (some e) } }

theorem loadSignal_frame (i : Slot) (e : SignalEntry) (s : State) :
    ChangesOnly [.signalTable] s (loadSignal i e s) := by
  intro p hp
  cases p <;> first | exact OnlyQueues.of_same rfl rfl rfl rfl rfl | simp [Piece.kept, loadSignal] at hp ⊢

theorem loadSignal_signal (i : Slot) (e : SignalEntry) (s : State) : (loadSignal i e s).signal i = some e := by
  simp [State.signal, loadSignal]

/-- The slot's record is cleared under its new entry, before a line brings it up to date (R4, R31). -/
def leaveAndLoad (i : Slot) (e : SignalEntry) (s : State) : State :=
  clearRecord i (loadSignal i e (leaveProducer i s))

theorem leaveAndLoad_frame (i : Slot) (e : SignalEntry) (s : State) :
    ChangesOnly [.signalTable, .slots, .inFlight, .senderFlags] s (leaveAndLoad i e s) :=
  ((leaveProducer_frame i s).mono (by decide)).trans
    (((loadSignal_frame i e _).mono (by decide)).trans ((clearRecord_frame i _).mono (by decide)))

theorem leaveAndLoad_table (i : Slot) (e : SignalEntry) (s : State) :
    (leaveAndLoad i e s).sst.table = s.sst.table.set i (some e) := by
  have before : (leaveProducer i s).sst.table = s.sst.table := leaveProducer_frame i s .signalTable (by decide)
  rw [leaveAndLoad, clearRecord_frame i _ .signalTable (by decide), loadSignal, before]

theorem leaveAndLoad_slot (i j : Slot) (e : SignalEntry) (s : State) :
    (leaveAndLoad i e s).slot j = if j = i then .unwritten else s.slot j := by
  rw [leaveAndLoad, clearRecord, putRecord_slot]
  congr 1
  rw [(loadSignal_frame i e _).slot (by decide), (leaveProducer_frame i s).slot (by decide)]

theorem leaveAndLoad_signal (i : Slot) (e : SignalEntry) (s : State) :
    (leaveAndLoad i e s).signal i = some e := by
  rw [leaveAndLoad, (clearRecord_frame i _).signal (by decide), loadSignal_signal]

/-- A slot with another producer: cleared under its new entry, and brought up to date by a line (R4, R54). -/
theorem changeProducer_eq (i : Slot) (e : SignalEntry) (s : State) :
    changeProducer i e (loadSignal i e) s
      = if e.kind = .line then (toFin? 48 e.index).elim (leaveAndLoad i e s) fun l => attachSlot i l (leaveAndLoad i e s)
        else leaveAndLoad i e s := rfl

theorem changeProducer_frame (i : Slot) (e : SignalEntry) (s : State) :
    ChangesOnly [.signalTable, .slots, .inFlight, .senderFlags] s (changeProducer i e (loadSignal i e) s) := by
  rw [changeProducer_eq]
  exact (leaveAndLoad_frame i e s).trans
    (.ite (fun _ => .elim _ (.refl _ _) fun l => (attachSlot_frame i l _).mono (by decide)) fun _ => .refl _ _)

/-- The table and the other slots behind a change of producer. -/
theorem changeProducer_rest (i : Slot) (e : SignalEntry) (s : State) :
    (changeProducer i e (loadSignal i e) s).sst.table = s.sst.table.set i (some e)
      ∧ ∀ j ≠ i, (changeProducer i e (loadSignal i e) s).slot j = s.slot j := by
  have cleared (j : Slot) (h : j ≠ i) : (leaveAndLoad i e s).slot j = s.slot j := by rw [leaveAndLoad_slot, if_neg h]
  rw [changeProducer_eq]
  split
  · cases toFin? 48 e.index with
    | none => exact ⟨leaveAndLoad_table i e s, cleared⟩
    | some l => exact ⟨(attachSlot_frame i l _ .signalTable (by decide)).trans (leaveAndLoad_table i e s),
        fun j h => (attachSlot_other h).trans (cleared j h)⟩
  · exact ⟨leaveAndLoad_table i e s, cleared⟩

/-- The reporting part of a signal table write while nothing can be sent (R173). -/
theorem restartReporting_held {s : State} (h : sendingHeld s = true) (i : Slot) (report : Bool) :
    restartReporting i report s = { s with cli := { s.cli with
      updates := if report then (if s.cli.updates.contains i then s.cli.updates else s.cli.updates ++ [i])
        else s.cli.updates.erase i
      reports := s.cli.reports.set i ⟨none, if report then s.now else s.cli.reports[i].clockFrom⟩ } } := by
  have idle (f : List Slot) (g : Vector SlotReport 256) :
      transmit { s with cli := { s.cli with updates := f, reports := g } }
        = { s with cli := { s.cli with updates := f, reports := g } } := transmit_held h
  cases report
  · rfl
  · simp only [restartReporting, joinUpdates, if_true, idle]
    split <;> simp only [idle]

theorem restartReporting_held_frame {s : State} (h : sendingHeld s = true) (i : Slot) (report : Bool) :
    ChangesOnly [.updates] s (restartReporting i report s) := by
  rw [restartReporting_held h]
  have distinct (u : s.cli.updates.Nodup) : (if report then
      (if s.cli.updates.contains i then s.cli.updates else s.cli.updates ++ [i]) else s.cli.updates.erase i).Nodup := by
    split
    · split
      · exact u
      · rename_i absent
        exact u.append (List.nodup_singleton i) (by simpa using absent)
    · exact u.erase i
  intro p hp
  cases p <;> first | exact OnlyQueues.of_same rfl rfl rfl rfl rfl | exact distinct | simp [Piece.kept] at hp ⊢

end Sys2Proof.Machine
end

section
/-! PROOFS. SIGNAL_TABLE_WRITE settled. -/

namespace Sys2Proof.Machine

/-- The signal store's part of an accepted write: under the same producer, and in an internal slot, the record is
kept (R4). -/
def takeEntry (i : Slot) (e : SignalEntry) (s : State) : State :=
  if isInternal i || decide (producerOf i s = e.producer) then loadSignal i e s
  else changeProducer i e (loadSignal i e) s

theorem writeSignal_eq (i : Slot) (e : SignalEntry) (s : State) :
    writeSignal i e s = restartReporting i e.report (takeEntry i e s) := rfl

theorem takeEntry_frame (i : Slot) (e : SignalEntry) (s : State) :
    ChangesOnly [.signalTable, .slots, .inFlight, .senderFlags] s (takeEntry i e s) :=
  .ite (fun _ => (loadSignal_frame i e s).mono (by decide)) fun _ => changeProducer_frame i e s

theorem takeEntry_rest (i : Slot) (e : SignalEntry) (s : State) :
    (takeEntry i e s).sst.table = s.sst.table.set i (some e) ∧ ∀ j ≠ i, (takeEntry i e s).slot j = s.slot j := by
  unfold takeEntry
  split
  · exact ⟨rfl, fun j _ => rfl⟩
  · exact changeProducer_rest i e s

theorem takeEntry_kept {i : Slot} {e : SignalEntry} {s : State}
    (h : isInternal i = true ∨ producerOf i s = e.producer) : (takeEntry i e s).slot i = s.slot i := by
  rw [takeEntry, if_pos (by simpa using h)]
  rfl

theorem takeEntry_changed {i : Slot} {e : SignalEntry} {s : State} (h : isInternal i = false)
    (k : producerOf i s ≠ e.producer) : takeEntry i e s = changeProducer i e (loadSignal i e) s := by
  rw [takeEntry, if_neg (by simp [h, k])]

/-- Another producer that is a line attaches the slot to it. -/
theorem takeEntry_line {i : Slot} {e : SignalEntry} {s : State} (h : isInternal i = false)
    (k : producerOf i s ≠ e.producer) (line : e.kind = .line) {l : Fin 48} (hl : l.val = e.index) :
    takeEntry i e s = attachSlot i l (leaveAndLoad i e s) := by
  have index : toFin? 48 e.index = some l := by simp [toFin?, ← hl]
  rw [takeEntry_changed h k, changeProducer_eq, if_pos line, index, Option.elim_some]

/-- Another producer that brings nothing leaves the slot never received (R4, R54). -/
theorem takeEntry_silent {i : Slot} {e : SignalEntry} {s : State} (h : isInternal i = false)
    (k : producerOf i s ≠ e.producer)
    (silent : e.kind ≠ .line ∨ ∀ l : Fin 48, l.val = e.index → s.lsc.lines[l].accepted = none ∨ s.lsc.table[l] = none) :
    (takeEntry i e s).slot i = ⟨0, .neverReceived, none⟩ := by
  have cleared : (leaveAndLoad i e s).slot i = ⟨0, .neverReceived, none⟩ := by
    rw [leaveAndLoad_slot, if_pos rfl]
    rfl
  have lines : (leaveAndLoad i e s).lsc.lines = s.lsc.lines := leaveAndLoad_frame i e s .lines (by decide)
  have table : (leaveAndLoad i e s).lsc.table = s.lsc.table := leaveAndLoad_frame i e s .lineTable (by decide)
  rw [takeEntry_changed h k, changeProducer_eq]
  split
  · rename_i line
    cases index : toFin? 48 e.index with
    | none => exact cleared
    | some l =>
      have hl : l.val = e.index := by
        unfold toFin? at index
        split at index
        · cases index
          rfl
        · cases index
      rw [Option.elim_some, attachSlot_silent, cleared]
      rw [lines, table]
      exact (silent.resolve_left (not_not_intro line)) l hl
  · exact cleared

/-- Settles O11: the response, the entry with its record, and the report flag, each with its frame. -/
theorem signalTableWriteLoads : Obligations.SignalTableWriteLoads := by
  intro rest i e s ready config length index entry put
  have answer : answerRecord ⟨0x01, 1 :: rest⟩ s = accepted [] (writeSignal i e) :=
    tableWrite_ok (len := 28) (ok := inConfig) (write := writeSignal) length (decide_eq_true config) index entry
  have inert := respond_frame 0x01 .ok [] s
  set s' := respond 0x01 .ok [] s
  have taken := takeEntry_frame i e s'
  have held : sendingHeld (takeEntry i e s') = true := (taken .queues (by decide)).held (respond_held _ _ _ s)
  have restarted : ChangesOnly [.updates] (takeEntry i e s') (writeSignal i e s') :=
    restartReporting_held_frame held i e.report
  have frame : ChangesOnly [.signalTable, .slots, .inFlight, .senderFlags, .updates] s' (writeSignal i e s') :=
    (taken.mono (by decide)).trans (restarted.mono (by decide))
  have slot (j : Slot) : (writeSignal i e s').slot j = (takeEntry i e s').slot j := restarted.slot (by decide) j
  have before (j : Slot) : s'.slot j = s.slot j := inert.slot (by decide) j
  have table : s'.sst.table = s.sst.table := inert .signalTable (by decide)
  have producer : producerOf i s' = producerOf i s := by rw [producerOf, producerOf, signal_eq table]
  have lines : s'.lsc.lines = s.lsc.lines := inert .lines (by decide)
  have lineTable : s'.lsc.table = s.lsc.table := inert .lineTable (by decide)
  obtain ⟨tableTaken, otherSlots⟩ := takeEntry_rest i e s'
  have updates : (takeEntry i e s').cli.updates = s.cli.updates :=
    (taken .updates (by decide)).1.trans (inert .updates (by decide)).1
  refine ⟨writeSignal i e s', exec_accepted rfl ready (heldRecord_of_kind (by decide) _ s) answer,
    (answered_after frame (by decide)).1, ?_, ?_, ?_, ?_, ?_, ?_, ?_, answered_frame frame⟩
  · rw [restarted .signalTable (by decide), tableTaken, table]
  · intro j hj
    rw [slot, otherSlots j hj, before]
  · intro kept
    rw [slot, takeEntry_kept (by rwa [producer]), before]
  · intro outer other silent
    rw [slot, takeEntry_silent outer (by rwa [producer])]
    rwa [lines, lineTable]
  · intro l outer other line hl loaded r faulted
    have attached := takeEntry_line (s := s') outer (by rwa [producer]) line hl
    set x := leaveAndLoad i e s' with hx
    have r_eq : x.lsc.lines[l] = r := by
      rw [leaveAndLoad_frame i e s' .lines (by decide), lines]
    have loaded' : x.lsc.table[l] ≠ none := by
      rwa [leaveAndLoad_frame i e s' .lineTable (by decide), lineTable]
    have now : x.now = s.now := (leaveAndLoad_frame i e s' .now (by decide)).trans (inert .now (by decide))
    have stored (v : Int) (q : Quality) : written i v q x = put v q := by
      rw [written_configurable outer (leaveAndLoad_signal i e s'), now]
    rw [slot, attached]
    have held {v : Int × Quality} (reads : r.accepted = some .active ∨ r.accepted = some .inactive
        ∨ r.accepted = some .value) (h : heldValue r = some v) : (attachSlot i l x).slot i = put v.1 v.2 := by
      rw [attachSlot_held loaded' (by rwa [r_eq]) (by rwa [r_eq]), valueWrite_slot_self, stored]
    have marked (h : faulted) : (attachSlot i l x).slot i
        = ⟨(heldValue r).elim 0 fun v => (put v.1 v.2).value, .lineFault, some s.now⟩ := by
      obtain ⟨y, hy, fault⟩ := h
      have cleared : (x.slot i).value = 0 := by
        rw [hx, leaveAndLoad_slot, if_pos rfl]
        rfl
      rw [attachSlot_fault_slot loaded' (by rwa [r_eq]) fault, r_eq, now, cleared]
      simp only [stored]
    refine ⟨fun b reads state => held (reads.imp_right .inl) (heldValue_state state), fun sender => ?_,
      fun v q reads state curve => held (.inr (.inr reads)) ((heldValue_curve state).trans curve),
      fun b fault state => ?_, fun v q fault state curve => ?_, fun fault state curve => ?_⟩
    · rw [attachSlot_senderOk loaded' (by rwa [r_eq]), valueWrite_slot_self, stored]
    · rw [marked fault, heldValue_state state, Option.elim_some]
    · rw [marked fault, heldValue_curve state, curve, Option.elim_some]
    · rw [marked fault, heldValue_curve state, curve, Option.elim_none]
  · rw [writeSignal_eq, restartReporting_held held, updates]
  · rw [writeSignal_eq, restartReporting_held held]
    simp

end Sys2Proof.Machine
end

section
/-! PROOFS. The commanded reset of each block (R17, R38, R58, R81, R96, R118, R129, R147, R165, R194): one lemma for what
it leaves in the slots, one for its frame, and one for what stands in flight of the withdrawals of chime requests. -/

namespace Sys2Proof.Machine

theorem mapTable_getElem {α β : Type} {n : Nat} (f : α → β) (t : Vector α n) (i : Fin n) :
    (mapTable f t)[i] = f t[i] := by
  simp [mapTable]

/-! ### Writes of internal slots -/

theorem valueWrite_internal_slot {i : Slot} (h : isInternal i = true) (v : Int) (q : Quality) (s : State) (j : Slot) :
    (valueWrite i v q s).slot j = if j = i then ⟨v, q, some s.now⟩ else s.slot j := by
  split
  · rename_i same
    rw [same, valueWrite_internal i h]
  · rename_i other
    exact valueWrite_other other v q s

@[simp] theorem valueWrite_now (i : Slot) (v : Int) (q : Quality) (s : State) : (valueWrite i v q s).now = s.now :=
  valueWrite_frame i v q s .now (by decide)

@[simp] theorem qualityWrite_now (i : Slot) (q : Quality) (s : State) : (qualityWrite i q s).now = s.now :=
  qualityWrite_frame i q s .now (by decide)

/-- No write of a slot withdraws a chime request. -/
theorem putRecord_withdrawals (i : Slot) (r : SlotRecord) (s : State) (who : Requester) :
    (putRecord i r s).inFlight.count (.requestWithdrawal who) = s.inFlight.count (.requestWithdrawal who) := by
  have absent : Instr.requestWithdrawal who ∉ noticesOf i r s := by
    by_cases h : (s.slot i).value = r.value ∧ (s.slot i).quality = r.quality
    · simp [noticesOf, h]
    · simp [mem_noticesOf h, mem_useNotices, mem_ownNotices]
  rw [putRecord_eq, List.count_append, List.count_eq_zero.2 absent, Nat.add_zero]

theorem valueWrite_withdrawals (i : Slot) (v : Int) (q : Quality) (s : State) (who : Requester) :
    (valueWrite i v q s).inFlight.count (.requestWithdrawal who) = s.inFlight.count (.requestWithdrawal who) :=
  putRecord_withdrawals _ _ _ _

theorem qualityWrite_withdrawals (i : Slot) (q : Quality) (s : State) (who : Requester) :
    (qualityWrite i q s).inFlight.count (.requestWithdrawal who) = s.inFlight.count (.requestWithdrawal who) :=
  putRecord_withdrawals _ _ _ _

/-! ### Frame path (R17, R38) -/

theorem unwriteSlots_slot (l : List Slot) (s : State) (k : Slot) :
    (l.foldl (fun s (k : Slot) => { s with sst := { s.sst with slots := s.sst.slots.set k .unwritten } }) s).slot k
      = if k ∈ l then .unwritten else s.slot k := by
  induction l generalizing s with
  | nil => simp
  | cons i l ih =>
    rw [List.foldl_cons, ih]
    by_cases hl : k ∈ l
    · simp [hl]
    · by_cases hi : k = i
      · simp [hi, State.slot]
      · simp [hl, hi, State.slot, Ne.symm (Fin.val_ne_of_ne hi)]

/-- The frame-produced slots are never received, and no other slot changes (R17). -/
theorem frpReset_slot (s : State) (k : Slot) :
    (frpReset s).slot k
      = if 12 ≤ k.val ∧ ∃ g, s.signal k = some g ∧ g.kind = .frame then .unwritten else s.slot k := by
  unfold frpReset
  rw [unwriteSlots_slot]
  refine if_congr ?_ rfl rfl
  simp [mem_slotsWith, isInternal]

theorem frpReset_frp (s : State) :
    (frpReset s).frp = { s.frp with run := Vector.replicate 64 .reset, senderErr := Vector.replicate 256 false } := by
  unfold frpReset
  simp only
  induction slotsWith (fun g => decide (g.kind = .frame)) s using List.reverseRecOn with
  | nil => rfl
  | append_singleton l k ih =>
    rw [List.foldl_append]
    exact ih

/-! ### Speed and distance unit (R81) -/

/-- What the reset of the speed unit changes: it queues nothing, and leaves the calibration window alone. -/
def speedReset : List Piece := [.measurement, .plausibility, .slots, .inFlight]

theorem sduReset_quiet (s : State) : ChangesOnly speedReset s (sduReset s) := by
  have fields (s : State) : ChangesOnly speedReset s { s with sdu := { s.sdu with
      filterRef := none, plausPresent := false, plausFrom := none, implausible := false } } := by
    intro p hp
    cases p <;> first | exact OnlyQueues.of_same rfl rfl rfl rfl rfl | simp [Piece.kept, speedReset] at hp ⊢
  have write (i : Slot) (v : Int) (q : Quality) (s : State) : ChangesOnly speedReset s (valueWrite i v q s) :=
    (valueWrite_frame i v q s).mono (by decide)
  have stopped := (fields s).trans ((stopMeasurement_frame _).mono (by decide))
  unfold sduReset
  simp only
  refine ChangesOnly.trans ?_ (write _ _ _ _)
  split
  · exact stopped.trans ((write _ _ _ _).trans ((write _ _ _ _).trans
      (((qualityWrite_frame _ _ _).mono (by decide)).trans (write _ _ _ _))))
  · exact stopped.trans ((write _ _ _ _).trans (write _ _ _ _))

theorem speedWrites_slot (q : Quality) (s : State) (k : Slot) :
    (valueWrite vehicleSpeed 0 q (valueWrite pulseSpeed 0 q s)).slot k
      = if k = vehicleSpeed ∨ k = pulseSpeed then ⟨0, q, some s.now⟩ else s.slot k := by
  rw [valueWrite_internal_slot rfl, valueWrite_internal_slot rfl, valueWrite_now, ite_or]

/-- The sender fault marks both speeds behind the writes of 0 (R81). -/
theorem faultWrites_slot (q : Quality) (s : State) (k : Slot) :
    (valueWrite vehicleSpeed 0 .lineFault (qualityWrite pulseSpeed .lineFault
        (valueWrite vehicleSpeed 0 q (valueWrite pulseSpeed 0 q s)))).slot k
      = if k = vehicleSpeed ∨ k = pulseSpeed then ⟨0, .lineFault, some s.now⟩ else s.slot k := by
  rw [valueWrite_internal_slot rfl, qualityWrite_slot, speedWrites_slot, speedWrites_slot, if_pos (Or.inr rfl)]
  simp only [valueWrite_now, qualityWrite_now]
  by_cases hv : k = vehicleSpeed
  · simp [hv]
  · by_cases hp : k = pulseSpeed <;> simp [hv, hp]

/-- The speeds and the drive cycle stand at 0, the speeds with the quality of rest (R65, R81). -/
theorem sduReset_slot (s : State) (k : Slot) :
    (sduReset s).slot k = if k = driveCycle then ⟨0, .valid, some s.now⟩
      else if k = vehicleSpeed ∨ k = pulseSpeed then ⟨0, restQuality s, some s.now⟩ else s.slot k := by
  have rest : restQuality s = if s.sdu.cal.isSome && s.lsc.senderFault then .lineFault
      else if s.sdu.cal.isSome then .valid else .notAvailable := by
    cases h : s.sdu.cal <;> cases k : s.lsc.senderFault <;> simp [restQuality, h, k]
  rw [rest]
  unfold sduReset
  by_cases fault : (s.sdu.cal.isSome && s.lsc.senderFault) = true
  · simp only [fault, valueWrite_internal_slot (i := driveCycle) rfl, faultWrites_slot, valueWrite_now, qualityWrite_now,
      if_true]
    rfl
  · simp only [fault, valueWrite_internal_slot (i := driveCycle) rfl, speedWrites_slot, valueWrite_now,
      Bool.false_eq_true, if_false]
    rfl

theorem sduReset_sdu (s : State) :
    (sduReset s).sdu = { s.sdu with
      meas := .stopped, boundDue := none, standFrom := none
      filterRef := none, plausPresent := false, plausFrom := none, implausible := false } := by
  have value (i : Slot) (v : Int) (q : Quality) (s : State) : (valueWrite i v q s).sdu = s.sdu := by
    rw [valueWrite, putRecord_eq]
  have quality (i : Slot) (q : Quality) (s : State) : (qualityWrite i q s).sdu = s.sdu := by
    rw [qualityWrite, putRecord_eq]
  unfold sduReset
  simp only [value]
  split <;> simp only [value, quality] <;> rfl

theorem sduReset_withdrawals (s : State) (who : Requester) :
    (sduReset s).inFlight.count (.requestWithdrawal who) = s.inFlight.count (.requestWithdrawal who) := by
  unfold sduReset
  simp only [valueWrite_withdrawals]
  split <;> simp only [valueWrite_withdrawals, qualityWrite_withdrawals] <;> rfl

/-! ### Warning unit (R118) -/

/-- What the reset of the warning unit changes: it queues nothing. -/
def warningReset : List Piece := [.warnRuns, .warnList, .slots, .inFlight]

theorem wrnReset_quiet (s : State) : ChangesOnly warningReset s (wrnReset s) := by
  refine ChangesOnly.trans ?_ ((valueWrite_frame _ _ _ _).mono (by decide))
  refine ChangesOnly.trans ?_ ((post_frame _ _).mono (by decide))
  intro p hp
  cases p <;> first | exact OnlyQueues.of_same rfl rfl rfl rfl rfl | simp [Piece.kept, warningReset] at hp ⊢

theorem wrnReset_slot (s : State) (k : Slot) :
    (wrnReset s).slot k = if k = activeWarnings then ⟨0, .valid, some s.now⟩ else s.slot k := by
  rw [wrnReset, valueWrite_internal_slot rfl]
  rfl

theorem wrnReset_wrn (s : State) :
    (wrnReset s).wrn = { s.wrn with
      run := mapTable (fun r => { putOff r with join := 0 }) s.wrn.run, joinCounter := 0, reportedTop := none } := by
  rw [wrnReset, valueWrite, putRecord_eq]
  rfl

/-- An entry with a chime pattern that leaves ON_UNACK withdraws its request once (R116). -/
theorem resetWithdrawals_count {i : Fin 96} {e : WarnEntry} {s : State} (entry : warnEntry i s = some e)
    (chime : e.chime.isSome = true) (unacked : (warnRun i s).state = .onUnack) :
    (resetWithdrawals s).count (.requestWithdrawal (.warning i)) = 1 := by
  have one (j : Fin 96) : chimeNotices j ((warnEntry j s).bind WarnEntry.chime) (warnRun j s).state .off
      = if ((warnEntry j s).bind WarnEntry.chime).isSome ∧ (warnRun j s).state = .onUnack
        then [.requestWithdrawal (.warning j)] else [] := by
    cases (warnEntry j s).bind WarnEntry.chime <;> simp [chimeNotices]
  have distinct : (resetWithdrawals s).Nodup := by
    refine List.nodup_flatMap.2 ⟨fun j _ => ?_, (indices_nodup 96).imp fun {j k} other c hj hk => ?_⟩
    · rw [one]
      split <;> simp
    · simp only [one, List.mem_ite_nil_right, List.mem_singleton] at hj hk
      obtain ⟨-, rfl⟩ := hj
      simp_all
  have member : .requestWithdrawal (.warning i) ∈ resetWithdrawals s :=
    List.mem_flatMap.2 ⟨i, mem_indices 96 i, by
      rw [one, if_pos ⟨by simpa [entry] using chime, unacked⟩]
      exact List.mem_singleton_self _⟩
  rw [distinct.count, if_pos member]

theorem wrnReset_withdrawals {i : Fin 96} {e : WarnEntry} {s : State} (entry : warnEntry i s = some e)
    (chime : e.chime.isSome = true) (unacked : (warnRun i s).state = .onUnack) :
    (wrnReset s).inFlight.count (.requestWithdrawal (.warning i))
      = s.inFlight.count (.requestWithdrawal (.warning i)) + 1 := by
  rw [wrnReset, valueWrite_withdrawals, post, List.count_append, resetWithdrawals_count entry chime unacked]

/-! ### Door monitor (R147) -/

theorem drmReset_slot (s : State) (k : Slot) :
    (drmReset s).slot k = if k = openPortals ∨ k = stopRequest ∨ k = doorsAllClosed then ⟨0, .valid, some s.now⟩
      else s.slot k := by
  unfold drmReset
  simp only [valueWrite_internal_slot (i := openPortals) rfl, valueWrite_internal_slot (i := stopRequest) rfl,
    valueWrite_internal_slot (i := doorsAllClosed) rfl, valueWrite_now]
  rw [ite_or, ite_or]
  rfl

theorem drmReset_drm (s : State) :
    (drmReset s).drm = { s.drm with
      leaves := mapTable (fun r => ({ LeafRun.reset with
        cycles := r.cycles, obstructions := r.obstructions, maxTransit := r.maxTransit } : LeafRun)) s.drm.leaves
      portals := Vector.replicate 4 .reset, latch := false } := by
  have value (i : Slot) (v : Int) (q : Quality) (s : State) : (valueWrite i v q s).drm = s.drm := by
    rw [valueWrite, putRecord_eq]
  simp only [drmReset, value]

theorem drmReset_withdrawals (s : State) (who : Requester) :
    (drmReset s).inFlight.count (.requestWithdrawal who) = s.inFlight.count (.requestWithdrawal who) := by
  simp only [drmReset, valueWrite_withdrawals]

/-! ### Fault memory (R165) -/

/-- Every record is STORED. -/
theorem fltReset_records (s : State) :
    (fltReset s).flt.records = s.flt.records.map fun r => { r with active := false } :=
  valueWrite_frame _ _ _ _ .records (by decide)

/-- No record is ACTIVE, so ACTIVE_FAULTS is 0. -/
theorem fltReset_slot (s : State) (k : Slot) :
    (fltReset s).slot k = if k = activeFaults then ⟨0, .valid, some s.now⟩ else s.slot k := by
  have none : activeCount (setRecords (s.flt.records.map fun r => { r with active := false }) s) = 0 := by
    simp [activeCount, setRecords, List.countP_map, Function.comp_def]
  rw [fltReset, valueWrite_internal_slot rfl, none]
  rfl

theorem fltReset_withdrawals (s : State) (who : Requester) :
    (fltReset s).inFlight.count (.requestWithdrawal who) = s.inFlight.count (.requestWithdrawal who) := by
  rw [fltReset, valueWrite_withdrawals]
  rfl

/-! ### Workshop port (R194) -/

/-- The end of a test in CONFIG, with no chime request to withdraw, releases nothing else. -/
theorem endTest_idle_frame {s : State} (config : s.opState = .config) (silent : s.chg.requests = []) :
    ChangesOnly [.wsTest] s (endTest s) := by
  have stop : ChangesOnly [.wsTest] s { s with wsp := { s.wsp with test := none, testDue := none } } := by
    intro p hp
    cases p <;> first | exact OnlyQueues.of_same rfl rfl rfl rfl rfl | simp [Piece.kept] at hp ⊢
  unfold endTest
  simp only
  split
  · exact .refl _ s
  · exact stop
  · rw [gdrEndTest, if_neg (by simp [config])]
    exact stop
  · rw [withdraw, if_neg (by simp [requestOf, silent])]
    exact stop

theorem endTest_test (s : State) : (endTest s).wsp.test = none := by
  unfold endTest
  simp only
  split
  · assumption
  · rfl
  · rw [(gdrEndTest_frame _ _ .wsTest (by decide)).1]
  · rw [(withdraw_frame _ _ .wsTest (by decide)).1]

/-- Abandoning a response leaves nothing of it but a segment whose transmission had started (R188). -/
theorem abandonResponse_abandons (s : State) : ResponseAbandoned s (abandonResponse s) := by
  unfold abandonResponse
  split
  · rename_i absent
    exact ⟨Option.isNone_iff_eq_none.1 absent, .inl rfl, fun _ => rfl⟩
  · refine ⟨rfl, ?_, fun h => ?_⟩
    · simp only [bumpFree, abandonAs]
      split
      · rename_i h
        simp at h
        exact .inr ⟨h.1, rfl⟩
      · exact .inl rfl
    · simp [bumpFree, abandonAs, h]

/-- An abandonment stays one over what leaves the workshop port's settings, errors and response alone. -/
theorem ResponseAbandoned.of_frames {ps qs : List Piece} {s s' t' t : State} (a : ResponseAbandoned s' t')
    (h : ChangesOnly ps s s') (k : ChangesOnly qs t' t) (response : Piece.wsResponse ∉ ps)
    (settings : Piece.wsSettings ∉ ps) (errors : Piece.wsErrors ∉ ps) (kept : Piece.wsResponse ∉ qs) :
    ResponseAbandoned s t := by
  obtain ⟨sameResponse, sameOrphan⟩ := h .wsResponse response
  obtain ⟨laterResponse, laterOrphan⟩ := k .wsResponse kept
  have port : segmentAtPort s' = segmentAtPort s := by rw [segmentAtPort, segmentAtPort, sameResponse]
  have running : wsRunning s' = wsRunning s := by
    rw [wsRunning, wsRunning, h .wsSettings settings, (h .wsErrors errors).2]
  obtain ⟨gone, orphan, silent⟩ := a
  rw [ResponseAbandoned, laterResponse, laterOrphan, ← sameOrphan, ← port, ← running]
  exact ⟨gone, orphan, silent⟩

end Sys2Proof.Machine
end

section
/-! PROOFS. The commanded reset of the part (R182): the blocks one behind the other, each with the frame of those before
it and of those behind it. -/

namespace Sys2Proof.Machine

/-! ### The blocks in their order -/

/-- The part behind the resets of the gauge drive's report, the frame path and the scanner. -/
def throughScanner (wasParked : Bool) (s : State) : State :=
  (if wasParked then lscLeaveParked else id) (frpReset (dropSweepReport s))

/-- The part behind the reset of the speed unit. -/
def throughSpeed (wasParked : Bool) (s : State) : State := sduReset (throughScanner wasParked s)

/-- The part behind the reset of the gauge drive. -/
def throughGauges (wasParked : Bool) (s : State) : State := gdrReset (throughSpeed wasParked s)

/-- The part behind the reset of the warning unit. -/
def throughWarnings (wasParked : Bool) (s : State) : State := wrnReset (throughGauges wasParked s)

/-- The part behind the resets of the chime generator and the door monitor. -/
def throughDoors (wasParked : Bool) (s : State) : State := drmReset (clearRequests (throughWarnings wasParked s))

/-- The part behind the reset of the fault memory. -/
def throughFaults (wasParked : Bool) (s : State) : State := fltReset (throughDoors wasParked s)

theorem resetBlocks_eq (b : Bool) (s : State) : resetBlocks b s = wspReset (throughFaults b s) := rfl

section
variable (b : Bool) (s : State)

/-! ### The frame of the blocks up to one -/

theorem throughScanner_frame :
    ChangesOnly [.inFlight, .arrivals, .frameRuns, .senderFlags, .slots, .scanPlay] s (throughScanner b s) := by
  refine ChangesOnly.trans ((dropSweepReport_frame s).mono (by decide)) ?_
  refine ChangesOnly.trans ((frpReset_frame _).mono (by decide)) ?_
  cases b
  · exact .refl _ _
  · exact (startPlay_frame _).mono (by decide)

theorem throughSpeed_frame :
    ChangesOnly [.inFlight, .arrivals, .frameRuns, .senderFlags, .slots, .scanPlay, .measurement, .plausibility] s
      (throughSpeed b s) :=
  (throughScanner_frame b s).comp (sduReset_quiet _) (by decide) (by decide)

theorem throughGauges_frame :
    ChangesOnly [.inFlight, .arrivals, .frameRuns, .senderFlags, .slots, .scanPlay, .measurement, .plausibility,
      .gaugeRuns, .sweepPhase] s (throughGauges b s) :=
  (throughSpeed_frame b s).comp (gdrReset_frame _) (by decide) (by decide)

theorem throughWarnings_frame :
    ChangesOnly [.inFlight, .arrivals, .frameRuns, .senderFlags, .slots, .scanPlay, .measurement, .plausibility,
      .gaugeRuns, .sweepPhase, .warnRuns, .warnList] s (throughWarnings b s) :=
  (throughGauges_frame b s).comp (wrnReset_quiet _) (by decide) (by decide)

theorem throughDoors_from_warnings :
    ChangesOnly [.requests, .playing, .leaves, .portals, .latch, .slots, .inFlight] (throughWarnings b s)
      (throughDoors b s) :=
  (clearRequests_frame _).comp (drmReset_frame _) (by decide) (by decide)

theorem throughDoors_frame :
    ChangesOnly [.inFlight, .arrivals, .frameRuns, .senderFlags, .slots, .scanPlay, .measurement, .plausibility,
      .gaugeRuns, .sweepPhase, .warnRuns, .warnList, .requests, .playing, .leaves, .portals, .latch] s
      (throughDoors b s) :=
  (throughWarnings_frame b s).comp (throughDoors_from_warnings b s) (by decide) (by decide)

/-- What the reset of the blocks changes before the workshop port's: it queues nothing, starts no record, and leaves the
calibration window alone. -/
theorem throughFaults_frame :
    ChangesOnly [.inFlight, .arrivals, .frameRuns, .senderFlags, .slots, .scanPlay, .measurement, .plausibility,
      .gaugeRuns, .sweepPhase, .warnRuns, .warnList, .requests, .playing, .leaves, .portals, .latch, .records] s
      (throughFaults b s) :=
  (throughDoors_frame b s).comp (fltReset_frame _) (by decide) (by decide)

/-! ### The slots behind each block -/

theorem throughSpeed_slot (k : Slot) :
    (throughSpeed b s).slot k = if k = driveCycle then ⟨0, .valid, some s.now⟩
      else if k = vehicleSpeed ∨ k = pulseSpeed then ⟨0, restQuality s, some s.now⟩
      else if 12 ≤ k.val ∧ ∃ g, s.signal k = some g ∧ g.kind = .frame then .unwritten else s.slot k := by
  have before := throughScanner_frame b s
  have scanner : (throughScanner b s).slot k = (frpReset (dropSweepReport s)).slot k := by cases b <;> rfl
  have rest : restQuality (throughScanner b s) = restQuality s := by
    rw [restQuality, restQuality, before .calibration (by decide), before .senderFault (by decide)]
  rw [throughSpeed, sduReset_slot, before .now (by decide), rest, scanner, frpReset_slot]
  rfl

theorem throughWarnings_slot (k : Slot) :
    (throughWarnings b s).slot k = if k = activeWarnings then ⟨0, .valid, some s.now⟩ else (throughSpeed b s).slot k := by
  rw [throughWarnings, wrnReset_slot, throughGauges_frame b s .now (by decide), throughGauges,
    (gdrReset_frame _).slot (by decide)]

theorem throughFaults_slot (k : Slot) :
    (throughFaults b s).slot k
      = if k = activeFaults ∨ k = openPortals ∨ k = stopRequest ∨ k = doorsAllClosed then ⟨0, .valid, some s.now⟩
        else (throughWarnings b s).slot k := by
  have cleared : (clearRequests (throughWarnings b s)).now = s.now := throughWarnings_frame b s .now (by decide)
  rw [throughFaults, fltReset_slot, throughDoors_frame b s .now (by decide), throughDoors, drmReset_slot, cleared, ← ite_or]
  rfl

theorem throughDoors_silent : (throughDoors b s).chg.requests = [] ∧ (throughDoors b s).chg.playing = none := by
  rw [throughDoors, (drmReset_frame _ .requests (by decide)).1, drmReset_frame _ .playing (by decide)]
  exact ⟨rfl, rfl⟩

end

section
variable (b : Bool) {s : State} (config : s.opState = .config)
include config

/-- The end of the test, in CONFIG and with no chime request (R194). -/
theorem resetBlocks_from_abandonment :
    ChangesOnly [.wsTest] (abandonResponse (throughFaults b s)) (resetBlocks b s) := by
  have gone := abandonResponse_frame (throughFaults b s)
  rw [resetBlocks_eq, wspReset]
  refine endTest_idle_frame ?_ ?_
  · rw [gone .opState (by decide), throughFaults_frame b s .opState (by decide), config]
  · rw [(gone .requests (by decide)).1, throughFaults, (fltReset_frame _ .requests (by decide)).1,
      (throughDoors_silent b s).1]

theorem resetBlocks_from_faults :
    ChangesOnly [.wsResponse, .freeCount, .wsTest] (throughFaults b s) (resetBlocks b s) :=
  (abandonResponse_frame _).comp (resetBlocks_from_abandonment b config) (by decide) (by decide)

theorem resetBlocks_from_doors :
    ChangesOnly [.records, .slots, .inFlight, .wsResponse, .freeCount, .wsTest] (throughDoors b s) (resetBlocks b s) :=
  (fltReset_frame _).comp (resetBlocks_from_faults b config) (by decide) (by decide)

theorem resetBlocks_from_warnings :
    ChangesOnly [.requests, .playing, .leaves, .portals, .latch, .records, .slots, .inFlight, .wsResponse, .freeCount,
      .wsTest] (throughWarnings b s) (resetBlocks b s) :=
  (throughDoors_from_warnings b s).comp (resetBlocks_from_doors b config) (by decide) (by decide)

theorem resetBlocks_from_gauges :
    ChangesOnly [.requests, .playing, .leaves, .portals, .latch, .records, .slots, .inFlight, .wsResponse, .freeCount,
      .wsTest, .warnRuns, .warnList] (throughGauges b s) (resetBlocks b s) :=
  (wrnReset_quiet _).comp (resetBlocks_from_warnings b config) (by decide) (by decide)

theorem resetBlocks_from_speed :
    ChangesOnly [.requests, .playing, .leaves, .portals, .latch, .records, .slots, .inFlight, .wsResponse, .freeCount,
      .wsTest, .warnRuns, .warnList, .gaugeRuns, .sweepPhase] (throughSpeed b s) (resetBlocks b s) :=
  (gdrReset_frame _).comp (resetBlocks_from_gauges b config) (by decide) (by decide)

theorem resetBlocks_from_scanner :
    ChangesOnly [.requests, .playing, .leaves, .portals, .latch, .records, .slots, .inFlight, .wsResponse, .freeCount,
      .wsTest, .warnRuns, .warnList, .gaugeRuns, .sweepPhase, .measurement, .plausibility] (throughScanner b s)
      (resetBlocks b s) :=
  (sduReset_quiet _).comp (resetBlocks_from_speed b config) (by decide) (by decide)

/-- The reset of the blocks in CONFIG queues nothing, starts no record, and leaves the calibration window alone. -/
theorem resetBlocks_quiet :
    ChangesOnly [.inFlight, .arrivals, .frameRuns, .senderFlags, .slots, .scanPlay, .measurement, .plausibility,
      .gaugeRuns, .sweepPhase, .warnRuns, .warnList, .requests, .playing, .leaves, .portals, .latch, .records,
      .wsResponse, .freeCount, .wsTest] s (resetBlocks b s) :=
  (throughFaults_frame b s).comp (resetBlocks_from_faults b config) (by decide) (by decide)

/-! ### What the reset leaves in each block -/

theorem resetBlocks_frames (i : Fin 64) (k : Slot) :
    frameRun i (resetBlocks b s) = .reset ∧ (resetBlocks b s).frp.senderErr[k] = false := by
  have behind := resetBlocks_from_scanner b config
  have frp : (throughScanner b s).frp = (frpReset (dropSweepReport s)).frp := by
    cases b <;> rfl
  rw [frameRun, behind .frameRuns (by decide), behind .senderFlags (by decide), frp, frpReset_frp]
  simp

theorem resetBlocks_scan :
    (b = true → (resetBlocks b s).lsc.scanPos = 0 ∧ (resetBlocks b s).lsc.passDue = none
      ∧ (resetBlocks b s).lsc.scanDue = some (s.now + slotTime s))
    ∧ (b = false → (resetBlocks b s).lsc.scanPos = s.lsc.scanPos ∧ (resetBlocks b s).lsc.passDue = s.lsc.passDue
      ∧ (resetBlocks b s).lsc.scanDue = s.lsc.scanDue) := by
  obtain ⟨pos, due, pass⟩ := resetBlocks_from_scanner b config .scanPlay (by decide)
  have framed : ChangesOnly [.inFlight, .arrivals, .frameRuns, .senderFlags, .slots] s (frpReset (dropSweepReport s)) :=
    (dropSweepReport_frame s).comp (frpReset_frame _) (by decide) (by decide)
  rw [pos, due, pass]
  refine ⟨fun parked => ?_, fun playing => ?_⟩
  · subst parked
    refine ⟨rfl, rfl, ?_⟩
    show some (_ + slotTime (frpReset (dropSweepReport s))) = _
    rw [framed .now (by decide), slotTime, slotTime, framed .scanTable (by decide)]
  · subst playing
    obtain ⟨pos, due, pass⟩ := framed .scanPlay (by decide)
    exact ⟨pos, pass, due⟩

theorem resetBlocks_measurement :
    (resetBlocks b s).sdu.meas = .stopped ∧ (resetBlocks b s).sdu.filterRef = none
      ∧ (resetBlocks b s).sdu.standFrom = none ∧ (resetBlocks b s).sdu.boundDue = none := by
  have stopped := resetBlocks_from_speed b config .measurement (by decide)
  simpa only [Piece.kept, throughSpeed, sduReset_sdu] using stopped

theorem resetBlocks_plausibility :
    (resetBlocks b s).sdu.plausPresent = false ∧ (resetBlocks b s).sdu.plausFrom = none
      ∧ (resetBlocks b s).sdu.implausible = false := by
  have cleared := resetBlocks_from_speed b config .plausibility (by decide)
  simpa only [Piece.kept, throughSpeed, sduReset_sdu] using cleared

theorem resetBlocks_gauges (c : Fin 6) :
    gaugeRun c (resetBlocks b s) = ⟨(gaugeRun c s).p, 0, 0, 0, none⟩ ∧ (resetBlocks b s).gdr.sweepPhase = none := by
  have behind := resetBlocks_from_gauges b config
  rw [gaugeRun, behind .gaugeRuns (by decide), behind .sweepPhase (by decide), throughGauges, gdrReset]
  refine ⟨?_, rfl⟩
  rw [mapTable_getElem, throughSpeed_frame b s .gaugeRuns (by decide)]
  rfl

theorem resetBlocks_warnings (i : Fin 96) :
    warnRun i (resetBlocks b s) = ⟨.off, none, false, false, none, (warnRun i s).observed, 0⟩ := by
  rw [warnRun, resetBlocks_from_warnings b config .warnRuns (by decide), throughWarnings, wrnReset_wrn,
    mapTable_getElem, throughGauges_frame b s .warnRuns (by decide)]
  rfl

theorem resetBlocks_warnList :
    (resetBlocks b s).wrn.joinCounter = 0 ∧ (resetBlocks b s).wrn.reportedTop = none := by
  have behind := resetBlocks_from_warnings b config .warnList (by decide)
  simpa only [Piece.kept, throughWarnings, wrnReset_wrn] using behind

theorem resetBlocks_chime : (resetBlocks b s).chg.requests = [] ∧ (resetBlocks b s).chg.playing = none := by
  have behind := resetBlocks_from_doors b config
  rw [(behind .requests (by decide)).1, behind .playing (by decide)]
  exact throughDoors_silent b s

theorem resetBlocks_leaves (l : Fin 8) :
    leafRun l (resetBlocks b s) = ⟨.notEvaluated, none, none, false, false, false, (leafRun l s).cycles,
      (leafRun l s).obstructions, (leafRun l s).maxTransit⟩ := by
  rw [leafRun, resetBlocks_from_doors b config .leaves (by decide), throughDoors, drmReset_drm, mapTable_getElem,
    clearRequests_frame _ .leaves (by decide), throughWarnings_frame b s .leaves (by decide)]
  rfl

theorem resetBlocks_portals (p : Fin 4) :
    portalRun p (resetBlocks b s) = .reset ∧ (resetBlocks b s).drm.latch = false := by
  have behind := resetBlocks_from_doors b config
  rw [portalRun, behind .portals (by decide), behind .latch (by decide), throughDoors, drmReset_drm]
  simp

theorem resetBlocks_records :
    (resetBlocks b s).flt.records = s.flt.records.map fun r => { r with active := false } := by
  rw [resetBlocks_from_faults b config .records (by decide), throughFaults, fltReset_records,
    throughDoors_frame b s .records (by decide)]

theorem resetBlocks_workshop : ResponseAbandoned s (resetBlocks b s) ∧ (resetBlocks b s).wsp.test = none :=
  ⟨(abandonResponse_abandons (throughFaults b s)).of_frames (throughFaults_frame b s)
    (resetBlocks_from_abandonment b config) (by decide) (by decide) (by decide) (by decide),
    by rw [resetBlocks_eq, wspReset, endTest_test]⟩

/-- Every slot behind the reset of the blocks (R17, R81, R118, R147, R165). -/
theorem resetBlocks_slot (k : Slot) :
    (resetBlocks b s).slot k
      = if k = activeFaults ∨ k = openPortals ∨ k = stopRequest ∨ k = doorsAllClosed ∨ k = activeWarnings
            ∨ k = driveCycle then ⟨0, .valid, some s.now⟩
        else if k = vehicleSpeed ∨ k = pulseSpeed then ⟨0, restQuality s, some s.now⟩
        else if 12 ≤ k.val ∧ ∃ g, s.signal k = some g ∧ g.kind = .frame then .unwritten else s.slot k := by
  rw [(resetBlocks_from_faults b config).slot (by decide), throughFaults_slot, throughWarnings_slot, throughSpeed_slot,
    ← ite_or, ← ite_or]
  simp only [or_assoc]

/-- The slots that count warnings, faults and doors, the latch's and the drive cycle's. -/
theorem resetBlocks_slot_zero {k : Slot}
    (h : k ∈ [doorsAllClosed, stopRequest, openPortals, activeWarnings, activeFaults, driveCycle]) :
    (resetBlocks b s).slot k = ⟨0, .valid, some s.now⟩ := by
  rw [resetBlocks_slot b config, if_pos]
  simp only [List.mem_cons, List.not_mem_nil, or_false] at h
  tauto

/-- PULSE_SPEED and VEHICLE_SPEED stand at rest (R81). -/
theorem resetBlocks_speeds :
    (resetBlocks b s).slot pulseSpeed = ⟨0, restQuality s, some s.now⟩
      ∧ (resetBlocks b s).slot vehicleSpeed = ⟨0, restQuality s, some s.now⟩ := by
  rw [resetBlocks_slot b config, resetBlocks_slot b config]
  exact ⟨rfl, rfl⟩

/-- Distance, IGNITION and the configurable slots that no frame produces are kept (R17, R81). -/
theorem resetBlocks_slot_apart {k : Slot}
    (h : k.val = 2 ∨ k.val = 3 ∨ k.val = 4 ∨ k.val = 7 ∨ 12 ≤ k.val) :
    (resetBlocks b s).slot k
      = if 12 ≤ k.val ∧ ∃ g, s.signal k = some g ∧ g.kind = .frame then .unwritten else s.slot k := by
  have counts : ¬(k = activeFaults ∨ k = openPortals ∨ k = stopRequest ∨ k = doorsAllClosed ∨ k = activeWarnings
      ∨ k = driveCycle) := by
    rintro (rfl | rfl | rfl | rfl | rfl | rfl) <;> revert h <;> decide
  have speeds : ¬(k = vehicleSpeed ∨ k = pulseSpeed) := by
    rintro (rfl | rfl) <;> revert h <;> decide
  rw [resetBlocks_slot b config, if_neg counts, if_neg speeds]

theorem resetBlocks_withdrawals {i : Fin 96} {e : WarnEntry} (entry : warnEntry i s = some e)
    (chime : e.chime.isSome = true) (unacked : (warnRun i s).state = .onUnack) :
    (resetBlocks b s).inFlight.count (.requestWithdrawal (.warning i))
      = s.inFlight.count (.requestWithdrawal (.warning i)) + 1 := by
  have before := throughGauges_frame b s
  have entry' : warnEntry i (throughGauges b s) = some e := by rw [warnEntry, before .warnTable (by decide)]; exact entry
  have unacked' : (warnRun i (throughGauges b s)).state = .onUnack := by
    rw [warnRun, before .warnRuns (by decide)]; exact unacked
  have scanner : (throughScanner b s).inFlight = (dropSweepReport s).inFlight := by
    rw [← frpReset_frame (dropSweepReport s) .inFlight (by decide)]
    cases b <;> rfl
  rw [resetBlocks_from_faults b config .inFlight (by decide), throughFaults, fltReset_withdrawals, throughDoors,
    drmReset_withdrawals, clearRequests_frame _ .inFlight (by decide), throughWarnings,
    wrnReset_withdrawals entry' chime unacked', throughGauges, gdrReset_frame _ .inFlight (by decide), throughSpeed,
    sduReset_withdrawals, scanner, dropSweepReport_inFlight, List.count_filter (by simp)]

end

end Sys2Proof.Machine
end

section
/-! PROOFS. RESET (R182): its response, CLI's own part, and the reset of the blocks in CONFIG. -/

namespace Sys2Proof.Machine

/-- CLI's part of RESET while nothing can be sent: CONFIG, the park delay stopped, and the RESET event alone queued. -/
def linkReset (s : State) : State :=
  { s with
    opState := .config
    cli := { s.cli with
      events := [.state .config .reset], overrun := false, updates := []
      reports := Vector.replicate 256 ⟨none, s.now⟩, parkDue := none } }

theorem commandedReset_held {s : State} (h : sendingHeld s = true) :
    commandedReset s = resetBlocks (decide (s.opState = .parked)) (linkReset s) := by
  have queued : setOpState .config .reset (emptyQueues s) = linkReset s := by
    rw [setOpState, queueEvent_held _ (by exact h)]
    rfl
  rw [commandedReset, queued]

theorem linkReset_frame (s : State) :
    ChangesOnly [.opState, .parkDelay, .queues, .events, .updates] s (linkReset s) := by
  intro p hp
  cases p <;> simp [Piece.kept, linkReset] at hp ⊢

/-- What RESET changes before the blocks are reset: its response, and CLI's own part (R170, R182). -/
def linkResetting : List Piece := [.opState, .parkDelay, .events, .updates] ++ answering

/-- RESET is accepted in every operating state (R182). -/
theorem exec_reset {s : State} (ready : LinkReady s) :
    exec (.reset []) s = .next (commandedReset (respond 0x08 .ok [] s)) := by
  have answer : answerRecord ⟨0x08, []⟩ s = accepted [] commandedReset := rfl
  exact exec_accepted (r := ⟨0x08, []⟩) rfl ready (heldRecord_of_kind (by decide) [] s) answer

section
variable {b : Bool} {s c : State} (config : c.opState = .config)
  (start : ChangesOnly linkResetting s c)

/-! ### What the reset leaves, told by the part before RESET: `c` is the part behind its response and CLI's own part -/

include config

/-- A response that stands in `c` stands behind the reset of the blocks (R170, R182). -/
theorem answered_resetBlocks {k : Byte} {r : Result} {d : List Byte} (h : Answered k r d s c) :
    Answered k r d s (resetBlocks b c) := by
  have quiet := resetBlocks_quiet b config
  rw [Answered, quiet .responses (by decide), quiet .transmitter (by decide)]
  exact h

include start

theorem reset_slot_frame {k : Slot} (outer : 12 ≤ k.val) (produced : ∃ g, s.signal k = some g ∧ g.kind = .frame) :
    (resetBlocks b c).slot k = ⟨0, .neverReceived, none⟩ := by
  rw [resetBlocks_slot_apart b config (by omega), start.signal (by decide), if_pos ⟨outer, produced⟩]
  rfl

theorem reset_slot_kept {k : Slot} (h : k.val = 2 ∨ k.val = 3 ∨ k.val = 4 ∨ k.val = 7 ∨ 12 ≤ k.val)
    (other : 12 ≤ k.val → ∀ g, s.signal k = some g → g.kind ≠ .frame) : (resetBlocks b c).slot k = s.slot k := by
  rw [resetBlocks_slot_apart b config h, start.signal (by decide), start.slot (by decide), if_neg]
  rintro ⟨outer, g, hg, produced⟩
  exact other outer g hg produced

theorem reset_speeds :
    let q : Quality := if s.sdu.cal = none then .notAvailable else if s.lsc.senderFault then .lineFault else .valid
    (resetBlocks b c).slot pulseSpeed = ⟨0, q, some s.now⟩ ∧ (resetBlocks b c).slot vehicleSpeed = ⟨0, q, some s.now⟩ := by
  intro q
  have rest : restQuality c = q := by
    rw [restQuality, start .calibration (by decide), start .senderFault (by decide)]
    simp [q]
  have now : c.now = s.now := start .now (by decide)
  have speeds := resetBlocks_speeds b config
  rwa [rest, now] at speeds

theorem reset_slot_zero {k : Slot}
    (h : k ∈ [doorsAllClosed, stopRequest, openPortals, activeWarnings, activeFaults, driveCycle]) :
    (resetBlocks b c).slot k = ⟨0, .valid, some s.now⟩ := by
  rw [resetBlocks_slot_zero b config h, start .now (by decide)]

theorem reset_gauges (g : Fin 6) : gaugeRun g (resetBlocks b c) = ⟨(gaugeRun g s).p, 0, 0, 0, none⟩ := by
  rw [(resetBlocks_gauges b config g).1, gaugeRun, start .gaugeRuns (by decide)]
  rfl

theorem reset_warnings (i : Fin 96) :
    warnRun i (resetBlocks b c) = ⟨.off, none, false, false, none, (warnRun i s).observed, 0⟩ := by
  rw [resetBlocks_warnings b config, warnRun, start .warnRuns (by decide)]
  rfl

theorem reset_withdrawals (i : Fin 96) (e : WarnEntry) (entry : warnEntry i s = some e) (chime : e.chime.isSome = true)
    (unacked : (warnRun i s).state = .onUnack) :
    (resetBlocks b c).inFlight.count (.requestWithdrawal (.warning i))
      = s.inFlight.count (.requestWithdrawal (.warning i)) + 1 := by
  rw [resetBlocks_withdrawals (e := e) b config _ chime _, start .inFlight (by decide)]
  · rw [warnEntry, start .warnTable (by decide)]
    exact entry
  · rw [warnRun, start .warnRuns (by decide)]
    exact unacked

theorem reset_leaves (l : Fin 8) :
    leafRun l (resetBlocks b c) = ⟨.notEvaluated, none, none, false, false, false, (leafRun l s).cycles,
      (leafRun l s).obstructions, (leafRun l s).maxTransit⟩ := by
  rw [resetBlocks_leaves b config, leafRun, start .leaves (by decide)]
  rfl

theorem reset_records : (resetBlocks b c).flt.records = s.flt.records.map fun r => { r with active := false } := by
  rw [resetBlocks_records b config, start .records (by decide)]

theorem reset_response : ResponseAbandoned s (resetBlocks b c) :=
  (resetBlocks_workshop b config).1.of_frames start (.refl [] _) (by decide) (by decide) (by decide) (by decide)

theorem reset_scan_parked (parked : b = true) :
    (resetBlocks b c).lsc.scanPos = 0 ∧ (resetBlocks b c).lsc.passDue = none
      ∧ (resetBlocks b c).lsc.scanDue = some (s.now + if s.lsc.scan.isSome then 250 else 1000) := by
  obtain ⟨pos, pass, due⟩ := (resetBlocks_scan b config).1 parked
  rw [pos, pass, due, slotTime, start .scanTable (by decide), start .now (by decide)]
  exact ⟨rfl, rfl, rfl⟩

theorem reset_scan_goesOn (playing : b = false) :
    (resetBlocks b c).lsc.scanPos = s.lsc.scanPos ∧ (resetBlocks b c).lsc.passDue = s.lsc.passDue
      ∧ (resetBlocks b c).lsc.scanDue = s.lsc.scanDue := by
  obtain ⟨pos, pass, due⟩ := (resetBlocks_scan b config).2 playing
  obtain ⟨samePos, sameDue, samePass⟩ := start .scanPlay (by decide)
  exact ⟨pos.trans samePos, pass.trans samePass, due.trans sameDue⟩

end

/-- Settles O21: CLI's own part of RESET, and then what the reset leaves in each block. -/
theorem resetResetsBlocks : Obligations.ResetResetsBlocks := by
  intro s ready
  have exec := exec_reset ready
  have blocks := commandedReset_held (respond_held 0x08 .ok [] s)
  have made := respond_answered 0x08 .ok [] s
  have replied := respond_frame 0x08 .ok [] s
  generalize respond 0x08 .ok [] s = r at *
  have frame := replied.comp (commandedReset_frame r) (List.subset_append_left _ _) (List.subset_append_right _ _)
  have start : ChangesOnly linkResetting s (linkReset r) :=
    replied.comp (linkReset_frame r) (by decide) (by decide)
  have config : (linkReset r).opState = .config := rfl
  have clocks (i : Slot) : (linkReset r).cli.reports[i] = ⟨none, s.now⟩ := by
    rw [← replied .now (by decide)]
    simp [linkReset]
  rw [replied .opState (by decide)] at blocks
  rw [blocks] at exec frame
  generalize hb : decide (s.opState = .parked) = b at *
  have quiet := resetBlocks_quiet b config
  obtain ⟨events, overrun⟩ := quiet .events (by decide)
  obtain ⟨updates, reports⟩ := quiet .updates (by decide)
  obtain ⟨meas, filterRef, standFrom, boundDue⟩ := resetBlocks_measurement b config
  obtain ⟨plausPresent, plausFrom, implausible⟩ := resetBlocks_plausibility b config
  obtain ⟨joins, top⟩ := resetBlocks_warnList b config
  obtain ⟨requests, playing⟩ := resetBlocks_chime b config
  have frames := resetBlocks_frames b config
  have portals := resetBlocks_portals b config
  exact ⟨resetBlocks b (linkReset r), exec, answered_resetBlocks config made, quiet .opState (by decide),
    quiet .parkDelay (by decide), events, overrun, updates, fun i => by rw [reports, clocks], fun i => (frames i 0).1,
    fun k => (frames 0 k).2, fun k outer produced => reset_slot_frame config start outer produced,
    fun k outer other => reset_slot_kept config start (by omega) fun _ => other,
    meas, filterRef, plausPresent, implausible, boundDue, standFrom, plausFrom,
    (quiet .calWindow (by decide)).trans (start .calWindow (by decide)),
    (quiet .residue (by decide)).trans (start .residue (by decide)), reset_speeds config start,
    reset_gauges config start, (resetBlocks_gauges b config 0).2, reset_warnings config start, joins, top,
    reset_withdrawals config start, requests, playing, reset_leaves config start, fun p => (portals p).1,
    (portals 0).2, reset_records config start, reset_response config start, (resetBlocks_workshop b config).2,
    fun i hi => reset_slot_zero config start hi,
    fun parked => reset_scan_parked config start (by rw [← hb, decide_eq_true parked]),
    fun running => reset_scan_goesOn config start (by rw [← hb, decide_eq_false running]),
    fun i hi => reset_slot_kept config start (by omega) (by omega), frame⟩

end Sys2Proof.Machine
end

section
/-! PROOFS. The ports: rates, segments and bus-off (R19, R184, R185, R187, R188). -/

namespace Sys2Proof.Machine

/-! ### The segments of a response (R187) -/

theorem shares_flatten {n : Nat} {l : List Byte} (h : l.length ≤ n) : (shares n l).flatten = l := by
  induction n generalizing l with
  | zero => simp [shares, List.length_eq_zero_iff.1 (Nat.le_zero.1 h)]
  | succ n ih =>
    cases l with
    | nil => rfl
    | cons b l =>
      rw [shares, List.flatten_cons, ih (by simp only [List.length_drop, List.length_cons] at h ⊢; omega),
        List.take_append_drop]

theorem shares_length {n : Nat} {l : List Byte} (h : l.length ≤ n) : (shares n l).length = (l.length + 6) / 7 := by
  induction n generalizing l with
  | zero => simp [shares, List.length_eq_zero_iff.1 (Nat.le_zero.1 h)]
  | succ n ih =>
    cases l with
    | nil => rfl
    | cons b l =>
      rw [shares, List.length_cons, ih (by simp only [List.length_drop, List.length_cons] at h ⊢; omega)]
      simp only [List.length_drop, List.length_cons]
      omega

/-- A share holds one to seven bytes. -/
theorem length_of_mem_shares {n : Nat} {l x : List Byte} (h : x ∈ shares n l) : 0 < x.length ∧ x.length ≤ 7 := by
  induction n generalizing l with
  | zero => simp [shares] at h
  | succ n ih =>
    cases l with
    | nil => simp [shares] at h
    | cons b l =>
      rcases List.mem_cons.1 h with rfl | h
      · simp
      · exact ih h

theorem numberFrom_length (k : Nat) (l : List (List Byte)) : (numberFrom k l).length = l.length := by
  fun_induction numberFrom k l with
  | case1 => rfl
  | case2 => rfl
  | case3 k x y l ih => rw [List.length_cons, ih]; rfl

/-- Behind its index each segment holds its share. -/
theorem numberFrom_drop (k : Nat) (l : List (List Byte)) : (numberFrom k l).map (List.drop 1) = l := by
  fun_induction numberFrom k l with
  | case1 => rfl
  | case2 => rfl
  | case3 k x y l ih => rw [List.map_cons, ih]; rfl

/-- The index byte of each segment, bit 7 set in the last. -/
theorem numberFrom_take {k j : Nat} {l : List (List Byte)} {x : List Byte} (h : (numberFrom k l)[j]? = some x) :
    x.take 1 = e8 (if j + 1 = l.length then k + j + 128 else k + j) := by
  induction l generalizing k j with
  | nil => simp [numberFrom] at h
  | cons y l ih =>
    cases l with
    | nil =>
      cases j with
      | zero => simp [numberFrom] at h; simp [← h, e8]
      | succ j => simp [numberFrom] at h
    | cons z l =>
      cases j with
      | zero => simp [numberFrom] at h; simp [← h, e8]
      | succ j =>
        have next := ih (k := k + 1) (j := j) (by simpa [numberFrom] using h)
        simp only [List.length_cons, Nat.add_right_cancel_iff] at next ⊢
        rw [next, show k + 1 + j = k + (j + 1) by omega]

/-- The header of a response and its first four bytes, and the rest in shares. -/
theorem length_of_mem_parts {service : Byte} {result : Result} {payload y : List Byte}
    (h : y ∈ (service :: e8 result.code ++ e8 payload.length ++ payload.take 4) :: shares payload.length (payload.drop 4)) :
    0 < y.length ∧ y.length ≤ 7 := by
  rcases List.mem_cons.1 h with rfl | h
  · simp [e8]
    omega
  · exact length_of_mem_shares h

/-- Every segment's index, and its one to seven bytes (R187). -/
theorem segmentsOf_getElem {service : Byte} {result : Result} {payload x : List Byte} {k : Nat}
    (h : (segmentsOf service result payload)[k]? = some x) :
    x.take 1 = e8 (if k + 1 = (segmentsOf service result payload).length then k + 128 else k)
      ∧ 1 < x.length ∧ x.length ≤ 8 := by
  have index := numberFrom_take h
  rw [Nat.zero_add] at index
  have part : (x.drop 1) ∈ _ := numberFrom_drop 0 _ ▸ List.mem_map_of_mem (List.mem_of_getElem? h)
  obtain ⟨least, most⟩ := length_of_mem_parts part
  rw [List.length_drop] at least most
  exact ⟨by rw [index, segmentsOf, numberFrom_length], by omega, by omega⟩

/-! ### The port (R184, R185, R188) -/

theorem not_isDue {t : Option Nat} {s : State} (h : ∀ d, t = some d → s.now < d) : isDue t s = false := by
  cases t with
  | none => rfl
  | some d => exact decide_eq_false (Nat.not_le.2 (h d rfl))

theorem isDue_of_le {d : Nat} {s : State} (h : d ≤ s.now) : isDue (some d) s = true := decide_eq_true h

section
variable {s : State}

theorem exec_wsRate :
    exec (.portRateTakesEffect .ws) s = if s.wsp.busOffUntil.isSome || s.wsp.orphan.isSome then .next s
      else .next (applyWsSettings s) := rfl

theorem exec_busOffRecovery_due {d : Nat} (off : s.wsp.busOffUntil = some d) (due : d ≤ s.now) :
    exec .busOffRecovery s = .next { s with wsp := { s.wsp with
      settings := ⟨(linkOf s).ws, (linkOf s).wsExtended, (linkOf s).requestId, (linkOf s).responseId, (linkOf s).pacing⟩
      txErrors := 0, busOffUntil := none } } :=
  if_pos (by rw [off]; exact isDue_of_le due)

theorem exec_pacingExpiry_due {l : List (List Byte)} {d : Nat} (paced : s.wsp.response = some ⟨l, some d⟩)
    (due : d ≤ s.now) :
    exec .pacingExpiry s = .next { s with wsp := { s.wsp with response := some ⟨l, none⟩ } } := by
  show execPacingExpiry s = _
  unfold execPacingExpiry
  rw [paced]
  exact if_pos (isDue_of_le due)

theorem exec_pacingExpiry_early (early : ∀ l d, s.wsp.response = some ⟨l, some d⟩ → s.now < d) :
    exec .pacingExpiry s = .next s := by
  show execPacingExpiry s = _
  unfold execPacingExpiry
  cases r : s.wsp.response with
  | none => rfl
  | some x => exact if_neg (by simp [not_isDue fun d hd => early x.segments d (by rw [r, ← hd])])

theorem exec_segmentSent_left {seg : List Byte} (running : wsRunning s = true) (left : s.wsp.orphan = some seg) :
    exec .segmentSent s = .next (countSent { s with wsp := { s.wsp with orphan := none } }) := by
  show execSegmentSent s = _
  simp only [execSegmentSent, running, left]
  rfl

theorem exec_segmentSent_last {seg : List Byte} (running : wsRunning s = true) (alone : s.wsp.orphan = none)
    (standing : s.wsp.response = some ⟨[seg], none⟩) :
    exec .segmentSent s = .next (countSent { s with wsp := { s.wsp with response := none } }) := by
  show execSegmentSent s = _
  simp only [execSegmentSent, running, alone, standing]
  rfl

theorem exec_segmentSent_more {seg next : List Byte} {rest : List (List Byte)} (running : wsRunning s = true)
    (alone : s.wsp.orphan = none) (standing : s.wsp.response = some ⟨seg :: next :: rest, none⟩) :
    exec .segmentSent s = .next (countSent { s with wsp := { s.wsp with
      response := some ⟨next :: rest, some (dueIn s.wsp.settings.pacing s)⟩ } }) := by
  show execSegmentSent s = _
  simp only [execSegmentSent, running, alone, standing]
  rfl

/-- A failed attempt at a segment adds 8 to the count, and above 255 the port goes bus-off (R184, R185). -/
theorem exec_segmentFailed_eq (running : wsRunning s = true)
    (stands : s.wsp.orphan.isSome = true ∨ (segmentAtPort s).isSome = true) :
    exec .segmentFailed s = .next (if 255 < s.wsp.txErrors + 8 then { s with wsp := { s.wsp with
        txErrors := s.wsp.txErrors + 8, busOffUntil := some (s.now + 1000000), response := none, orphan := none } }
      else { s with wsp := { s.wsp with txErrors := s.wsp.txErrors + 8, orphan := none } }) := by
  refine if_neg ?_
  rcases stands with h | h
  · obtain ⟨x, hx⟩ := Option.isSome_iff_exists.1 h
    simp [running, hx]
  · obtain ⟨x, hx⟩ := Option.isSome_iff_exists.1 h
    simp [running, hx]

theorem exec_segments_stopped (stopped : wsRunning s = false) :
    exec .segmentSent s = .next s ∧ exec .segmentFailed s = .next s :=
  ⟨if_pos (by rw [stopped]; rfl), if_pos (by rw [stopped]; rfl)⟩

theorem segmentAtPort_eq_none (h : ∀ seg rest, s.wsp.response ≠ some ⟨seg :: rest, none⟩) : segmentAtPort s = none := by
  unfold segmentAtPort
  split
  · rename_i seg rest standing
    exact absurd standing (h seg rest)
  · rfl

theorem segmentAtPort_eq_some {seg : List Byte} {rest : List (List Byte)}
    (h : s.wsp.response = some ⟨seg :: rest, none⟩) : segmentAtPort s = some seg := by
  rw [segmentAtPort, h]

/-- With no segment at the port a report of one changes nothing. -/
theorem exec_segments_none (running : wsRunning s = true) (alone : s.wsp.orphan = none)
    (absent : ∀ seg rest, s.wsp.response ≠ some ⟨seg :: rest, none⟩) :
    exec .segmentSent s = .next s ∧ exec .segmentFailed s = .next s := by
  refine ⟨?_, if_pos (by simp [alone, segmentAtPort_eq_none absent])⟩
  show execSegmentSent s = _
  unfold execSegmentSent
  rw [if_neg (by simp [running]), if_neg (by simp [alone])]
  split
  · rename_i seg standing
    exact absurd standing (absent seg [])
  · rename_i seg y rest standing
    exact absurd standing (absent seg (y :: rest))
  · rfl

theorem frameAtPort_running (running : wsRunning s = true) :
    frameAtPort s = (s.wsp.orphan <|> segmentAtPort s).map (segmentFrame s) := if_pos running

end

/-- Settles O54: each command of the ports by the register it turns on, the frame at the port, and the segments. -/
theorem portsRunAndSendSegments : Obligations.PortsRunAndSendSegments := by
  intro s e settings withResponse
  have failed {seg : List Byte} {rest : List (List Byte)} (running : wsRunning s = true)
      (standing : s.wsp.response = some ⟨seg :: rest, none⟩) :=
    exec_segmentFailed_eq running (.inr (by rw [segmentAtPort_eq_some standing]; rfl))
  refine ⟨rfl, rfl, fun on alone => ?_, fun busy => ?_, fun d => exec_busOffRecovery_due, fun early => ?_,
    fun l d => exec_pacingExpiry_due, exec_pacingExpiry_early, exec_segments_stopped, fun running alone =>
      ⟨fun seg standing => ?_, fun seg next rest standing => ?_, fun seg rest standing => ⟨fun low => ?_, fun high => ?_⟩,
        exec_segments_none running alone⟩,
    fun seg running left => ⟨?_, fun low => ?_, fun high => ?_⟩, ⟨fun stopped => if_neg (by simp [stopped]),
      fun running => ⟨fun seg left => ?_, fun alone => ⟨fun seg rest standing => ?_, fun absent => ?_⟩⟩⟩,
    fun service result payload => ⟨?_, ?_, fun k x => segmentsOf_getElem⟩⟩
  · rw [exec_wsRate, on, alone]
    rfl
  · exact if_pos (by simpa [Option.isSome_iff_ne_none] using busy)
  · exact if_neg (by simp [not_isDue early])
  · exact exec_segmentSent_last running alone standing
  · exact exec_segmentSent_more running alone standing
  · rw [failed running standing, if_neg (Nat.not_lt.2 low), ← alone]
  · rw [failed running standing, if_pos high, ← alone]
  · exact exec_segmentSent_left running left
  · rw [exec_segmentFailed_eq running (.inl (by rw [left]; rfl)), if_neg (Nat.not_lt.2 low)]
  · rw [exec_segmentFailed_eq running (.inl (by rw [left]; rfl)), if_pos high]
  · rw [frameAtPort_running running, left]
    rfl
  · rw [frameAtPort_running running, alone, segmentAtPort_eq_some standing]
    rfl
  · rw [frameAtPort_running running, alone, segmentAtPort_eq_none absent]
    rfl
  · rw [segmentsOf, numberFrom_length, List.length_cons, shares_length (by simp), List.length_drop, Nat.add_comm]
  · rw [segmentsOf]
    refine (congrArg List.flatten (numberFrom_drop _ _)).trans ?_
    rw [List.flatten_cons, shares_flatten (by simp), List.append_assoc, List.take_append_drop]

end Sys2Proof.Machine
end

section
/-! PROOFS. The frame path's registers: the run-time state of an entry, its condition flags with their reports, and the
notices of a slot write (R11, R23 to R26, R31, R36). -/

namespace Sys2Proof.Machine

/-! ### Arrivals that are no notices -/

/-- The notifications a slot write can make (R11). -/
def isNotice : Instr → Bool
  | .evaluation _ | .doorInputNotification _ | .frameSpeedNotification | .cliNotification _ | .wspSpeedNotification => true
  | _ => false

theorem isNotice_of_mem {i : Slot} {r : SlotRecord} {s : State} {c : Instr} (h : c ∈ noticesOf i r s) :
    isNotice c = true := by
  by_cases same : (s.slot i).value = r.value ∧ (s.slot i).quality = r.quality
  · simp [noticesOf, same] at h
  · simp only [mem_noticesOf same, mem_useNotices, mem_ownNotices] at h
    rcases h with (⟨-, rfl⟩ | ⟨-, rfl⟩ | ⟨-, rfl⟩) | (⟨-, rfl⟩ | ⟨-, rfl⟩)
      | ⟨d, -, (⟨-, rfl⟩ | ⟨-, rfl⟩ | ⟨-, rfl⟩)⟩ <;> rfl

/-- Between two states nothing was taken, and every arrival made passes the test. -/
def PostsOnly (p : Instr → Bool) (s t : State) : Prop := ∃ l, t.inFlight = s.inFlight ++ l ∧ ∀ c ∈ l, p c = true

namespace PostsOnly
variable {p q : Instr → Bool} {s t u : State}

theorem of_same (h : t.inFlight = s.inFlight) : PostsOnly p s t := ⟨[], by rw [h, List.append_nil], by simp⟩

theorem refl (s : State) : PostsOnly p s s := of_same rfl

theorem trans (h : PostsOnly p s t) (k : PostsOnly p t u) : PostsOnly p s u := by
  obtain ⟨l, hl, pl⟩ := h
  obtain ⟨m, hm, pm⟩ := k
  refine ⟨l ++ m, by rw [hm, hl, List.append_assoc], fun c hc => ?_⟩
  rcases List.mem_append.1 hc with hc | hc
  · exact pl c hc
  · exact pm c hc

theorem mono (h : PostsOnly p s t) (k : ∀ c, p c = true → q c = true) : PostsOnly q s t := by
  obtain ⟨l, hl, pl⟩ := h
  exact ⟨l, hl, fun c hc => k c (pl c hc)⟩

/-- An arrival that fails the test is in flight as often as before. -/
theorem count (h : PostsOnly p s t) {c : Instr} (k : p c = false) : t.inFlight.count c = s.inFlight.count c := by
  obtain ⟨l, hl, pl⟩ := h
  have absent : c ∉ l := fun hc => by simp [pl c hc] at k
  rw [hl, List.count_append, List.count_eq_zero.2 absent, Nat.add_zero]

theorem foldl {α : Type} {f : State → α → State} (h : ∀ s a, PostsOnly p s (f s a)) (l : List α) (s : State) :
    PostsOnly p s (l.foldl f s) := by
  induction l generalizing s with
  | nil => exact refl s
  | cons a l ih => exact (h s a).trans (ih _)

theorem ite {c : Prop} [Decidable c] (h : c → PostsOnly p s t) (k : ¬c → PostsOnly p s u) :
    PostsOnly p s (if c then t else u) := by
  split
  · exact h ‹_›
  · exact k ‹_›

end PostsOnly

theorem putRecord_posts (i : Slot) (r : SlotRecord) (s : State) : PostsOnly isNotice s (putRecord i r s) :=
  ⟨noticesOf i r s, by rw [putRecord_eq], fun _ => isNotice_of_mem⟩

theorem valueWrite_posts (i : Slot) (v : Int) (q : Quality) (s : State) : PostsOnly isNotice s (valueWrite i v q s) :=
  putRecord_posts _ _ s

theorem qualityWrite_posts (i : Slot) (q : Quality) (s : State) : PostsOnly isNotice s (qualityWrite i q s) :=
  putRecord_posts _ _ s

/-! ### The run-time state of an entry -/

theorem frameRun_setFrameRun (i j : Fin 64) (r : FrameRun) (s : State) :
    frameRun j (setFrameRun i r s) = if j = i then r else frameRun j s := by
  simp only [frameRun, setFrameRun, Fin.getElem_fin, Vector.getElem_set, Fin.ext_iff, eq_comm]

theorem setFrameRun_self (i : Fin 64) (s : State) : setFrameRun i (frameRun i s) s = s := by
  have same : s.frp.run.set i (frameRun i s) = s.frp.run := Vector.set_getElem_self i.isLt
  rw [setFrameRun, same]

theorem setFrameRun_setFrameRun (i : Fin 64) (r r' : FrameRun) (s : State) :
    setFrameRun i r (setFrameRun i r' s) = setFrameRun i r s := by
  simp [setFrameRun]

theorem frameRun_post (i : Fin 64) (cs : List Instr) (s : State) : frameRun i (post cs s) = frameRun i s := rfl

theorem setFrameRun_post (i : Fin 64) (r : FrameRun) (cs : List Instr) (s : State) :
    setFrameRun i r (post cs s) = post cs (setFrameRun i r s) := rfl

theorem post_nil (s : State) : post [] s = s := by simp [post]

theorem post_post (cs ds : List Instr) (s : State) : post ds (post cs s) = post (cs ++ ds) s := by simp [post]

/-! ### The condition flags (R36) -/

/-- The report of a flag that was `before` and is `after`. -/
def reportOf (i : Fin 64) (f : FrameFailure) (cls : Fin 16) (before after : Bool) : List Instr :=
  if before = after then []
  else [if after then .faultConditionStart (.frame i f) cls else .faultConditionEnd (.frame i f) cls]

theorem reportOf_same (i : Fin 64) (f : FrameFailure) (cls : Fin 16) (b : Bool) : reportOf i f cls b b = [] := if_pos rfl

theorem count_reportOf_start (i : Fin 64) (f g : FrameFailure) (cls : Fin 16) (b a : Bool) :
    (reportOf i f cls b a).count (.faultConditionStart (.frame i g) cls)
      = if f = g ∧ b = false ∧ a = true then 1 else 0 := by
  cases b <;> cases a <;> simp [reportOf, List.count_singleton]

theorem count_reportOf_end (i : Fin 64) (f g : FrameFailure) (cls : Fin 16) (b a : Bool) :
    (reportOf i f cls b a).count (.faultConditionEnd (.frame i g) cls)
      = if f = g ∧ b = true ∧ a = false then 1 else 0 := by
  cases b <;> cases a <;> simp [reportOf, List.count_singleton]

theorem putLengthFlag_eq (i : Fin 64) (b : Bool) (s : State) :
    putLengthFlag i b s = post (reportOf i .length (frameClass i s) (frameRun i s).lengthFlag b)
      (setFrameRun i { frameRun i s with lengthFlag := b } s) := by
  unfold putLengthFlag reportOf
  split
  · rename_i same
    rw [← same, setFrameRun_self, post_nil]
  · rfl

theorem putSequenceFlag_eq (i : Fin 64) (b : Bool) (s : State) :
    putSequenceFlag i b s = post (reportOf i .sequence (frameClass i s) (frameRun i s).sequenceFlag b)
      (setFrameRun i { frameRun i s with sequenceFlag := b } s) := by
  unfold putSequenceFlag reportOf
  split
  · rename_i same
    rw [← same, setFrameRun_self, post_nil]
  · rfl

theorem putTimeoutFlag_eq (i : Fin 64) (b : Bool) (s : State) :
    putTimeoutFlag i b s = post (reportOf i .timeout (frameClass i s) (frameRun i s).timeoutFlag b)
      (setFrameRun i { frameRun i s with timeoutFlag := b } s) := by
  unfold putTimeoutFlag reportOf
  split
  · rename_i same
    rw [← same, setFrameRun_self, post_nil]
  · rfl

/-! ### Slots marked STALE (R34, R35) -/

/-- A slot whose quality passes the test turns STALE. -/
def staleWhere (test : Quality → Bool) (s : State) (k : Slot) : State :=
  if test (s.slot k).quality then qualityWrite k .stale s else s

theorem staleAtTimeout_eq : staleAtTimeout = staleWhere fun q => decide (q ≠ .neverReceived) := by
  funext s k
  by_cases h : (s.slot k).quality = .neverReceived <;> simp [staleAtTimeout, staleWhere, h]

theorem staleAtPark_eq : staleAtPark = staleWhere fun q => decide (q = .valid ∨ q = .limited) := by
  funext s k
  simp [staleAtPark, staleWhere]

theorem staleWhere_frame (test : Quality → Bool) (s : State) (k : Slot) : ChangesOnly writing s (staleWhere test s k) :=
  .ite (fun _ => qualityWrite_frame _ _ s) fun _ => .refl _ s

theorem staleWhere_posts (test : Quality → Bool) (s : State) (k : Slot) :
    PostsOnly isNotice s (staleWhere test s k) := .ite (fun _ => qualityWrite_posts _ _ s) fun _ => .refl s

theorem staleWhere_slot (test : Quality → Bool) (s : State) (k j : Slot) :
    (staleWhere test s k).slot j
      = if j = k ∧ test (s.slot j).quality = true then ⟨(s.slot j).value, .stale, some s.now⟩ else s.slot j := by
  unfold staleWhere
  by_cases same : j = k
  · subst same
    split <;> simp_all [qualityWrite_slot_self]
  · simp only [same, false_and, if_false]
    split
    · exact qualityWrite_other same _ s
    · rfl

/-- Each slot of a list that passes the test turns STALE with its value kept, once. -/
theorem staleSlots_slot (test : Quality → Bool) (l : List Slot) (s : State) (j : Slot) :
    (l.foldl (staleWhere test) s).slot j
      = if j ∈ l ∧ test (s.slot j).quality = true then ⟨(s.slot j).value, .stale, some s.now⟩ else s.slot j := by
  induction l generalizing s with
  | nil => simp
  | cons k l ih =>
    rw [List.foldl_cons, ih, staleWhere_slot, staleWhere_frame test s k .now (by decide)]
    by_cases same : j = k
    · subst same
      by_cases passes : test (s.slot j).quality = true <;> simp [passes]
    · simp [same]

end Sys2Proof.Machine
end

section
/-! PROOFS. FRAME_TABLE_WRITE and FRAME_TIMER_EXPIRY (R21, R33, R34). -/

namespace Sys2Proof.Machine

/-! ### FRAME_TABLE_WRITE (R21) -/

theorem dropSenderFlags_senderErr (l : List Slot) (s : State) (k : Slot) :
    (dropSenderFlags l s).frp.senderErr[k] = (s.frp.senderErr[k] && !l.contains k) := by
  unfold dropSenderFlags
  induction l generalizing s with
  | nil => simp
  | cons j l ih =>
    rw [List.foldl_cons, ih]
    by_cases same : k = j
    · subst same
      simp
    · have other : (j : Nat) ≠ k := fun h => same (Fin.ext h.symm)
      simp [other, same]

theorem writeFrame_frp (i : Fin 64) (e : FrameEntry) (s : State) :
    (writeFrame i e s).frp = { s.frp with
      table := s.frp.table.set i (some e), run := s.frp.run.set i .reset
      senderErr := (dropSenderFlags (frameSlots i s) s).frp.senderErr } := by
  have dropped := dropSenderFlags_frame (frameSlots i s) s
  have table := dropped .frameTable (by decide)
  have runs := dropped .frameRuns (by decide)
  obtain ⟨va, vb⟩ := dropped .vehicleRates (by decide)
  simp only [Piece.kept] at table runs
  simp only [writeFrame, setFrameRun_frp, table, runs, va, vb]

/-- Settles O10: the three parts of the write behind the response. -/
theorem frameTableWriteLoads : Obligations.FrameTableWriteLoads := by
  intro rest i e s ready config length index entry
  have answer : answerRecord ⟨0x01, 0 :: rest⟩ s = accepted [] (writeFrame i e) :=
    tableWrite_ok (len := 18) (ok := inConfig) (read := fun _ => readFrameEntry) (write := writeFrame) length
      (decide_eq_true config) index entry
  have inert := respond_frame 0x01 .ok [] s
  have frame := writeFrame_frame i e (respond 0x01 .ok [] s)
  have frp := writeFrame_frp i e (respond 0x01 .ok [] s)
  refine ⟨_, exec_accepted rfl ready (heldRecord_of_kind (by decide) _ s) answer,
    (answered_after frame (by decide)).1, ?_, ?_, fun k => ?_, answered_frame frame⟩
  · rw [frp, inert .frameTable (by decide)]
  · rw [frp, inert .frameRuns (by decide)]
    rfl
  · have slots : frameSlots i (respond 0x01 .ok [] s) = frameSlots i s := by
      rw [frameSlots, frameSlots, slotsWith, slotsWith, inert .signalTable (by decide)]
    rw [frp, slots]
    simp only [dropSenderFlags_senderErr]
    rw [inert .senderFlags (by decide)]

/-! ### FRAME_TIMER_EXPIRY (R34) -/

section
variable {i : Fin 64} {s : State}

theorem exec_frameTimerExpiry {d : Nat} (timer : (frameRun i s).timer = .firstWait d ∨ (frameRun i s).timer = .timed d)
    (due : d ≤ s.now) : exec (.frameTimerExpiry i) s = .next (lapse i s) :=
  if_pos ((frameDue_iff _ s).2 ⟨d, timer, due⟩)

/-- The expiry of an entry's timer behind what it writes to the entry's slots. -/
theorem putTimeoutFlag_lapsed (r : FrameRun) :
    putTimeoutFlag i true (setFrameRun i { r with aliveRef := none, timer := .lapsed } s)
      = post (reportOf i .timeout (frameClass i s) r.timeoutFlag true)
          (setFrameRun i { r with timer := .lapsed, aliveRef := none, timeoutFlag := true } s) := by
  rw [putTimeoutFlag_eq, frameRun_setFrameRun, if_pos rfl, setFrameRun_setFrameRun]
  rfl

theorem lapse_firstWait {d : Nat} (timer : (frameRun i s).timer = .firstWait d) :
    lapse i s = post (reportOf i .timeout (frameClass i s) (frameRun i s).timeoutFlag true)
      (setFrameRun i { frameRun i s with timer := .lapsed, aliveRef := none, timeoutFlag := true } s) := by
  unfold lapse
  simp only [timer]
  exact putTimeoutFlag_lapsed _

theorem lapse_timed {d : Nat} (timer : (frameRun i s).timer = .timed d) :
    lapse i s = post (reportOf i .timeout (frameClass i s) (frameRun i s).timeoutFlag true)
      (setFrameRun i { frameRun i s with timer := .lapsed, aliveRef := none, timeoutFlag := true }
        ((frameSlots i s).foldl staleAtTimeout s)) := by
  have marked : ChangesOnly writing s ((frameSlots i s).foldl staleAtTimeout s) := by
    rw [staleAtTimeout_eq]
    exact ChangesOnly.foldl (staleWhere_frame _) _ s
  have cls : frameClass i ((frameSlots i s).foldl staleAtTimeout s) = frameClass i s := by
    rw [frameClass, frameClass, marked .frameTable (by decide)]
  unfold lapse
  simp only [timer]
  rw [← cls]
  exact putTimeoutFlag_lapsed _

/-- The start of a TIMEOUT that was not present is reported. -/
theorem timeout_reported {cls : Fin 16} {before : Bool} (clear : before = false) (l : List Instr) :
    .faultConditionStart (.frame i .timeout) cls ∈ l ++ reportOf i .timeout cls before true := by
  simp [reportOf, clear]

end

/-- Settles O34: the timer that lapses, with and without slots to mark. -/
theorem frameTimerExpiryMakesStale : Obligations.FrameTimerExpiryMakesStale := by
  intro i s r lapsed
  have lapse_lapsed {u : State} (eq : lapse i s = post (reportOf i .timeout (frameClass i s) r.timeoutFlag true)
        (setFrameRun i { r with timer := .lapsed, aliveRef := none, timeoutFlag := true } u))
      (runs : u.frp.run = s.frp.run) : lapsed (lapse i s) := by
    have run (j : Fin 64) : frameRun j u = frameRun j s := by rw [frameRun, frameRun, runs]
    rw [eq]
    refine ⟨?_, fun j other => ?_, fun clear => timeout_reported clear _⟩
    · rw [frameRun_post, frameRun_setFrameRun, if_pos rfl]
    · rw [frameRun_post, frameRun_setFrameRun, if_neg other, run]
  refine ⟨fun d timer due => ⟨_, exec_frameTimerExpiry (.inr timer) due, ?_, fun k => ?_, lapse_frame i s⟩,
    fun d timer due => ⟨_, exec_frameTimerExpiry (.inl timer) due, lapse_lapsed (lapse_firstWait timer) rfl, ?_, ?_⟩,
    fun early => if_neg fun due => ?_⟩
  · refine lapse_lapsed (lapse_timed timer) ?_
    rw [staleAtTimeout_eq]
    exact ChangesOnly.foldl (staleWhere_frame _) _ s .frameRuns (by decide)
  · rw [lapse_timed timer, staleAtTimeout_eq]
    refine (staleSlots_slot _ _ s k).trans (if_congr ?_ rfl rfl)
    rw [decide_eq_true_eq]
  · rw [lapse_firstWait timer]
    show s.inFlight ++ reportOf i .timeout (frameClass i s) r.timeoutFlag true = _
    cases r.timeoutFlag <;> rfl
  · rw [lapse_firstWait timer]
    exact (setFrameRun_frame i _ s).comp (post_frame _ _) (by decide) (by decide)
  · obtain ⟨d, timer, due⟩ := (frameDue_iff _ s).1 due
    exact absurd due (Nat.not_le.2 (early d timer.symm))

end Sys2Proof.Machine
end

section
/-! PROOFS. FRAME_RECEIVED: the entry that takes a frame (R22, R23, R35). -/

namespace Sys2Proof.Machine

/-! ### The entry that takes a frame (R22) -/

/-- The first index of a table whose entry gives an answer. -/
theorem findSome?_indices {α : Type} {n : Nat} {f : Fin n → Option α} {i : Fin n} {a : α} (h : f i = some a)
    (first : ∀ j < i, f j = none) : (indices n).findSome? f = some a := by
  rw [List.findSome?_eq_some_iff]
  refine ⟨(indices n).take i, i, (indices n).drop (i + 1), ?_, h, fun j hj => first j ?_⟩
  · have at_i : (indices n)[i.val]'(by simp [indices]) = i := by simp [indices]
    conv_lhs => rw [← List.take_append_drop i.val (indices n), List.drop_eq_getElem_cons (by simp [indices]), at_i]
  · obtain ⟨k, hk, rfl⟩ := List.mem_take_iff_getElem.1 hj
    simp only [indices, List.getElem_finRange, Fin.lt_def]
    simp only [indices, List.length_finRange] at hk
    exact lt_of_lt_of_le hk (min_le_left _ _)

/-- The entry may take the frame (R22). -/
def mayTake (port : VehiclePort) (extended : Bool) (ident : BitVec 29) (st : OpState) (e : FrameEntry) : Bool :=
  frameMatches port extended ident e && (decide (st ≠ .parked) || e.wake)

theorem mayTake_iff (port : VehiclePort) (extended : Bool) (ident : BitVec 29) (st : OpState) (e : FrameEntry) :
    mayTake port extended ident st e = true ↔
      e.enabled = true ∧ (port = .va → e.onVa = true) ∧ (port = .vb → e.onVb = true) ∧ e.extended = extended
        ∧ ident.setWidth 32 &&& e.mask = e.ident &&& e.mask ∧ (st = .parked → e.wake = true) := by
  cases port <;> simp [mayTake, frameMatches, and_assoc, Decidable.imp_iff_not_or]

section
variable {port : VehiclePort} {extended : Bool} {ident : BitVec 29} {dlc : BitVec 4} {data : List Byte} {s : State}

theorem takingEntry_eq :
    takingEntry port extended ident s = (indices 64).findSome? fun i =>
      s.frp.table[i].bind fun e => if mayTake port extended ident s.opState e then some (i, e) else none := by
  rw [takingEntry, entries_eq, List.findSome?_map]
  rfl

theorem takingEntry_none (h : ∀ (j : Fin 64) (e : FrameEntry), s.frp.table[j] = some e →
    ¬mayTake port extended ident s.opState e = true) : takingEntry port extended ident s = none := by
  rw [takingEntry_eq, List.findSome?_eq_none_iff]
  intro j _
  cases entry : s.frp.table[j] with
  | none => rfl
  | some e => simp [h j e entry]

theorem takingEntry_first {i : Fin 64} {e : FrameEntry} (entry : s.frp.table[i] = some e)
    (takes : mayTake port extended ident s.opState e = true)
    (first : ∀ j < i, ∀ e', s.frp.table[j] = some e' → ¬mayTake port extended ident s.opState e' = true) :
    takingEntry port extended ident s = some (i, e) := by
  rw [takingEntry_eq]
  refine findSome?_indices (i := i) (by simp [entry, takes]) fun j before => ?_
  cases other : s.frp.table[j] with
  | none => rfl
  | some e' => simp [first j before e' other]

/-- The entry that takes a frame is loaded. -/
theorem table_of_takingEntry {i : Fin 64} {e : FrameEntry} (h : takingEntry port extended ident s = some (i, e)) :
    s.frp.table[i] = some e := by
  rw [takingEntry_eq] at h
  obtain ⟨-, j, -, -, found, -⟩ := List.findSome?_eq_some_iff.1 h
  obtain ⟨e', entry, answer⟩ := Option.bind_eq_some_iff.1 found
  simp only [Option.ite_none_right_eq_some, Option.some.injEq, Prod.mk.injEq] at answer
  obtain ⟨-, rfl, rfl⟩ := answer
  exact entry

theorem exec_frameReceived_passed (h : vehicleRate port s = .off ∨ s.opState = .config
      ∨ takingEntry port extended ident s = none) :
    exec (.frameReceived port extended ident dlc data) s = .next s := by
  show execFrameReceived port extended ident dlc data s = _
  unfold execFrameReceived
  rcases h with h | h | h
  · rw [if_pos (.inl h)]
  · rw [if_pos (.inr h)]
  · rw [h, ite_self]

theorem exec_frameReceived_taken {i : Fin 64} {e : FrameEntry} (on : vehicleRate port s ≠ .off)
    (running : s.opState ≠ .config) (takes : takingEntry port extended ident s = some (i, e))
    (length : data.length = min 8 dlc.toNat) :
    exec (.frameReceived port extended ident dlc data) s = .next (takeFrame i e data s) := by
  show execFrameReceived port extended ident dlc data s = _
  unfold execFrameReceived
  rw [if_neg (not_or_intro on running), takes]
  simp only
  rw [List.take_of_length_le length.le]

end

/-! ### The length check and the wake frame (R23, R35) -/

section
variable {i : Fin 64} {e : FrameEntry} {data : List Byte} {s : State}

theorem frameClass_of_entry (entry : s.frp.table[i] = some e) : frameClass i s = e.faultClass := by
  rw [frameClass, entry, Option.elim_some]

theorem frameRun_putLengthFlag (b : Bool) (j : Fin 64) :
    frameRun j (putLengthFlag i b s) = if j = i then { frameRun i s with lengthFlag := b } else frameRun j s := by
  rw [putLengthFlag_eq, frameRun_post, frameRun_setFrameRun]

theorem takeFrame_short (short : data.length < e.minLength) : takeFrame i e data s = putLengthFlag i true s :=
  if_pos short

theorem takeFrame_parked (long : e.minLength ≤ data.length) (parked : s.opState = .parked) :
    takeFrame i e data s = wakeFrame (putLengthFlag i false s) := by
  rw [takeFrame, if_neg (Nat.not_lt.2 long)]
  exact if_pos parked

theorem wakeFrame_asserted (wake : s.cli.wake = true) : wakeFrame s = s := if_pos wake

theorem wakeFrame_frp (s : State) : frameRun i (wakeFrame s) = frameRun i s ∧ (wakeFrame s).inFlight = s.inFlight := by
  have frame := wakeFrame_frame s
  exact ⟨by rw [frameRun, frameRun, frame .frameRuns (by decide)], frame .inFlight (by decide)⟩

/-- An event that joins the queue while nothing can be sent. -/
theorem queueEvent_queued {s : State} (held : sendingHeld s = true) (e : Event) :
    Queued [e] s (queueEvent e s) := by
  rw [queueEvent_held e held]
  split
  · rename_i room
    obtain ⟨n, hn⟩ : ∃ n, 64 - s.cli.events.length = n + 1 := ⟨63 - s.cli.events.length, by omega⟩
    simp [Queued, hn]
  · rename_i full
    have hn : 64 - s.cli.events.length = 0 := by omega
    simp [Queued, hn]

theorem queueEvent_wake {s : State} (held : sendingHeld s = true) (e : Event) :
    (queueEvent e s).cli.wake = s.cli.wake := by
  rw [queueEvent_held e held]
  split <;> rfl

theorem wakeFrame_asks (quiet : s.cli.wake = false) (held : sendingHeld s = true) :
    (wakeFrame s).cli.wake = true ∧ Queued [.state .parked .wakeFrame] s (wakeFrame s) := by
  have asked : sendingHeld (assertWake s) = true := held
  rw [wakeFrame, if_neg (by simp [quiet])]
  exact ⟨queueEvent_wake asked _, queueEvent_queued asked _⟩

end

/-- Settles O32: no entry, the short frame, and the wake frame. -/
theorem frameIsTakenByFirstMatch : Obligations.FrameIsTakenByFirstMatch := by
  intro port extended ident dlc data s length c takes
  have takes_iff (e : FrameEntry) : takes e ↔ mayTake port extended ident s.opState e = true :=
    (mayTake_iff port extended ident s.opState e).symm
  refine ⟨fun passed => exec_frameReceived_passed ?_, fun i e on running entry matched first => ?_⟩
  · exact passed.imp_right (Or.imp_right fun none => takingEntry_none fun j e entry may =>
      none j e entry ((takes_iff e).2 may))
  have taken := exec_frameReceived_taken (data := data) on running
    (takingEntry_first entry ((takes_iff e).1 matched) fun j before e' other may =>
      first j before e' other ((takes_iff e').2 may)) length
  have runs (b : Bool) := frameRun_putLengthFlag (i := i) (s := s) b
  have posted (b : Bool) : (putLengthFlag i b s).inFlight
      = s.inFlight ++ reportOf i .length e.faultClass (frameRun i s).lengthFlag b := by
    rw [putLengthFlag_eq, frameClass_of_entry entry]
    rfl
  have cli : (putLengthFlag i false s).cli = s.cli := by rw [putLengthFlag_eq]; rfl
  refine ⟨fun short => ⟨_, taken.trans (by rw [takeFrame_short short]), ?_, fun j other => ?_, ?_,
      putLengthFlag_frame i true s⟩,
    fun long parked => ⟨_, taken.trans (by rw [takeFrame_parked long parked]), ?_, fun j other => ?_, ?_, fun wake => ?_,
      fun quiet held => ?_, ?_⟩⟩
  · rw [runs, if_pos rfl]
  · rw [runs, if_neg other]
  · rw [posted]
    cases (frameRun i s).lengthFlag <;> rfl
  · rw [(wakeFrame_frp _).1, runs, if_pos rfl]
  · rw [(wakeFrame_frp _).1, runs, if_neg other]
  · rw [(wakeFrame_frp (i := i) _).2, posted]
    cases (frameRun i s).lengthFlag <;> rfl
  · rw [wakeFrame_asserted (by rwa [cli]), cli]
  · have asks := wakeFrame_asks (s := putLengthFlag i false s) (by rwa [cli]) (by rwa [sendingHeld, cli])
    rwa [Queued, cli] at asks
  · exact ((putLengthFlag_frame i false s).mono (by decide)).trans ((wakeFrame_frame _).mono (by decide))

end Sys2Proof.Machine
end

section
/-! PROOFS. The signals of a frame as numbers (R29, R30, R32). -/

namespace Sys2Proof.Machine

theorem rawUnsigned_append (data : List Byte) (bits : List Nat) (k : Nat) :
    rawUnsigned data (bits ++ [k]) = Nat.bit (dataBit data k) (rawUnsigned data bits) := by
  rw [rawUnsigned, List.foldl_append, List.foldl_cons, List.foldl_nil, ← rawUnsigned]
  cases dataBit data k <;> simp [bitNat, Nat.bit]

theorem rawUnsigned_lt (data : List Byte) (bits : List Nat) : rawUnsigned data bits < 2 ^ bits.length := by
  induction bits using List.reverseRecOn with
  | nil => simp [rawUnsigned]
  | append_singleton bits k ih =>
    rw [rawUnsigned_append, List.length_append, List.length_singleton, Nat.pow_succ, Nat.bit_val]
    have := (dataBit data k).toNat_le
    omega

/-- The bits of the number are the data bits named, the last named lowest. -/
theorem rawUnsigned_testBit (data : List Byte) (bits : List Nat) (j : Nat) (h : j < bits.length) :
    (rawUnsigned data bits).testBit (bits.length - 1 - j) = dataBit data bits[j] := by
  induction bits using List.reverseRecOn generalizing j with
  | nil => simp at h
  | append_singleton bits k ih =>
    rw [List.length_append, List.length_singleton] at h
    rw [rawUnsigned_append, List.length_append, List.length_singleton, Nat.add_sub_cancel]
    by_cases last : j = bits.length
    · subst last
      simp
    · have before : j < bits.length := by omega
      rw [show bits.length - j = (bits.length - 1 - j) + 1 by omega, Nat.testBit_bit_succ, ih j before,
        List.getElem_append_left before]

theorem lsbBits_length (start n : Nat) : (lsbBits start n).length = n := by
  induction n with
  | zero => rfl
  | succ n ih => rw [lsbBits, List.length_cons, ih]

theorem lsbBits_getElem (start n j : Nat) (h : j < (lsbBits start n).length) :
    (lsbBits start n)[j] = start + (n - 1 - j) := by
  induction n generalizing j with
  | zero => simp [lsbBits] at h
  | succ n ih =>
    cases j with
    | zero => simp [lsbBits]
    | succ j =>
      simp only [lsbBits, List.getElem_cons_succ]
      rw [ih j (by simpa [lsbBits] using h)]
      omega

theorem msbBits_length (start n : Nat) : (msbBits start n).length = n := by
  induction n generalizing start with
  | zero => rfl
  | succ n ih => rw [msbBits, List.length_cons, ih]

theorem msbBits_getElem (start n j : Nat) (h : j < (msbBits start n).length) :
    (msbBits start n)[j] = msbNext^[j] start := by
  induction n generalizing start j with
  | zero => simp [msbBits] at h
  | succ n ih =>
    cases j with
    | zero => rfl
    | succ j =>
      simp only [msbBits, List.getElem_cons_succ]
      rw [ih _ j (by simpa [msbBits] using h), Function.iterate_succ_apply]

theorem signalBits_length (b : Bool) (start n : Nat) : (signalBits b start n).length = n := by
  cases b
  · exact lsbBits_length start n
  · exact msbBits_length start n

/-- The raw value of a signal as the number of its data bits (R29, R30). -/
theorem rawValue_bits (g : SignalEntry) (data : List Byte) :
    ∃ u : Nat, u < 2 ^ g.length
      ∧ (∀ j, j < g.length → g.msbFirst = false → u.testBit j = dataBit data (g.startBit + j))
      ∧ (∀ j, j < g.length → g.msbFirst = true → u.testBit (g.length - 1 - j) = dataBit data (msbNext^[j] g.startBit))
      ∧ rawValue g data = if g.signed = true ∧ 2 ^ (g.length - 1) ≤ u then (u : Int) - 2 ^ g.length else u := by
  have length := signalBits_length g.msbFirst g.startBit g.length
  have bit := rawUnsigned_testBit data (signalBits g.msbFirst g.startBit g.length)
  have below := rawUnsigned_lt data (signalBits g.msbFirst g.startBit g.length)
  rw [length] at below
  refine ⟨_, below, fun j hj lsb => ?_, fun j hj msb => ?_, ?_⟩
  · have at_j := bit (g.length - 1 - j) (by omega)
    simp only [lsb, signalBits, Bool.false_eq_true, if_false, lsbBits_length, lsbBits_getElem] at at_j ⊢
    rwa [show g.length - 1 - (g.length - 1 - j) = j by omega] at at_j
  · have at_j := bit j (by omega)
    simpa only [msb, signalBits, if_true, msbBits_length, msbBits_getElem] using at_j
  · unfold rawValue
    cases g.signed <;> simp

/-- The scaled value is the quotient rounded down behind the half, and the offset (R32). -/
theorem scale_eq (g : SignalEntry) (r : Int) :
    scale g r = Int.fdiv (r * g.mult + (if g.shift = 0 then 0 else 2 ^ (g.shift - 1))) (2 ^ g.shift) + g.offset := by
  rw [Int.fdiv_eq_ediv_of_nonneg _ (by positivity)]
  rfl

end Sys2Proof.Machine
end

section
/-! PROOFS. The extraction of a frame's signals, slot by slot (R28, R30, R31). -/

namespace Sys2Proof.Machine

/-! ### The sender-error flag of a slot (R31) -/

/-- A slot's sender-error flag replaced, without a report. -/
def setSenderFlag (k : Slot) (b : Bool) (s : State) : State :=
  { s with frp := { s.frp with senderErr := s.frp.senderErr.set k b } }

theorem setSenderFlag_flag (k j : Slot) (b : Bool) (s : State) :
    (setSenderFlag k b s).frp.senderErr[j] = if j = k then b else s.frp.senderErr[j] := by
  simp only [setSenderFlag, Fin.getElem_fin, Vector.getElem_set, Fin.ext_iff, eq_comm]

theorem senderErrorPresent_iff (i : Fin 64) (s : State) :
    senderErrorPresent i s = true ↔ ∃ k, k ∈ frameSlots i s ∧ s.frp.senderErr[k] = true := by
  simp [senderErrorPresent]

/-- A flag set can only start the condition, and a flag cleared can only end it. -/
theorem present_setSenderFlag {i : Fin 64} {k : Slot} {b : Bool} {s : State}
    (h : senderErrorPresent i s ≠ senderErrorPresent i (setSenderFlag k b s)) :
    senderErrorPresent i (setSenderFlag k b s) = b := by
  cases b with
  | true =>
    by_contra absent
    have before : ¬senderErrorPresent i s = true := fun present => by
      obtain ⟨j, slot, flag⟩ := (senderErrorPresent_iff i s).1 present
      exact absent ((senderErrorPresent_iff i _).2 ⟨j, slot, by rw [setSenderFlag_flag, flag, ite_self]⟩)
    simp_all
  | false =>
    by_contra present
    rw [Bool.not_eq_false] at present
    obtain ⟨j, slot, flag⟩ := (senderErrorPresent_iff i _).1 present
    rw [setSenderFlag_flag] at flag
    split at flag
    · cases flag
    · exact h (present ▸ (senderErrorPresent_iff i s).2 ⟨j, slot, flag⟩)

theorem putSenderFlag_eq (i : Fin 64) (k : Slot) (b : Bool) (s : State) :
    putSenderFlag i k b s = post (reportOf i .senderError (frameClass i s) (senderErrorPresent i s)
      (senderErrorPresent i (setSenderFlag k b s))) (setSenderFlag k b s) := by
  show (if senderErrorPresent i s = senderErrorPresent i (setSenderFlag k b s) then setSenderFlag k b s
    else reportFrame i .senderError b (setSenderFlag k b s)) = _
  split
  · rename_i same
    rw [same, reportOf_same, post_nil]
  · rename_i other
    rw [reportOf, if_neg other, present_setSenderFlag other]
    rfl

/-! ### One signal -/

/-- What one slot of the entry takes of a frame (R28). -/
def takeSlot (i : Fin 64) (e : FrameEntry) (data : List Byte) (s : State) (k : Slot) : State :=
  match s.signal k with
  | some g => if selected (selectorValue e data) g then takeSignal i k g data s else s
  | none => s

theorem extract_eq (i : Fin 64) (e : FrameEntry) (data : List Byte) (s : State) :
    extract i e data s = (frameSlots i s).foldl (takeSlot i e data) s := rfl

/-- The frame carries the signal (R28). -/
def Carried (e : FrameEntry) (data : List Byte) (g : SignalEntry) : Prop :=
  ∀ start len m, e.selector = some (start, len) → g.mux = some m → m = rawUnsigned data (lsbBits start len)

theorem selected_iff (e : FrameEntry) (data : List Byte) (g : SignalEntry) :
    selected (selectorValue e data) g = true ↔ Carried e data g := by
  unfold selected selectorValue Carried
  rcases e.selector with _ | ⟨start, len⟩
  · simp
  · cases g.mux <;> simp

theorem hasCodes_iff (g : SignalEntry) :
    hasCodes g = true ↔ g.signed = false ∧ 2 ≤ g.length ∧ g.naCheck = true := by
  simp [hasCodes, and_assoc]

section
variable {i : Fin 64} {e : FrameEntry} {data : List Byte} {s : State} {k : Slot}

theorem takeSlot_frame (s : State) (k : Slot) : ChangesOnly (.senderFlags :: writing) s (takeSlot i e data s k) := by
  unfold takeSlot
  split
  · exact .ite (fun _ => takeSignal_frame _ _ _ _ s) fun _ => .refl _ s
  · exact .refl _ s

theorem takeSlot_passed {g : SignalEntry} (entry : s.signal k = some g) (passed : ¬Carried e data g) :
    takeSlot i e data s k = s := by
  simp only [takeSlot, entry]
  exact if_neg fun h => passed ((selected_iff e data g).1 h)

theorem takeSlot_carried {g : SignalEntry} (entry : s.signal k = some g) (carried : Carried e data g) :
    takeSlot i e data s k = takeSignal i k g data s := by
  simp only [takeSlot, entry]
  exact if_pos ((selected_iff e data g).2 carried)

theorem takeSignal_notAvailable {g : SignalEntry} (coded : hasCodes g = true)
    (code : rawValue g data = 2 ^ g.length - 1) : takeSignal i k g data s = qualityWrite k .notAvailable s :=
  if_pos (by simp [coded, code])

theorem takeSignal_senderError {g : SignalEntry} (coded : hasCodes g = true)
    (code : rawValue g data = 2 ^ g.length - 2) :
    takeSignal i k g data s = putSenderFlag i k true (qualityWrite k .senderError s) := by
  unfold takeSignal
  simp only [coded, code]
  rw [if_neg (by simp), if_pos (by simp)]

theorem takeSignal_value {g : SignalEntry} (value : ¬(hasCodes g = true
      ∧ (rawValue g data = 2 ^ g.length - 1 ∨ rawValue g data = 2 ^ g.length - 2))) :
    takeSignal i k g data s = putSenderFlag i k false (valueWrite k (scale g (rawValue g data)) .valid s) := by
  unfold takeSignal
  simp only
  rw [if_neg (by simp; tauto), if_neg (by simp; tauto)]

/-- The three things a signal taken can do. -/
theorem takeSignal_cases (i : Fin 64) (k : Slot) (g : SignalEntry) (data : List Byte) (s : State) :
    takeSignal i k g data s = qualityWrite k .notAvailable s
      ∨ takeSignal i k g data s = putSenderFlag i k true (qualityWrite k .senderError s)
      ∨ ∃ v, takeSignal i k g data s = putSenderFlag i k false (valueWrite k v .valid s) := by
  unfold takeSignal
  simp only
  split
  · exact .inl rfl
  · split
    · exact .inr (.inl rfl)
    · exact .inr (.inr ⟨_, rfl⟩)

end

/-! ### All the signals of a frame -/

theorem isInternal_of_mem_frameSlots {i : Fin 64} {s : State} {k : Slot} (h : k ∈ frameSlots i s) :
    isInternal k = false := ((mem_slotsWith _ k s).1 h).1

theorem slotsWith_nodup (test : SignalEntry → Bool) (s : State) : (slotsWith test s).Nodup := by
  rw [slotsWith, entries_eq, List.filterMap_map]
  refine (indices_nodup 256).filterMap fun a b k ha hb => ?_
  simp only [Function.comp_apply, Option.mem_def, Option.ite_none_right_eq_some, Option.some.injEq] at ha hb
  exact ha.2.trans hb.2.symm

theorem frameSlots_eq {s t : State} (h : t.sst.table = s.sst.table) (i : Fin 64) : frameSlots i t = frameSlots i s := by
  rw [frameSlots, frameSlots, slotsWith, slotsWith, h]

section
variable {i : Fin 64} {e : FrameEntry} {data : List Byte}

/-- A slot written under a replaced flag of its own. -/
theorem putSenderFlag_at (k j : Slot) (b : Bool) (s : State) :
    (putSenderFlag i k b s).slot j = s.slot j
      ∧ (putSenderFlag i k b s).frp.senderErr[j] = if j = k then b else s.frp.senderErr[j] := by
  rw [putSenderFlag_eq]
  exact ⟨rfl, setSenderFlag_flag k j b s⟩

theorem valueWrite_frp (k : Slot) (v : Int) (q : Quality) (s : State) : (valueWrite k v q s).frp = s.frp := by
  rw [valueWrite, putRecord_eq]

theorem qualityWrite_frp (k : Slot) (q : Quality) (s : State) : (qualityWrite k q s).frp = s.frp := by
  rw [qualityWrite, putRecord_eq]

/-- What a slot takes leaves every other slot and its flag alone. -/
theorem takeSlot_other {k j : Slot} (other : j ≠ k) (s : State) :
    (takeSlot i e data s k).slot j = s.slot j
      ∧ (takeSlot i e data s k).frp.senderErr[j] = s.frp.senderErr[j] := by
  unfold takeSlot
  split
  · split
    · rename_i g _ _
      rcases takeSignal_cases i k g data s with h | h | ⟨v, h⟩ <;> rw [h]
      · exact ⟨qualityWrite_other other _ s, by simp only [qualityWrite_frp]⟩
      · rw [(putSenderFlag_at k j _ _).1, (putSenderFlag_at k j _ _).2, if_neg other]
        exact ⟨qualityWrite_other other _ s, by simp only [qualityWrite_frp]⟩
      · rw [(putSenderFlag_at k j _ _).1, (putSenderFlag_at k j _ _).2, if_neg other]
        exact ⟨valueWrite_other other _ _ s, by simp only [valueWrite_frp]⟩
    · exact ⟨rfl, rfl⟩
  · exact ⟨rfl, rfl⟩

theorem takeSlots_frame (l : List Slot) (s : State) :
    ChangesOnly (.senderFlags :: writing) s (l.foldl (takeSlot i e data) s) := ChangesOnly.foldl takeSlot_frame l s

theorem takeSlots_other {l : List Slot} {j : Slot} (absent : j ∉ l) (s : State) :
    (l.foldl (takeSlot i e data) s).slot j = s.slot j
      ∧ (l.foldl (takeSlot i e data) s).frp.senderErr[j] = s.frp.senderErr[j] := by
  induction l generalizing s with
  | nil => exact ⟨rfl, rfl⟩
  | cons k l ih =>
    obtain ⟨slot, flag⟩ := ih (fun h => absent (List.mem_cons_of_mem k h)) (takeSlot i e data s k)
    have other : j ≠ k := fun same => absent (same ▸ List.mem_cons_self)
    obtain ⟨slot', flag'⟩ := takeSlot_other (i := i) (e := e) (data := data) other s
    exact ⟨slot.trans slot', flag.trans flag'⟩

/-- Each slot of a list without repetition is taken once, from a part in which it stands as at the beginning. -/
theorem takeSlots_at {l : List Slot} (distinct : l.Nodup) {k : Slot} (member : k ∈ l) (s : State) :
    ∃ u, ChangesOnly (.senderFlags :: writing) s u ∧ u.slot k = s.slot k ∧ u.frp.senderErr[k] = s.frp.senderErr[k]
      ∧ (l.foldl (takeSlot i e data) s).slot k = (takeSlot i e data u k).slot k
      ∧ (l.foldl (takeSlot i e data) s).frp.senderErr[k] = (takeSlot i e data u k).frp.senderErr[k] := by
  obtain ⟨before, after, rfl⟩ := List.append_of_mem member
  obtain ⟨-, tail, apart⟩ := List.nodup_append.1 distinct
  have early := takeSlots_other (i := i) (e := e) (data := data) (fun h => apart k h k List.mem_cons_self rfl) s
  rw [List.foldl_append, List.foldl_cons]
  exact ⟨_, takeSlots_frame before s, early.1, early.2, takeSlots_other (List.nodup_cons.1 tail).1 _⟩

/-- The arrivals a slot makes: notices, and the report of a SENDER_ERROR condition that starts or ends (R31). -/
theorem takeSlot_inFlight (s : State) (k : Slot) : ∃ l, (∀ c ∈ l, isNotice c = true)
    ∧ (takeSlot i e data s k).inFlight = s.inFlight ++ l ++ reportOf i .senderError (frameClass i s)
        (senderErrorPresent i s) (senderErrorPresent i (takeSlot i e data s k)) := by
  have flagged (u : State) (h : ChangesOnly writing s u) (p : PostsOnly isNotice s u) (b : Bool) :
      ∃ l, (∀ c ∈ l, isNotice c = true) ∧ (putSenderFlag i k b u).inFlight = s.inFlight ++ l
        ++ reportOf i .senderError (frameClass i s) (senderErrorPresent i s)
          (senderErrorPresent i (putSenderFlag i k b u)) := by
    obtain ⟨l, hl, notices⟩ := p
    have cls : frameClass i u = frameClass i s := by rw [frameClass, frameClass, h .frameTable (by decide)]
    have present : senderErrorPresent i u = senderErrorPresent i s := by
      rw [senderErrorPresent, senderErrorPresent, frameSlots_eq (h .signalTable (by decide)),
        h .senderFlags (by decide)]
    refine ⟨l, notices, ?_⟩
    rw [putSenderFlag_eq, post_inFlight, cls, present, ← hl]
    rfl
  have silent : ∃ l, (∀ c ∈ l, isNotice c = true) ∧ s.inFlight = s.inFlight ++ l
      ++ reportOf i .senderError (frameClass i s) (senderErrorPresent i s) (senderErrorPresent i s) :=
    ⟨[], by simp, by simp [reportOf_same]⟩
  unfold takeSlot
  split
  · split
    · rename_i g _ _
      rcases takeSignal_cases i k g data s with h | h | ⟨v, h⟩ <;> rw [h]
      · obtain ⟨l, hl, notices⟩ := qualityWrite_posts k .notAvailable s
        have kept := qualityWrite_frame k .notAvailable s
        refine ⟨l, notices, ?_⟩
        rw [hl, senderErrorPresent, senderErrorPresent, frameSlots_eq (kept .signalTable (by decide)),
          kept .senderFlags (by decide), reportOf_same, List.append_nil]
      · exact flagged _ (qualityWrite_frame _ _ s) (qualityWrite_posts _ _ s) true
      · exact flagged _ (valueWrite_frame _ _ _ s) (valueWrite_posts _ _ _ s) false
    · exact silent
  · exact silent

/-- What an entry's SENDER_ERROR reports leave in flight, with the condition itself: reports started, less those ended,
less the condition. -/
def senderBalance (i : Fin 64) (cls : Fin 16) (s : State) : Int :=
  (s.inFlight.count (.faultConditionStart (.frame i .senderError) cls) : Int)
    - s.inFlight.count (.faultConditionEnd (.frame i .senderError) cls)
    - if senderErrorPresent i s then 1 else 0

theorem count_notices {l : List Instr} (notices : ∀ c ∈ l, isNotice c = true) {c : Instr} (h : isNotice c = false) :
    l.count c = 0 := List.count_eq_zero.2 fun member => by simp [notices c member] at h

theorem takeSlot_count (s : State) (k : Slot) {c : Instr} (h : isNotice c = false) :
    (takeSlot i e data s k).inFlight.count c = s.inFlight.count c + (reportOf i .senderError (frameClass i s)
      (senderErrorPresent i s) (senderErrorPresent i (takeSlot i e data s k))).count c := by
  obtain ⟨l, notices, inFlight⟩ := takeSlot_inFlight (i := i) (e := e) (data := data) s k
  rw [inFlight, List.count_append, List.count_append, count_notices notices h, Nat.add_zero]

theorem takeSlot_class (s : State) (k : Slot) : frameClass i (takeSlot i e data s k) = frameClass i s := by
  rw [frameClass, frameClass, takeSlot_frame s k .frameTable (by decide)]

/-- Each start of the condition is reported once, and each end (R31). -/
theorem takeSlot_balance {cls : Fin 16} {s : State} (h : frameClass i s = cls) (k : Slot) :
    senderBalance i cls (takeSlot i e data s k) = senderBalance i cls s := by
  subst h
  unfold senderBalance
  rw [takeSlot_count s k rfl, takeSlot_count s k rfl, count_reportOf_start, count_reportOf_end]
  cases senderErrorPresent i s <;> cases senderErrorPresent i (takeSlot i e data s k) <;> simp <;> omega

theorem takeSlots_balance {cls : Fin 16} (l : List Slot) {s : State} (h : frameClass i s = cls) :
    senderBalance i cls (l.foldl (takeSlot i e data) s) = senderBalance i cls s := by
  induction l generalizing s with
  | nil => rfl
  | cons k l ih => rw [List.foldl_cons, ih ((takeSlot_class s k).trans h), takeSlot_balance h]

/-- No other condition of the entry is reported by an extraction. -/
theorem takeSlots_count (l : List Slot) {s : State} {f : FrameFailure} (other : f ≠ .senderError) {cls : Fin 16}
    (h : frameClass i s = cls) :
    (l.foldl (takeSlot i e data) s).inFlight.count (.faultConditionStart (.frame i f) cls)
        = s.inFlight.count (.faultConditionStart (.frame i f) cls)
      ∧ (l.foldl (takeSlot i e data) s).inFlight.count (.faultConditionEnd (.frame i f) cls)
        = s.inFlight.count (.faultConditionEnd (.frame i f) cls) := by
  induction l generalizing s with
  | nil => exact ⟨rfl, rfl⟩
  | cons k l ih =>
    obtain ⟨starts, ends⟩ := ih ((takeSlot_class s k).trans h)
    subst h
    rw [List.foldl_cons, starts, ends, takeSlot_count s k rfl, takeSlot_count s k rfl, count_reportOf_start,
      count_reportOf_end]
    simp [other.symm]

end

end Sys2Proof.Machine
end

section
/-! PROOFS. A frame in RUN and SWEEP: the alive check, the flags that end, and the extraction (R23 to R36). -/

namespace Sys2Proof.Machine

/-! ### The entry's run-time state with the reports of its flags (R36) -/

/-- The start and the end of a condition of the entry are each reported once between `s` and `t`. -/
def Reported (i : Fin 64) (cls : Fin 16) (f : FrameFailure) (s t : State) (before after : Bool) : Prop :=
  let starts := Instr.faultConditionStart (.frame i f) cls
  let ends := Instr.faultConditionEnd (.frame i f) cls
  t.inFlight.count starts = s.inFlight.count starts + (if before = false ∧ after = true then 1 else 0)
    ∧ t.inFlight.count ends = s.inFlight.count ends + (if before = true ∧ after = false then 1 else 0)

/-- Between `s` and `t` no condition of the entry is reported but SENDER_ERROR. -/
def FlagsQuiet (i : Fin 64) (cls : Fin 16) (s t : State) : Prop :=
  ∀ f, f ≠ .senderError → Reported i cls f s t false false

/-- The reports of the three flags of an entry, told by its run-time states. -/
def flagReportsOf (i : Fin 64) (cls : Fin 16) (r r' : FrameRun) : List Instr :=
  reportOf i .length cls r.lengthFlag r'.lengthFlag ++ reportOf i .sequence cls r.sequenceFlag r'.sequenceFlag
    ++ reportOf i .timeout cls r.timeoutFlag r'.timeoutFlag

/-- The entry's run-time state replaced, with the reports of its flags. -/
def moveFrameRun (i : Fin 64) (r : FrameRun) (s : State) : State :=
  post (flagReportsOf i (frameClass i s) (frameRun i s) r) (setFrameRun i r s)

section
variable {i : Fin 64} {s t : State}

theorem frameRun_moveFrameRun (r : FrameRun) (j : Fin 64) :
    frameRun j (moveFrameRun i r s) = if j = i then r else frameRun j s := frameRun_setFrameRun i j r s

theorem moveFrameRun_frame (r : FrameRun) : ChangesOnly [.frameRuns, .inFlight] s (moveFrameRun i r s) :=
  (setFrameRun_frame i r s).comp (post_frame _ _) (by decide) (by decide)

/-- Each flag that changes is reported once. -/
theorem moveFrameRun_reported {cls : Fin 16} (h : frameClass i s = cls) (r : FrameRun)
    (quiet : FlagsQuiet i cls (moveFrameRun i r s) t) :
    Reported i cls .length s t (frameRun i s).lengthFlag r.lengthFlag
      ∧ Reported i cls .sequence s t (frameRun i s).sequenceFlag r.sequenceFlag
      ∧ Reported i cls .timeout s t (frameRun i s).timeoutFlag r.timeoutFlag := by
  subst h
  have same (f : FrameFailure) (other : f ≠ .senderError) := quiet f other
  simp only [Reported, Bool.false_eq_true, and_false, false_and, if_false, Nat.add_zero] at same
  refine ⟨⟨(same .length (by decide)).1.trans ?_, (same .length (by decide)).2.trans ?_⟩,
    ⟨(same .sequence (by decide)).1.trans ?_, (same .sequence (by decide)).2.trans ?_⟩,
    ⟨(same .timeout (by decide)).1.trans ?_, (same .timeout (by decide)).2.trans ?_⟩⟩ <;>
  simp [moveFrameRun, flagReportsOf, count_reportOf_start, count_reportOf_end]

theorem FlagsQuiet.refl (i : Fin 64) (cls : Fin 16) (s : State) : FlagsQuiet i cls s s := fun _ _ => by simp [Reported]

theorem putLengthFlag_move (b : Bool) :
    putLengthFlag i b s = moveFrameRun i { frameRun i s with lengthFlag := b } s := by
  simp [putLengthFlag_eq, moveFrameRun, flagReportsOf, reportOf_same]

/-- What the entry holds beside its flags, replaced behind reports. -/
theorem setFrameRun_move {r : FrameRun} (timer : FrameTimer) (ref : Option (BitVec 4)) (n : Nat) :
    setFrameRun i { r with timer := timer, aliveRef := ref, seqRun := n } (moveFrameRun i r s)
      = moveFrameRun i { r with timer := timer, aliveRef := ref, seqRun := n } s := by
  simp only [moveFrameRun, flagReportsOf, setFrameRun_post, setFrameRun_setFrameRun]

/-- The SEQUENCE flag put behind a change of the LENGTH flag. -/
theorem putSequenceFlag_move {r : FrameRun} (b : Bool) (sequence : r.sequenceFlag = (frameRun i s).sequenceFlag)
    (timeout : r.timeoutFlag = (frameRun i s).timeoutFlag) :
    putSequenceFlag i b (moveFrameRun i r s) = moveFrameRun i { r with sequenceFlag := b } s := by
  rw [putSequenceFlag_eq, frameRun_moveFrameRun, if_pos rfl]
  simp [moveFrameRun, flagReportsOf, setFrameRun_post, setFrameRun_setFrameRun, post_post, sequence, timeout,
    reportOf_same, frameClass]

/-- The TIMEOUT flag put behind changes of the two other flags. -/
theorem putTimeoutFlag_move {r : FrameRun} (b : Bool) (timeout : r.timeoutFlag = (frameRun i s).timeoutFlag) :
    putTimeoutFlag i b (moveFrameRun i r s) = moveFrameRun i { r with timeoutFlag := b } s := by
  rw [putTimeoutFlag_eq, frameRun_moveFrameRun, if_pos rfl]
  simp [moveFrameRun, flagReportsOf, setFrameRun_post, setFrameRun_setFrameRun, post_post, timeout, reportOf_same,
    frameClass]

/-! ### The alive check (R24, R25) -/

variable {e : FrameEntry} {data : List Byte} {r : FrameRun}

/-- A repeated counter discards the frame and changes nothing. -/
theorem aliveCheck_again {n : BitVec 4} (counter : e.alive.map (aliveCounter · data) = some n)
    (ref : r.aliveRef = some n) : aliveCheck i e data (moveFrameRun i r s) = (false, moveFrameRun i r s) := by
  obtain ⟨place, alive, rfl⟩ := Option.map_eq_some_iff.1 counter
  have outcome : aliveOutcome (some (aliveCounter place data)) (aliveCounter place data) = .again := by
    simp [aliveOutcome]
  simp only [aliveCheck, alive, frameRun_moveFrameRun, if_true, ref, outcome]

/-- A counter that jumps discards the frame, and the third jump on end sets SEQUENCE. -/
theorem aliveCheck_jump {n a : BitVec 4} (counter : e.alive.map (aliveCounter · data) = some n)
    (ref : r.aliveRef = some a) (other : n ≠ a) (jump : n ≠ a + 1)
    (sequence : r.sequenceFlag = (frameRun i s).sequenceFlag) (timeout : r.timeoutFlag = (frameRun i s).timeoutFlag) :
    aliveCheck i e data (moveFrameRun i r s) = (false, moveFrameRun i { r with
      seqRun := satSucc 255 r.seqRun, aliveRef := if 3 ≤ satSucc 255 r.seqRun then some n else some a
      sequenceFlag := r.sequenceFlag || decide (satSucc 255 r.seqRun = 3) } s) := by
  obtain ⟨place, alive, rfl⟩ := Option.map_eq_some_iff.1 counter
  have outcome : aliveOutcome (some a) (aliveCounter place data) = .jump := by
    rw [aliveOutcome, if_neg jump, if_neg other]
  simp only [aliveCheck, alive, frameRun_moveFrameRun, if_true, ref, outcome, takeJump]
  rw [setFrameRun_move]
  by_cases third : satSucc 255 r.seqRun = 3
  · rw [if_pos third, putSequenceFlag_move true (by exact sequence) (by exact timeout)]
    simp [third]
  · simp [third]

/-- The state of an entry whose frame passes the alive check. -/
def passedRun (e : FrameEntry) (data : List Byte) (r : FrameRun) : FrameRun :=
  { r with
    aliveRef := if e.alive.isSome then e.alive.map (aliveCounter · data) else r.aliveRef
    seqRun := if e.alive.isSome then 0 else r.seqRun
    sequenceFlag := r.sequenceFlag && !(e.alive.isSome && r.aliveRef.isSome) }

theorem aliveCheck_passed (inOrder : ∀ n a, e.alive.map (aliveCounter · data) = some n → r.aliveRef = some a → n = a + 1)
    (sequence : r.sequenceFlag = (frameRun i s).sequenceFlag) (timeout : r.timeoutFlag = (frameRun i s).timeoutFlag) :
    aliveCheck i e data (moveFrameRun i r s) = (true, moveFrameRun i (passedRun e data r) s) := by
  unfold aliveCheck passedRun
  cases alive : e.alive with
  | none => simp
  | some place =>
    cases ref : r.aliveRef with
    | none =>
      simp only [frameRun_moveFrameRun, if_true, ref, aliveOutcome]
      rw [setFrameRun_move]
      simp
    | some a =>
      have next : aliveCounter place data = a + 1 := inOrder _ a (by rw [alive]; rfl) ref
      simp only [frameRun_moveFrameRun, if_true, ref, aliveOutcome, next]
      rw [setFrameRun_move, putSequenceFlag_move false (by exact sequence) (by exact timeout)]
      simp [next]

/-! ### The frame taken (R26) -/

theorem takeFrame_live (long : e.minLength ≤ data.length) (live : s.opState ≠ .parked) :
    takeFrame i e data s
      = if (aliveCheck i e data (moveFrameRun i { frameRun i s with lengthFlag := false } s)).1
        then acceptFrame i e data (aliveCheck i e data (moveFrameRun i { frameRun i s with lengthFlag := false } s)).2
        else (aliveCheck i e data (moveFrameRun i { frameRun i s with lengthFlag := false } s)).2 := by
  rw [takeFrame, if_neg (Nat.not_lt.2 long)]
  simp only [if_neg live, putLengthFlag_move]

/-- An accepted frame restarts the timer and ends TIMEOUT before its signals are extracted. -/
theorem acceptFrame_move (timeout : r.timeoutFlag = (frameRun i s).timeoutFlag) :
    acceptFrame i e data (moveFrameRun i r s) = (frameSlots i s).foldl (takeSlot i e data)
      (moveFrameRun i { r with
        timer := if e.timeout = 0 then .untimed else .timed (s.now + 10000 * e.timeout), timeoutFlag := false } s) := by
  unfold acceptFrame
  simp only [frameRun_moveFrameRun, if_true]
  rw [setFrameRun_move, putTimeoutFlag_move false (by exact timeout)]
  rfl

/-- An extraction moves no run-time state of an entry. -/
theorem frameRun_takeSlots (l : List Slot) (j : Fin 64) (s : State) :
    frameRun j (l.foldl (takeSlot i e data) s) = frameRun j s := by
  rw [frameRun, takeSlots_frame l s .frameRuns (by decide)]
  rfl

theorem takeSlots_quiet (l : List Slot) {cls : Fin 16} (h : frameClass i s = cls) :
    FlagsQuiet i cls s (l.foldl (takeSlot i e data) s) := fun f other => by
  obtain ⟨starts, ends⟩ := takeSlots_count (e := e) (data := data) l other h
  simp [Reported, starts, ends]

/-- What the slots of the entry hold behind an extraction, by the code or the value each signal carries (R30 to R32). -/
theorem takeSlots_signal {k : Slot} {g : SignalEntry} (member : k ∈ frameSlots i s) (entry : s.signal k = some g) :
    let t := (frameSlots i s).foldl (takeSlot i e data) s
    let coded := g.signed = false ∧ 2 ≤ g.length ∧ g.naCheck = true
    (Carried e data g → coded → rawValue g data = 2 ^ g.length - 1 →
      t.slot k = ⟨(s.slot k).value, .notAvailable, some s.now⟩ ∧ t.frp.senderErr[k] = s.frp.senderErr[k])
    ∧ (Carried e data g → coded → rawValue g data = 2 ^ g.length - 2 →
      t.slot k = ⟨(s.slot k).value, .senderError, some s.now⟩ ∧ t.frp.senderErr[k] = true)
    ∧ (Carried e data g → ¬(coded ∧ (rawValue g data = 2 ^ g.length - 1 ∨ rawValue g data = 2 ^ g.length - 2)) →
      t.slot k = written k (scale g (rawValue g data)) .valid s ∧ t.frp.senderErr[k] = false)
    ∧ (¬Carried e data g → t.slot k = s.slot k ∧ t.frp.senderErr[k] = s.frp.senderErr[k]) := by
  intro t coded
  obtain ⟨u, frame, slot, flag, slotAfter, flagAfter⟩ :=
    takeSlots_at (i := i) (e := e) (data := data) (slotsWith_nodup _ s) member s
  have now : u.now = s.now := frame .now (by decide)
  have entry' : u.signal k = some g := (frame.signal (by decide) k).trans entry
  have clamps (v : Int) : written k v .valid u = written k v .valid s := by
    simp only [written, clamped, entry', entry, now]
  show (_ → _ → _ → (List.foldl _ s (frameSlots i s)).slot k = _ ∧ (List.foldl _ s (frameSlots i s)).frp.senderErr[k] = _)
    ∧ _
  refine ⟨fun carried codes code => ?_, fun carried codes code => ?_, fun carried value => ?_, fun passed => ?_⟩
  · have step := takeSlot_carried (i := i) entry' carried
    rw [takeSignal_notAvailable ((hasCodes_iff g).2 codes) code] at step
    refine ⟨slotAfter.trans ?_, flagAfter.trans ?_⟩
    · rw [step, qualityWrite_slot_self, slot, now]
    · rw [← flag]
      simp only [step, qualityWrite_frp]
  · have step := takeSlot_carried (i := i) entry' carried
    rw [takeSignal_senderError ((hasCodes_iff g).2 codes) code] at step
    refine ⟨slotAfter.trans ?_, flagAfter.trans ?_⟩
    · rw [step, (putSenderFlag_at _ _ _ _).1, qualityWrite_slot_self, slot, now]
    · simp only [step, (putSenderFlag_at _ _ _ _).2, if_true]
  · have step := takeSlot_carried (i := i) entry' carried
    rw [takeSignal_value (by rwa [hasCodes_iff])] at step
    refine ⟨slotAfter.trans ?_, flagAfter.trans ?_⟩
    · rw [step, (putSenderFlag_at _ _ _ _).1, valueWrite_slot_self, clamps]
    · simp only [step, (putSenderFlag_at _ _ _ _).2, if_true]
  · have step := takeSlot_passed (i := i) entry' passed
    refine ⟨slotAfter.trans ?_, flagAfter.trans ?_⟩
    · rw [step, slot]
    · rw [← flag]
      simp only [step]

/-- With one slot the entry's condition is the slot's flag, and its start and end are each reported once (R31). -/
theorem takeSlots_single {k : Slot} (alone : frameSlots i s = [k]) {cls : Fin 16} (h : frameClass i s = cls) :
    let t := (frameSlots i s).foldl (takeSlot i e data) s
    Reported i cls .senderError s t s.frp.senderErr[k] t.frp.senderErr[k] := by
  have present (u : State) (same : u.sst.table = s.sst.table) : senderErrorPresent i u = u.frp.senderErr[k] := by
    simp [senderErrorPresent, frameSlots_eq same, alone]
  intro t
  have step : t = takeSlot i e data s k := by
    show List.foldl _ s (frameSlots i s) = _
    rw [alone]
    rfl
  subst h
  rw [step, ← present s rfl, ← present _ (takeSlot_frame s k .signalTable (by decide))]
  constructor
  · rw [takeSlot_count s k rfl, count_reportOf_start]
    simp
  · rw [takeSlot_count s k rfl, count_reportOf_end]
    simp

end

section
variable {i : Fin 64} {s t : State} {cls : Fin 16}

/-- The entry's flags moved report nothing of a SENDER_ERROR. -/
theorem moveFrameRun_senderReports (h : frameClass i s = cls) (r : FrameRun) :
    Reported i cls .senderError s (moveFrameRun i r s) false false := by
  subst h
  simp [Reported, moveFrameRun, flagReportsOf, count_reportOf_start, count_reportOf_end]

theorem moveFrameRun_balance (h : frameClass i s = cls) (r : FrameRun) :
    senderBalance i cls (moveFrameRun i r s) = senderBalance i cls s := by
  obtain ⟨starts, ends⟩ := moveFrameRun_senderReports h r
  simp only [senderBalance, starts, ends]
  rfl

theorem reported_behind_move (h : frameClass i s = cls) (r : FrameRun) {before after : Bool}
    (k : Reported i cls .senderError (moveFrameRun i r s) t before after) :
    Reported i cls .senderError s t before after := by
  obtain ⟨starts, ends⟩ := moveFrameRun_senderReports h r
  obtain ⟨starts', ends'⟩ := k
  exact ⟨by rw [starts', starts]; rfl, by rw [ends', ends]; rfl⟩

end

/-- A slot's written value, by the limits of its entry. -/
theorem written_frameSlot {i : Fin 64} {s : State} {k : Slot} {g : SignalEntry} (member : k ∈ frameSlots i s)
    (entry : s.signal k = some g) (v : Int) (q : Quality) :
    written k v q s = if v < g.min then ⟨g.min, .limited, some s.now⟩
      else if g.max < v then ⟨g.max, .limited, some s.now⟩ else ⟨v, q, some s.now⟩ :=
  written_configurable (isInternal_of_mem_frameSlots member) entry v q

/-- Settles O33: the numbers of a signal, and the three outcomes of the alive check. -/
theorem frameIsCheckedAndExtracted : Obligations.FrameIsCheckedAndExtracted := by
  refine ⟨fun g data => ⟨rawValue_bits g data, scale_eq g⟩, ?_⟩
  intro port extended ident dlc data i e s on live takes length long c r counter reported flagsReported
  have running : s.opState ≠ .config ∧ s.opState ≠ .parked := by rcases live with h | h <;> simp [h]
  have cls := frameClass_of_entry (table_of_takingEntry takes)
  have taken := exec_frameReceived_taken on running.1 takes length
  rw [takeFrame_live long running.2] at taken
  have moved (x : FrameRun) : frameRun i (moveFrameRun i x s) = x ∧ ∀ j ≠ i, frameRun j (moveFrameRun i x s) = frameRun j s :=
    ⟨by rw [frameRun_moveFrameRun, if_pos rfl], fun j other => by rw [frameRun_moveFrameRun, if_neg other]⟩
  refine ⟨fun n counted ref => ?_, fun n a counted ref other jump => ?_, fun inOrder => ?_⟩
  · rw [aliveCheck_again counted ref] at taken
    have told := moveFrameRun_reported cls r (.refl i e.faultClass _)
    obtain ⟨own, others⟩ := moved r
    refine ⟨moveFrameRun i r s, taken, own, others, ?_, moveFrameRun_frame r⟩
    simp only [flagsReported, own]
    exact told
  · rw [aliveCheck_jump counted ref other jump rfl rfl] at taken
    set x : FrameRun := { r with
      seqRun := satSucc 255 r.seqRun, aliveRef := if 3 ≤ satSucc 255 r.seqRun then some n else some a
      sequenceFlag := r.sequenceFlag || decide (satSucc 255 r.seqRun = 3) }
    have told := moveFrameRun_reported cls x (.refl i e.faultClass _)
    obtain ⟨own, others⟩ := moved x
    refine ⟨moveFrameRun i x s, taken, own, others, ?_, moveFrameRun_frame x⟩
    simp only [flagsReported, own]
    exact told
  · rw [aliveCheck_passed inOrder rfl rfl, if_pos rfl, acceptFrame_move (r := passedRun e data r) (by rfl)] at taken
    set x : FrameRun := { passedRun e data r with
      timer := if e.timeout = 0 then .untimed else .timed (s.now + 10000 * e.timeout), timeoutFlag := false }
    set u := moveFrameRun i x s with hu
    have cls' : frameClass i u = e.faultClass := cls
    have told := moveFrameRun_reported cls x (takeSlots_quiet (e := e) (data := data) (frameSlots i u) cls')
    obtain ⟨own, others⟩ := moved x
    refine ⟨(frameSlots i u).foldl (takeSlot i e data) u, taken, (frameRun_takeSlots _ _ u).trans own,
      fun j other => (frameRun_takeSlots _ _ u).trans (others j other), ?_, ⟨?_, fun k alone => ?_⟩,
      fun k member g entry => ?_, fun k absent => takeSlots_other absent u,
      ((moveFrameRun_frame x).mono (by decide)).trans ((takeSlots_frame _ u).mono (by decide))⟩
    · have own' : frameRun i u = x := own
      simp only [flagsReported, frameRun_takeSlots, own']
      exact told
    · have balanced := takeSlots_balance (e := e) (data := data) (frameSlots i u) cls'
      have before : senderBalance i e.faultClass u = senderBalance i e.faultClass s := moveFrameRun_balance cls x
      have slots (v : State) (same : v.sst.table = s.sst.table) : senderErrorPresent i v
          = decide (∃ k : Slot, k ∈ frameSlots i s ∧ v.frp.senderErr[k] = true) := by
        rw [Bool.eq_iff_iff, senderErrorPresent_iff, frameSlots_eq same, decide_eq_true_eq]
      rw [before, senderBalance, senderBalance, slots _ rfl,
        slots _ (takeSlots_frame (frameSlots i u) u .signalTable (by decide))] at balanced
      beta_reduce
      omega
    · have single := takeSlots_single (e := e) (data := data) (i := i) (s := u) alone cls'
      exact reported_behind_move cls x single
    · have at_k := takeSlots_signal (i := i) (e := e) (data := data) (s := u) member entry
      rw [written_frameSlot (s := u) member entry] at at_k
      exact at_k

end Sys2Proof.Machine
end

section
/-! PROOFS. The warning unit's registers: what a change of one entry makes of the run-time states, the active list,
ACTIVE_WARNINGS, the reported top, the chime notices and the events (R104, R107, R112, R113, R116). -/

namespace Sys2Proof.Machine

/-! ### The run-time states, apart from the join sequence -/

/-- A run-time state without its join sequence, which an entry that joins the list may renumber. -/
def unjoined (r : WarnRun) : WarnRun := { r with join := 0 }

section
variable {i j : Fin 96} {s t : State}

theorem warnRun_setWarnRun (i j : Fin 96) (r : WarnRun) (s : State) :
    warnRun j (setWarnRun i r s) = if j = i then r else warnRun j s := by
  simp only [warnRun, setWarnRun, Fin.getElem_fin, Vector.getElem_set, Fin.ext_iff, eq_comm]

theorem warnRun_eq (h : t.wrn.run = s.wrn.run) (j : Fin 96) : warnRun j t = warnRun j s := by rw [warnRun, warnRun, h]

theorem warnEntry_eq (h : t.wrn.table = s.wrn.table) (j : Fin 96) : warnEntry j t = warnEntry j s := by
  rw [warnEntry, warnEntry, h]

theorem state_of_unjoined {r r' : WarnRun} (h : unjoined r = unjoined r') : r.state = r'.state := by
  have := congrArg WarnRun.state h
  exact this

/-- The list's entries depend on the table and the states alone. -/
theorem inActiveList_eq (table : t.wrn.table = s.wrn.table) (run : unjoined (warnRun j t) = unjoined (warnRun j s)) :
    inActiveList t j = inActiveList s j := by
  rw [inActiveList, inActiveList, warnEnabled, warnEnabled, warnEntry_eq table, state_of_unjoined run]

theorem listLength_eq (h : ∀ j, inActiveList t j = inActiveList s j) : listLength t = listLength s := by
  rw [listLength, listLength, funext h]

/-- The top warning depends on the table, the states and the join sequences. -/
theorem topWarning_eq_of (table : t.wrn.table = s.wrn.table)
    (run : ∀ j, (warnRun j t).state = (warnRun j s).state ∧ (warnRun j t).join = (warnRun j s).join) :
    topWarning t = topWarning s := by
  have key (j : Fin 96) : listKey t j = listKey s j := by
    rw [listKey, listKey, warnEntry_eq table, (run j).1, (run j).2]
  have insert (j : Fin 96) (l : List (Fin 96)) : insertByKey t j l = insertByKey s j l := by
    induction l with
    | nil => rfl
    | cons k l ih => rw [insertByKey, insertByKey, key, key, ih]
  have active (j : Fin 96) : inActiveList t j = inActiveList s j := by
    rw [inActiveList, inActiveList, warnEnabled, warnEnabled, warnEntry_eq table, (run j).1]
  rw [topWarning, topWarning, activeList, activeList, funext active, show insertByKey t = insertByKey s from
    funext fun j => funext fun l => insert j l]

theorem topWarning_eq (table : t.wrn.table = s.wrn.table) (run : t.wrn.run = s.wrn.run) :
    topWarning t = topWarning s :=
  topWarning_eq_of table fun j => by rw [warnRun_eq run]; exact ⟨rfl, rfl⟩

end

/-! ### Joining the list (R112) -/

/-- The number of listed entries that joined before an entry. -/
def joinPlace (s : State) (i : Fin 96) : Nat :=
  (indices 96).countP fun j => inActiveList s j && decide ((warnRun j s).join < (warnRun i s).join)

/-- A vector whose marked places are changed one after the other, the same way whenever it is done. -/
theorem foldl_set_getElem {α : Type} {n : Nat} (test : Fin n → Bool) (f : Fin n → α → α)
    (idem : ∀ i a, f i (f i a) = f i a) (l : List (Fin n)) (v : Vector α n) (j : Fin n) :
    (l.foldl (fun v i => if test i then v.set i (f i v[i]) else v) v)[j]
      = if j ∈ l ∧ test j = true then f j v[j] else v[j] := by
  induction l generalizing v with
  | nil => simp
  | cons i l ih =>
    rw [List.foldl_cons, ih]
    by_cases same : j = i
    · subst same
      by_cases marked : test j = true <;> simp [marked, idem]
    · have other : (i : Nat) ≠ j := fun h => same (Fin.ext h.symm)
      have kept : (if test i then v.set i (f i v[i]) else v)[j] = v[j] := by
        split <;> simp [other]
      rw [kept]
      simp [same]

theorem renumber_run (s : State) (j : Fin 96) :
    warnRun j (renumber s) = if inActiveList s j then { warnRun j s with join := joinPlace s j } else warnRun j s := by
  have fold := foldl_set_getElem (inActiveList s) (fun i (r : WarnRun) => { r with join := joinPlace s i })
    (fun _ _ => rfl) (indices 96) s.wrn.run j
  refine fold.trans ?_
  simp only [mem_indices, true_and]
  rfl

/-- Two listed entries are numbered in the order of their join sequences. -/
theorem joinPlace_lt {s : State} {j k : Fin 96} (hj : inActiveList s j = true) :
    joinPlace s j < joinPlace s k ↔ (warnRun j s).join < (warnRun k s).join := by
  have le {a b : Fin 96} (h : (warnRun a s).join ≤ (warnRun b s).join) : joinPlace s a ≤ joinPlace s b := by
    refine List.countP_mono_left fun x _ => ?_
    simp only [Bool.and_eq_true, decide_eq_true_eq]
    exact fun ⟨active, before⟩ => ⟨active, lt_of_lt_of_le before h⟩
  refine ⟨fun h => not_le.1 fun h' => not_le.2 h (le h'), fun h => ?_⟩
  have split : joinPlace s k = (indices 96).countP (fun x => (inActiveList s x
        && decide ((warnRun x s).join < (warnRun k s).join)) && decide ((warnRun x s).join < (warnRun j s).join))
      + (indices 96).countP (fun x => (inActiveList s x
        && decide ((warnRun x s).join < (warnRun k s).join)) && !decide ((warnRun x s).join < (warnRun j s).join)) := by
    rw [joinPlace, List.countP_eq_countP_filter_add _ _ fun x => decide ((warnRun x s).join < (warnRun j s).join),
      List.countP_filter, List.countP_filter]
  have first : joinPlace s j = (indices 96).countP fun x => (inActiveList s x
        && decide ((warnRun x s).join < (warnRun k s).join)) && decide ((warnRun x s).join < (warnRun j s).join) := by
    rw [joinPlace]
    congr 1
    funext x
    by_cases before : (warnRun x s).join < (warnRun j s).join
    · simp [before, lt_trans before h]
    · simp [before]
  have one : 0 < (indices 96).countP fun x => (inActiveList s x
        && decide ((warnRun x s).join < (warnRun k s).join)) && !decide ((warnRun x s).join < (warnRun j s).join) :=
    List.countP_pos_iff.2 ⟨j, mem_indices 96 j, by simp [hj, h]⟩
  omega

theorem joinList_run_unjoined (i j : Fin 96) (s : State) :
    unjoined (warnRun j (joinList i s)) = unjoined (warnRun j s) := by
  have set : unjoined (warnRun j (setWarnRun i { warnRun i s with join := s.wrn.joinCounter } s))
      = unjoined (warnRun j s) := by
    rw [warnRun_setWarnRun]
    split
    · rename_i same
      rw [same]
      rfl
    · rfl
  unfold joinList
  simp only
  split
  · exact set
  · rw [renumber_run, ← set]
    split <;> rfl

/-! ### A change of one entry -/

/-- The first part of a change: the entry's run-time state, with its join sequence where it joins the list. -/
def takeRun (i : Fin 96) (r : WarnRun) (s : State) : State :=
  if !(warnRun i s).state.inList && inActiveList (setWarnRun i r s) i then joinList i (setWarnRun i r s)
  else setWarnRun i r s

section
variable {i j : Fin 96} {r : WarnRun} {c : Option (Fin 8)} {b : Bool} {s t : State}

theorem takeRun_frame (i : Fin 96) (r : WarnRun) (s : State) : ChangesOnly [.warnRuns, .warnList] s (takeRun i r s) :=
  .ite (fun _ => ((setWarnRun_frame i r s).mono (by decide)).trans (joinList_frame i _))
    fun _ => (setWarnRun_frame i r s).mono (by decide)

theorem takeRun_run : unjoined (warnRun j (takeRun i r s)) = if j = i then unjoined r else unjoined (warnRun j s) := by
  have set : unjoined (warnRun j (setWarnRun i r s)) = if j = i then unjoined r else unjoined (warnRun j s) := by
    rw [warnRun_setWarnRun]
    split <;> rfl
  unfold takeRun
  split
  · rw [joinList_run_unjoined, set]
  · exact set

/-- The change behind the run-time states and the list: ACTIVE_WARNINGS, the chime notices and the entry's event. -/
def tellRunChange (i : Fin 96) (r : WarnRun) (c : Option (Fin 8)) (b : Bool) (s : State) : State :=
  let u := post (chimeNotices i c (warnRun i s).state r.state) (writeLength (listLength s) (takeRun i r s))
  if b then queueEvent (warningEvent i u) u else u

theorem changeRun_eq : changeRun i r c b s = reportTop i (tellRunChange i r c b s) := rfl

theorem tellRunChange_frame :
    ChangesOnly (writing ++ sending) (takeRun i r s) (tellRunChange i r c b s) := by
  have written : ChangesOnly (writing ++ sending) (takeRun i r s)
      (post (chimeNotices i c (warnRun i s).state r.state) (writeLength (listLength s) (takeRun i r s))) :=
    ((writeLength_frame _ _).mono (by decide)).trans ((post_frame _ _).mono (by decide))
  exact .ite (fun _ => written.trans ((queueEvent_frame _ _).mono (by decide))) fun _ => written

/-- The warning unit is the same where none of its pieces is named. -/
theorem ChangesOnly.wrn {ps : List Piece} (h : ChangesOnly ps s t) (table : Piece.warnTable ∉ ps)
    (runs : Piece.warnRuns ∉ ps) (list : Piece.warnList ∉ ps) (flash : Piece.flash ∉ ps) : t.wrn = s.wrn := by
  have tableT := h .warnTable table
  have runsT := h .warnRuns runs
  obtain ⟨counter, top⟩ := h .warnList list
  obtain ⟨lit, due⟩ := h .flash flash
  cases k : t.wrn
  cases l : s.wrn
  simp only [Piece.kept, k, l] at tableT runsT counter top lit due
  simp only [tableT, runsT, counter, top, lit, due]

theorem reportTop_wrn (i : Fin 96) (s : State) : (reportTop i s).wrn = { s.wrn with reportedTop := topWarning s } := by
  have queued (e : Event) (s : State) : (queueEvent e s).wrn = s.wrn :=
    (queueEvent_frame e s).wrn (by decide) (by decide) (by decide) (by decide)
  unfold reportTop
  split
  · rename_i same
    rw [same]
  · simp only
    split
    · rfl
    · split
      · rfl
      · rw [queued]

theorem changeRun_wrn : (changeRun i r c b s).wrn.table = s.wrn.table
    ∧ (changeRun i r c b s).wrn.run = (takeRun i r s).wrn.run
    ∧ (changeRun i r c b s).wrn.joinCounter = (takeRun i r s).wrn.joinCounter := by
  have told := tellRunChange_frame (i := i) (r := r) (c := c) (b := b) (s := s)
  rw [changeRun_eq, reportTop_wrn]
  exact ⟨(told .warnTable (by decide)).trans (takeRun_frame i r s .warnTable (by decide)), told .warnRuns (by decide),
    (told .warnList (by decide)).1⟩

theorem changeRun_entry (j : Fin 96) : warnEntry j (changeRun i r c b s) = warnEntry j s := warnEntry_eq changeRun_wrn.1 j

/-- A change replaces the run-time state of its entry and no other's, apart from the join sequences. -/
theorem changeRun_run :
    unjoined (warnRun j (changeRun i r c b s)) = if j = i then unjoined r else unjoined (warnRun j s) := by
  rw [warnRun_eq changeRun_wrn.2.1, takeRun_run]

theorem changeRun_listed : inActiveList (changeRun i r c b s) = inActiveList (takeRun i r s) := by
  funext j
  refine inActiveList_eq (changeRun_wrn.1.trans (takeRun_frame i r s .warnTable (by decide)).symm) ?_
  rw [warnRun_eq changeRun_wrn.2.1]

/-- The reported top is the list's first element behind every change (R112). -/
theorem changeRun_top : (changeRun i r c b s).wrn.reportedTop = topWarning (changeRun i r c b s) := by
  have wrn := reportTop_wrn i (tellRunChange i r c b s)
  rw [changeRun_eq, wrn]
  exact (topWarning_eq (by rw [wrn]) (by rw [wrn])).symm

theorem writeLength_slot (n : Nat) (s : State) (k : Slot) :
    (writeLength n s).slot k = if k = activeWarnings ∧ listLength s ≠ n then ⟨(listLength s : Nat), .valid, some s.now⟩
      else s.slot k := by
  unfold writeLength
  split
  · rename_i same
    simp [same]
  · rename_i other
    rw [valueWrite_internal_slot rfl]
    simp [other]

/-- ACTIVE_WARNINGS follows the length of the list, and no other slot changes (R113). -/
theorem changeRun_slot (k : Slot) : (changeRun i r c b s).slot k
    = if k = activeWarnings ∧ listLength (changeRun i r c b s) ≠ listLength s then
        ⟨(listLength (changeRun i r c b s) : Nat), .valid, some s.now⟩
      else s.slot k := by
  have length : listLength (changeRun i r c b s) = listLength (takeRun i r s) := by
    rw [listLength, listLength, changeRun_listed]
  have reported : (changeRun i r c b s).slot k = (tellRunChange i r c b s).slot k :=
    (reportTop_frame i _).slot (by decide) k
  have told : (tellRunChange i r c b s).slot k = (writeLength (listLength s) (takeRun i r s)).slot k := by
    unfold tellRunChange
    simp only
    split
    · exact (queueEvent_frame _ _).slot (by decide) k
    · rfl
  rw [reported, told, writeLength_slot, length, (takeRun_frame i r s).slot (by decide) k,
    takeRun_frame i r s .now (by decide)]

theorem writeLength_posts (n : Nat) (s : State) : PostsOnly isNotice s (writeLength n s) :=
  .ite (fun _ => .refl s) fun _ => valueWrite_posts _ _ _ s

/-- The arrivals a change makes: notices of ACTIVE_WARNINGS, then the chime request's (R116). -/
theorem changeRun_inFlight : ∃ l, (∀ x ∈ l, isNotice x = true)
    ∧ (changeRun i r c b s).inFlight = s.inFlight ++ l ++ chimeNotices i c (warnRun i s).state r.state := by
  obtain ⟨l, posted, notices⟩ := writeLength_posts (listLength s) (takeRun i r s)
  have taken := takeRun_frame i r s .inFlight (by decide)
  have reported := reportTop_frame i (tellRunChange i r c b s) .inFlight (by decide)
  refine ⟨l, notices, ?_⟩
  simp only [Piece.kept] at taken reported
  rw [changeRun_eq, reported, ← taken, ← posted]
  unfold tellRunChange
  simp only
  split
  · exact queueEvent_frame _ _ .inFlight (by decide)
  · rfl

/-- An arrival that is neither a notice nor one of the chime's is in flight as often as before. -/
theorem changeRun_count {x : Instr} (notice : isNotice x = false) : (changeRun i r c b s).inFlight.count x
    = s.inFlight.count x + (chimeNotices i c (warnRun i s).state r.state).count x := by
  obtain ⟨l, notices, inFlight⟩ := changeRun_inFlight (i := i) (r := r) (c := c) (b := b) (s := s)
  have absent : x ∉ l := fun member => by simp [notices x member] at notice
  rw [inFlight, List.count_append, List.count_append, List.count_eq_zero.2 absent, Nat.add_zero]

/-- The event of a change that is told stands first (R107). -/
theorem changeRun_queued (held : sendingHeld s = true) (told : b = true) :
    ∃ more, Queued (ownEvent i (changeRun i r c b s) :: more) s (changeRun i r c b s) := by
  subst told
  set u := post (chimeNotices i c (warnRun i s).state r.state) (writeLength (listLength s) (takeRun i r s)) with hu
  have before : ChangesOnly (.warnRuns :: .warnList :: writing) s u := by
    refine ((takeRun_frame i r s).mono (by decide)).trans ?_
    exact ((writeLength_frame _ _).mono (by decide)).trans ((post_frame _ _).mono (by decide))
  have heldU : sendingHeld u = true := (before .queues (by decide)).held held
  obtain ⟨events, overrun⟩ := before .events (by decide)
  have queued : Queued [warningEvent i u] s (queueEvent (warningEvent i u) u) := by
    have own := queueEvent_queued heldU (warningEvent i u)
    rwa [Queued, events, overrun] at own
  have heldQ : sendingHeld (queueEvent (warningEvent i u) u) = true :=
    (queueEvent_frame _ _ .queues (by decide)).held heldU
  obtain ⟨-, -, -, more, tail⟩ := (reportTop_frame i (queueEvent (warningEvent i u) u) .queues (by decide)).grows heldQ
  have same : ownEvent i (changeRun i r c true s) = warningEvent i u := by
    have run : (changeRun i r c true s).wrn.run = u.wrn.run :=
      changeRun_wrn.2.1.trans (writeLength_frame (listLength s) (takeRun i r s) .warnRuns (by decide)).symm
    have table : (changeRun i r c true s).wrn.table = u.wrn.table :=
      changeRun_wrn.1.trans (before .warnTable (by decide)).symm
    rw [ownEvent, warningEvent, warnRun_eq run, topWarning_eq table run]
  refine ⟨more, ?_⟩
  rw [same]
  exact queued.append tail

/-! ### The list is followed (R112, R113) -/

/-- ACTIVE_WARNINGS is the length of the active list, and the reported top its first element. -/
def ListFollowed (s : State) : Prop :=
  (s.slot activeWarnings).value = (listLength s : Nat) ∧ (s.slot activeWarnings).quality = .valid
    ∧ s.wrn.reportedTop = topWarning s

theorem ListFollowed.of_same (h : ListFollowed s) (slot : t.slot activeWarnings = s.slot activeWarnings)
    (table : t.wrn.table = s.wrn.table) (run : t.wrn.run = s.wrn.run) (top : t.wrn.reportedTop = s.wrn.reportedTop) :
    ListFollowed t := by
  obtain ⟨value, quality, reported⟩ := h
  have length : listLength t = listLength s :=
    listLength_eq fun j => inActiveList_eq table (by rw [warnRun_eq run])
  rw [ListFollowed, slot, length, top, topWarning_eq table run]
  exact ⟨value, quality, reported⟩

theorem changeRun_listFollowed (h : ListFollowed s) : ListFollowed (changeRun i r c b s) := by
  obtain ⟨value, quality, -⟩ := h
  rw [ListFollowed, changeRun_slot]
  refine ⟨?_, ?_, changeRun_top⟩
  · split
    · rfl
    · rename_i same
      rw [value, show listLength (changeRun i r c b s) = listLength s by
        by_contra other
        exact same ⟨rfl, other⟩]
  · split
    · rfl
    · exact quality

theorem WarningsLegal.listFollowed (h : WarningsLegal s) : ListFollowed s := by
  obtain ⟨-, -, -, value, quality, top⟩ := h
  rw [activeList_length] at value
  exact ⟨value, quality, top⟩

end

end Sys2Proof.Machine
end

section
/-! PROOFS. The speed unit's registers: what a re-formation of VEHICLE_SPEED makes of the slots, the calibration window,
the plausibility timer and the events, and the writes of rest (R63, R65, R70 to R72, R78). -/

namespace Sys2Proof.Machine

/-! ### A re-formation of VEHICLE_SPEED (R71) -/

/-- A speed at 5.00 km/h or above closes the calibration window (R63). -/
def closesWindow (v : Int × Quality) : Bool := v.2.usable && decide (500 ≤ v.1)

/-- A speed at 10.00 km/h or above in RUN and SWEEP qualifies the drive cycle (R78). -/
def qualifiesCycle (v : Int × Quality) (s : State) : Bool :=
  s.opState.live && v.2.usable && decide (1000 ≤ v.1) && decide ((s.slot driveCycle).value ≠ 1)

section
variable {s t : State}

/-- VEHICLE_SPEED written, before the tests that follow the write. -/
def writeSpeed (s : State) : State := valueWrite vehicleSpeed (effectiveSpeed s).1 (effectiveSpeed s).2 s

theorem writeSpeed_frame (s : State) : ChangesOnly writing s (writeSpeed s) := valueWrite_frame _ _ _ s

theorem writeSpeed_slot (s : State) (k : Slot) : (writeSpeed s).slot k
    = if k = vehicleSpeed then ⟨(effectiveSpeed s).1, (effectiveSpeed s).2, some s.now⟩ else s.slot k :=
  valueWrite_internal_slot rfl _ _ s k

theorem reform_eq (s : State) : reform s = advancePlausibility (qualifyingTest (closingTest (writeSpeed s))) := rfl

theorem putRecord_sdu (i : Slot) (r : SlotRecord) (s : State) : (putRecord i r s).sdu = s.sdu := by rw [putRecord_eq]

/-- The speed unit is the same where none of its pieces is named. -/
theorem ChangesOnly.sdu {ps : List Piece} {s t : State} (h : ChangesOnly ps s t) (calibration : Piece.calibration ∉ ps)
    (window : Piece.calWindow ∉ ps) (measurement : Piece.measurement ∉ ps) (residue : Piece.residue ∉ ps)
    (odometer : Piece.odometerLoad ∉ ps) (plausibility : Piece.plausibility ∉ ps) : t.sdu = s.sdu := by
  have cal := h .calibration calibration
  have window := h .calWindow window
  obtain ⟨meas, filter, stand, bound⟩ := h .measurement measurement
  have residue := h .residue residue
  obtain ⟨preload, load⟩ := h .odometerLoad odometer
  obtain ⟨present, timer, implausible⟩ := h .plausibility plausibility
  cases k : t.sdu
  cases l : s.sdu
  simp only [Piece.kept, k, l] at cal window meas filter stand bound residue preload load present timer implausible
  simp only [cal, window, meas, filter, stand, bound, residue, preload, load, present, timer, implausible]

theorem queueEvent_sdu (e : Event) (s : State) : (queueEvent e s).sdu = s.sdu :=
  (queueEvent_frame e s).sdu (by decide) (by decide) (by decide) (by decide) (by decide) (by decide)

theorem closingTest_sdu (s : State) : (closingTest s).sdu = { s.sdu with
    windowOpen := s.sdu.windowOpen
      && !closesWindow ((s.slot vehicleSpeed).value, (s.slot vehicleSpeed).quality) } := by
  have test : closingTest s
      = if s.sdu.windowOpen && closesWindow ((s.slot vehicleSpeed).value, (s.slot vehicleSpeed).quality) then
          queueEvent (.windowClosed true) { s with sdu := { s.sdu with windowOpen := false } }
        else s := by
    rw [closesWindow, ← Bool.and_assoc]
    rfl
  rw [test]
  cases opened : s.sdu.windowOpen
  · rw [Bool.false_and, Bool.false_and, if_neg (by decide), ← opened]
  · cases closes : closesWindow ((s.slot vehicleSpeed).value, (s.slot vehicleSpeed).quality)
    · exact congrArg (fun b => ({ s.sdu with windowOpen := b } : Sdu)) opened
    · exact queueEvent_sdu _ _

/-- The event of the closing test (R63). -/
theorem closingTest_queued {s : State} (held : sendingHeld s = true) :
    Queued (if s.sdu.windowOpen && (s.slot vehicleSpeed).quality.usable && decide (500 ≤ (s.slot vehicleSpeed).value)
      then [.windowClosed true] else []) s (closingTest s) := by
  unfold closingTest
  split
  · exact queueEvent_queued (s := { s with sdu := { s.sdu with windowOpen := false } }) held _
  · exact .nil s

theorem qualifyingTest_sdu (s : State) : (qualifyingTest s).sdu = s.sdu := by
  unfold qualifyingTest
  split
  · exact putRecord_sdu _ _ s
  · rfl

theorem qualifyingTest_slot (s : State) (k : Slot) : (qualifyingTest s).slot k
    = if k = driveCycle ∧ qualifiesCycle ((s.slot vehicleSpeed).value, (s.slot vehicleSpeed).quality) s = true
      then ⟨1, .valid, some s.now⟩ else s.slot k := by
  unfold qualifyingTest qualifiesCycle
  split
  · rename_i qualifies
    rw [valueWrite_internal_slot rfl]
    simp only [qualifies, and_true]
  · rename_i stays
    simp only [stays, Bool.false_eq_true, and_false, if_false]

/-- What a re-formation makes of the slots. -/
theorem reform_slot (s : State) (k : Slot) : (reform s).slot k
    = if k = vehicleSpeed then ⟨(effectiveSpeed s).1, (effectiveSpeed s).2, some s.now⟩
      else if k = driveCycle ∧ qualifiesCycle (effectiveSpeed s) s = true then ⟨1, .valid, some s.now⟩
      else s.slot k := by
  have closed := closingTest_frame (writeSpeed s)
  have slots (j : Slot) : (closingTest (writeSpeed s)).slot j = (writeSpeed s).slot j := closed.slot (by decide) j
  have qualifies : qualifiesCycle (((closingTest (writeSpeed s)).slot vehicleSpeed).value,
      ((closingTest (writeSpeed s)).slot vehicleSpeed).quality) (closingTest (writeSpeed s))
      = qualifiesCycle (effectiveSpeed s) s := by
    rw [slots, writeSpeed_slot, if_pos rfl, qualifiesCycle, qualifiesCycle, slots, writeSpeed_slot,
      if_neg (by decide), closed .opState (by decide), writeSpeed_frame s .opState (by decide)]
  have same : (reform s).slot k = (qualifyingTest (closingTest (writeSpeed s))).slot k := rfl
  rw [same, qualifyingTest_slot, qualifies, slots, writeSpeed_slot, closed .now (by decide),
    writeSpeed_frame s .now (by decide)]
  by_cases cycle : k = driveCycle
  · rw [if_neg (show k ≠ vehicleSpeed by rw [cycle]; decide), if_neg (show k ≠ vehicleSpeed by rw [cycle]; decide)]
  · simp only [cycle, false_and, if_false]

/-- What it makes of the speed unit's own registers: the window and the plausibility timer. -/
theorem reform_sdu (s : State) : ∃ runs, (reform s).sdu = { s.sdu with
    windowOpen := s.sdu.windowOpen && !closesWindow (effectiveSpeed s)
    plausFrom := if runs then some (s.sdu.plausFrom.getD s.now) else none }
    ∧ (s.opState.live = false → runs = false) := by
  set u := qualifyingTest (closingTest (writeSpeed s)) with hu
  have sdu : u.sdu = { s.sdu with windowOpen := s.sdu.windowOpen && !closesWindow (effectiveSpeed s) } := by
    rw [hu, qualifyingTest_sdu, closingTest_sdu, writeSpeed_slot, if_pos rfl, writeSpeed, valueWrite, putRecord_sdu]
  have rest : ChangesOnly reforming s u := ((writeSpeed_frame s).mono (by decide)).trans
    (((closingTest_frame _).mono (by decide)).trans ((qualifyingTest_frame _).mono (by decide)))
  refine ⟨plausRuns u, ?_, fun idle => ?_⟩
  · show { u.sdu with plausFrom := if plausRuns u then some (u.sdu.plausFrom.getD u.now) else none } = _
    rw [sdu, rest .now (by decide)]
  · have none : frameSource u = none := by
      rw [frameSource, rest .opState (by decide), idle]
      rfl
    rw [plausRuns, none, Option.any_none, Bool.and_false]

/-- A re-formation starts no plausibility timer at another moment than its own. -/
theorem reform_plausFrom (fresh : s.sdu.plausFrom = none) :
    (reform s).sdu.plausFrom = none ∨ (reform s).sdu.plausFrom = some s.now := by
  obtain ⟨runs, sdu, -⟩ := reform_sdu s
  rw [sdu, fresh]
  cases runs
  · exact .inl rfl
  · exact .inr rfl

theorem queueEvent_inFlight (e : Event) (s : State) : (queueEvent e s).inFlight = s.inFlight :=
  queueEvent_frame e s .inFlight (by decide)

/-- A re-formation makes notices alone. -/
theorem reform_posts (s : State) : PostsOnly isNotice s (reform s) := by
  have closed : PostsOnly isNotice (writeSpeed s) (closingTest (writeSpeed s)) :=
    .of_same (closingTest_frame _ .inFlight (by decide))
  have qualified (u : State) : PostsOnly isNotice u (qualifyingTest u) :=
    .ite (fun _ => valueWrite_posts _ _ _ u) fun _ => .refl u
  exact (valueWrite_posts _ _ _ s).trans (closed.trans ((qualified _).trans (.of_same rfl)))

/-- The event of a re-formation: that of a calibration window it closes (R63). -/
theorem reform_queued (held : sendingHeld s = true) : Queued (closingEvents s (reform s)) s (reform s) := by
  have heldW : sendingHeld (writeSpeed s) = true := (writeSpeed_frame s .queues (by decide)).held held
  obtain ⟨events, overrun⟩ := writeSpeed_frame s .events (by decide)
  have window : (writeSpeed s).sdu.windowOpen = s.sdu.windowOpen := writeSpeed_frame s .calWindow (by decide)
  have later : ChangesOnly (.plausibility :: writing) (closingTest (writeSpeed s)) (reform s) :=
    ((qualifyingTest_frame _).mono (by decide)).trans ((advancePlausibility_frame _).mono (by decide))
  obtain ⟨eventsL, overrunL⟩ := later .events (by decide)
  have speed : (reform s).slot vehicleSpeed = (writeSpeed s).slot vehicleSpeed := by
    rw [reform_slot, if_pos rfl, writeSpeed_slot, if_pos rfl]
  have closing := closingTest_queued heldW
  rw [window, ← speed, Queued, events, overrun] at closing
  rw [Queued, eventsL, overrunL]
  exact closing

theorem qualifiesCycle_iff (v : Int × Quality) (s : State) : qualifiesCycle v s = true ↔
    (s.opState = .run ∨ s.opState = .sweep) ∧ v.2.usable = true ∧ 1000 ≤ v.1 ∧ (s.slot driveCycle).value ≠ 1 := by
  simp [qualifiesCycle, live_iff, and_assoc]

/-- The two tests behind the write of VEHICLE_SPEED (R63, R78). -/
theorem reform_tested (s : State) : SpeedTested s (reform s) := by
  have speed : (reform s).slot vehicleSpeed = ⟨(effectiveSpeed s).1, (effectiveSpeed s).2, some s.now⟩ := by
    rw [reform_slot, if_pos rfl]
  have cycle := reform_slot s driveCycle
  rw [if_neg (by decide)] at cycle
  simp only [true_and] at cycle
  obtain ⟨runs, sdu, -⟩ := reform_sdu s
  have opState : (reform s).opState = s.opState := reform_frame s .opState (by decide)
  unfold SpeedTested
  simp only [speed, windowCloses, opState, ← qualifiesCycle_iff (effectiveSpeed s) s]
  refine ⟨?_, fun qualifies => ?_, fun stays => ?_⟩
  · rw [sdu, closesWindow]
    cases s.sdu.windowOpen <;> rfl
  · rw [cycle, if_pos qualifies]
  · rw [cycle, if_neg stays]

/-- The frame source in force, spelled out (R70). -/
theorem frameSource_eq_some {f : SlotRecord} : frameSource s = some f ↔
    ∃ i, (s.opState = .run ∨ s.opState = .sweep) ∧ frameSpeedSlot s = some i ∧ (s.slot i).quality.usable = true
      ∧ s.slot i = f := by
  unfold frameSource
  by_cases live : s.opState.live = true
  · simp [live, (live_iff _).1 live, Option.bind_eq_some_iff]
  · have idle : ¬(s.opState = .run ∨ s.opState = .sweep) := fun h => live ((live_iff _).2 h)
    simp [live, idle]

theorem pulseUsable_iff (s : State) :
    pulseUsable s = true ↔ (s.slot pulseSpeed).quality = .valid ∨ (s.slot pulseSpeed).quality = .limited := by
  simp [pulseUsable]

/-- A state that holds the effective speed of another with the same sources has its VEHICLE_SPEED formed. -/
theorem speedFormed_of (op : t.opState = s.opState) (cal : t.sdu.cal = s.sdu.cal)
    (implausible : t.sdu.implausible = s.sdu.implausible) (pulse : t.slot pulseSpeed = s.slot pulseSpeed)
    (outer : ∀ k : Slot, 12 ≤ k.val → t.slot k = s.slot k)
    (speed : ((t.slot vehicleSpeed).value, (t.slot vehicleSpeed).quality) = effectiveSpeed s) : SpeedFormed t := by
  obtain ⟨value, quality⟩ := Prod.ext_iff.1 speed
  simp only at value quality
  intro external
  have slotOf : frameSpeedSlot t = frameSpeedSlot s := by rw [frameSpeedSlot, frameSpeedSlot, cal]
  refine ⟨fun unusable => ?_, fun i here => ?_⟩
  · have source : frameSource s = none := by
      refine Option.eq_none_iff_forall_ne_some.2 fun f found => ?_
      obtain ⟨i, live, at_i, ok, -⟩ := frameSource_eq_some.1 found
      refine unusable i ⟨by rwa [op], slotOf.trans at_i, ?_⟩
      rwa [outer i (external i (slotOf.trans at_i))]
    show (t.slot vehicleSpeed).value = (t.slot pulseSpeed).value ∧ (t.slot vehicleSpeed).quality = _
    rw [value, quality, pulse, effectiveSpeed, source]
    exact ⟨rfl, rfl⟩
  · obtain ⟨live, at_i, ok⟩ := here
    have same : t.slot i = s.slot i := outer i (external i at_i)
    have source : frameSource s = some (s.slot i) :=
      frameSource_eq_some.2 ⟨i, by rwa [← op], slotOf.symm.trans at_i, by rwa [← same], rfl⟩
    have formed : effectiveSpeed s = if pulseUsable s then
        if s.sdu.implausible && decide ((s.slot pulseSpeed).value < (s.slot i).value)
        then ((s.slot i).value, (s.slot i).quality) else ((s.slot pulseSpeed).value, (s.slot pulseSpeed).quality)
        else ((s.slot i).value, .substituted) := by
      rw [effectiveSpeed, source]
    simp only [← pulseUsable_iff, value, quality, pulse, same, implausible, formed]
    refine ⟨fun good calm => ?_, fun good flagged below => ?_, fun bad => ?_⟩
    · have stays : ¬(s.sdu.implausible && decide ((s.slot pulseSpeed).value < (s.slot i).value)) = true := by
        rcases calm with h | h
        · simp [h]
        · simp [not_lt.2 h]
      rw [if_pos good, if_neg stays]
      exact ⟨rfl, rfl⟩
    · rw [if_pos good, if_pos (by simp [flagged, below])]
      exact ⟨rfl, rfl⟩
    · rw [if_neg bad]
      exact ⟨rfl, rfl⟩

/-- A re-formation forms VEHICLE_SPEED (R71). -/
theorem reform_formed (s : State) : SpeedFormed (reform s) := by
  have frame := reform_frame s
  obtain ⟨runs, sdu, -⟩ := reform_sdu s
  refine speedFormed_of (frame .opState (by decide)) (frame .calibration (by decide)) (by rw [sdu]) ?_ (fun k outer => ?_)
    ?_
  · rw [reform_slot, if_neg (by decide), if_neg (by simp [pulseSpeed, driveCycle])]
  · have inner : k ≠ vehicleSpeed ∧ k ≠ driveCycle := by
      constructor <;> rintro rfl <;> exact absurd outer (by decide)
    rw [reform_slot, if_neg inner.1, if_neg (fun h => inner.2 h.1)]
  · rw [reform_slot, if_pos rfl]

/-! ### The speed told of other states with the same registers -/

section
variable {s' t' : State}

theorem SpeedTested.of_outer (h : SpeedTested s t) (cycle : s.slot driveCycle = s'.slot driveCycle)
    (window : s.sdu.windowOpen = s'.sdu.windowOpen) (now : s.now = s'.now) (op : t'.opState = t.opState)
    (windowT : t'.sdu.windowOpen = t.sdu.windowOpen) (speedT : t'.slot vehicleSpeed = t.slot vehicleSpeed)
    (cycleT : t'.slot driveCycle = t.slot driveCycle) : SpeedTested s' t' := by
  unfold SpeedTested windowCloses at h ⊢
  simp only [op, windowT, speedT, cycleT, ← cycle, ← window, ← now]
  exact h

theorem SpeedFormed.of_outer (h : SpeedFormed t) (op : t'.opState = t.opState) (sdu : t'.sdu = t.sdu)
    (pulse : t'.slot pulseSpeed = t.slot pulseSpeed) (speed : t'.slot vehicleSpeed = t.slot vehicleSpeed)
    (outer : ∀ k : Slot, 12 ≤ k.val → t'.slot k = t.slot k) : SpeedFormed t' := by
  intro external
  have slotOf : frameSpeedSlot t' = frameSpeedSlot t := by rw [frameSpeedSlot, frameSpeedSlot, sdu]
  rw [slotOf] at external
  obtain ⟨without, within⟩ := h external
  simp only [op, slotOf, pulse, speed, sdu]
  refine ⟨fun none => without fun i here => ?_, fun i here => ?_⟩
  · obtain ⟨live, at_i, usable⟩ := here
    exact none i ⟨live, at_i, by rwa [outer i (external i at_i)]⟩
  · obtain ⟨live, at_i, usable⟩ := here
    rw [outer i (external i at_i)] at usable ⊢
    exact within i ⟨live, at_i, usable⟩

end

/-! ### The writes of rest (R65) -/

theorem restWrites_slot_other {k : Slot} (other : k ≠ pulseSpeed) (s : State) : (restWrites s).slot k = s.slot k := by
  have first (u : State) (p : Prop) [Decidable p] :
      (if p then valueWrite pulseSpeed 0 .valid u else u).slot k = u.slot k := by
    split
    · exact valueWrite_other other _ _ u
    · rfl
  unfold restWrites
  simp only
  split
  · exact first s _
  · rw [qualityWrite_other other, first]

/-- PULSE_SPEED stands at 0 with the quality of rest, written now where its quality was another. -/
theorem restWrites_pulse (s : State) : ((restWrites s).slot pulseSpeed).value = 0
    ∧ ((restWrites s).slot pulseSpeed).quality = restQuality s
    ∧ ((s.slot pulseSpeed).quality ≠ restQuality s → ((restWrites s).slot pulseSpeed).writtenAt = some s.now) := by
  set p := s.slot pulseSpeed with hp
  set u := if p.value ≠ 0 ∨ (restQuality s = .valid ∧ p.quality ≠ .valid) then valueWrite pulseSpeed 0 .valid s else s
    with hu
  have first : u.slot pulseSpeed
      = if p.value ≠ 0 ∨ (restQuality s = .valid ∧ p.quality ≠ .valid) then ⟨0, .valid, some s.now⟩ else p := by
    rw [hu]
    split
    · rw [valueWrite_internal_slot rfl, if_pos rfl]
    · rfl
  have now : u.now = s.now := by
    rw [hu]
    split
    · exact valueWrite_now _ _ _ s
    · rfl
  have eq : restWrites s = if restQuality s = .valid then u else qualityWrite pulseSpeed (restQuality s) u := rfl
  have zero : (u.slot pulseSpeed).value = 0 := by
    rw [first]
    split
    · rfl
    · rename_i h
      exact not_not.1 fun value => h (.inl value)
  rw [eq]
  split
  · rename_i valid
    rw [valid]
    refine ⟨zero, ?_, fun other => ?_⟩
    · rw [first]
      split
      · rfl
      · rename_i h
        exact not_not.1 fun quality => h (.inr ⟨valid, quality⟩)
    · rw [first, if_pos (.inr ⟨valid, other⟩)]
  · rw [qualityWrite_slot_self, now]
    exact ⟨zero, rfl, fun _ => rfl⟩

theorem restWrites_posts (s : State) : PostsOnly isNotice s (restWrites s) := by
  have first (p : Prop) [Decidable p] : PostsOnly isNotice s (if p then valueWrite pulseSpeed 0 .valid s else s) :=
    .ite (fun _ => valueWrite_posts _ _ _ s) fun _ => .refl s
  unfold restWrites
  simp only
  split
  · exact first _
  · exact (first _).trans (qualityWrite_posts _ _ _)

theorem restWrites_sdu (s : State) : (restWrites s).sdu = s.sdu := by
  have first (p : Prop) [Decidable p] : (if p then valueWrite pulseSpeed 0 .valid s else s).sdu = s.sdu := by
    split
    · exact putRecord_sdu _ _ s
    · rfl
  unfold restWrites
  simp only
  split
  · exact first _
  · exact (putRecord_sdu _ _ _).trans (first _)

theorem restQuality_eq (s : State) : restQuality s
    = if s.sdu.cal = none then .notAvailable else if s.lsc.senderFault then .lineFault else .valid := by
  cases h : s.sdu.cal <;> simp [restQuality, h]

end

end Sys2Proof.Machine
end

section
/-! PROOFS. PARK and the park delay: the part enters PARKED (R35, R55, R78, R79, R94, R111, R180). -/

namespace Sys2Proof.Machine

/-! ### The chime notices of an entry (R116) -/

theorem chimeNotices_withdrawals (i j : Fin 96) (c : Option (Fin 8)) (old new : WarnState) :
    (chimeNotices i c old new).count (.requestWithdrawal (.warning j))
      = if i = j ∧ c.isSome = true ∧ old = .onUnack ∧ new ≠ .onUnack then 1 else 0 := by
  cases c with
  | none => simp [chimeNotices]
  | some p =>
    by_cases before : old = .onUnack <;> by_cases after : new = .onUnack <;>
      simp [chimeNotices, before, after, List.count_singleton]

theorem chimeNotices_placings (i j : Fin 96) (c : Option (Fin 8)) (p : Fin 8) (old new : WarnState) :
    (chimeNotices i c old new).count (.requestPlacing (.warning j) p)
      = if i = j ∧ c = some p ∧ old ≠ .onUnack ∧ new = .onUnack then 1 else 0 := by
  cases c with
  | none => simp [chimeNotices]
  | some q =>
    by_cases before : old = .onUnack <;> by_cases after : new = .onUnack <;>
      simp [chimeNotices, before, after, List.count_singleton]

/-- The requests a warning entry makes of the chime generator. -/
def isWarningRequest : Instr → Bool
  | .requestPlacing (.warning _) _ | .requestWithdrawal (.warning _) => true
  | _ => false

theorem isWarningRequest_of_mem {i : Fin 96} {c : Option (Fin 8)} {old new : WarnState} {x : Instr}
    (h : x ∈ chimeNotices i c old new) : isWarningRequest x = true := by
  cases c with
  | none => simp [chimeNotices] at h
  | some p =>
    by_cases before : old = .onUnack <;> by_cases after : new = .onUnack <;> simp [chimeNotices, before, after] at h
      <;> rw [h] <;> rfl

/-- What the warning unit can send: notices of ACTIVE_WARNINGS and chime requests. -/
def isWarningArrival (c : Instr) : Bool := isNotice c || isWarningRequest c

theorem changeRun_posts (i : Fin 96) (r : WarnRun) (c : Option (Fin 8)) (b : Bool) (s : State) :
    PostsOnly isWarningArrival s (changeRun i r c b s) := by
  obtain ⟨l, notices, inFlight⟩ := changeRun_inFlight (i := i) (r := r) (c := c) (b := b) (s := s)
  refine ⟨_, inFlight.trans (List.append_assoc _ _ _), fun x member => ?_⟩
  rcases List.mem_append.1 member with h | h
  · simp [isWarningArrival, notices x h]
  · simp [isWarningArrival, isWarningRequest_of_mem h]

/-! ### The warning entries at the entry into PARKED (R111) -/

theorem parkedEntry_iff (e : WarnEntry) (s : State) : parkedEntry e s = true ↔ CarriedThroughParked e s := by
  have parked : parkedEntry e s = true ↔ EvaluatedNow e { s with opState := .parked } :=
    evaluatedNow_iff e { s with opState := .parked }
  rw [parked]
  simp only [EvaluatedNow, reduceCtorEq, false_or, true_and]
  rfl

theorem parkedEntry_eq {s t : State} (signals : t.sst.table = s.sst.table) (lines : t.lsc.table = s.lsc.table)
    (e : WarnEntry) : parkedEntry e t = parkedEntry e s := by
  simp only [parkedEntry, parkedSource, State.signal, signals, lines]

theorem carried_iff {s t : State} (signals : t.sst.table = s.sst.table) (lines : t.lsc.table = s.lsc.table)
    (e : WarnEntry) : CarriedThroughParked e t ↔ CarriedThroughParked e s := by
  rw [← parkedEntry_iff, ← parkedEntry_iff, parkedEntry_eq signals lines]

/-- A loaded entry that is put in OFF at the entry into PARKED. -/
def leavesAtPark (s : State) (i : Fin 96) : Bool := (warnEntry i s).any fun e => !parkedEntry e s

/-- The entry is put in OFF out of another state, which its event tells. -/
def tellsAtPark (s : State) (i : Fin 96) : Bool :=
  leavesAtPark s i && (warnEnabled i s && decide ((warnRun i s).state ≠ .off))

/-- The entry is put in OFF out of ON_UNACK and withdraws its chime request. -/
def withdrawsAtPark (s : State) (i : Fin 96) : Bool :=
  leavesAtPark s i && (((warnEntry i s).bind WarnEntry.chime).isSome && decide ((warnRun i s).state = .onUnack))

theorem leavesAtPark_iff {s : State} {i : Fin 96} {e : WarnEntry} (entry : warnEntry i s = some e) :
    leavesAtPark s i = true ↔ ¬CarriedThroughParked e s := by
  rw [leavesAtPark, entry, Option.any_some, ← parkedEntry_iff]
  simp

theorem parkEntry_eq (s : State) (i : Fin 96) : parkEntry s i
    = if leavesAtPark s i then changeRun i (putOff (warnRun i s)) ((warnEntry i s).bind WarnEntry.chime)
        (warnEnabled i s && decide ((warnRun i s).state ≠ .off)) s
      else s := by
  unfold parkEntry leavesAtPark
  cases entry : warnEntry i s with
  | none => rfl
  | some e => cases carried : parkedEntry e s <;> simp [carried, warnEnabled, entry]

theorem parkEntry_frame (s : State) (i : Fin 96) : ChangesOnly warning s (parkEntry s i) := by
  rw [parkEntry_eq]
  exact .ite (fun _ => changeRun_frame _ _ _ _ s) fun _ => .refl _ s

theorem unjoined_putOff {r r' : WarnRun} (h : unjoined r = unjoined r') :
    unjoined (putOff r) = unjoined (putOff r') := by
  have observed := congrArg WarnRun.observed h
  simp only [unjoined, putOff] at observed ⊢
  rw [observed]

theorem fields_of_unjoined {r r' : WarnRun} (h : unjoined r = unjoined r') : r.state = r'.state ∧ r.timer = r'.timer
    ∧ r.truth = r'.truth ∧ r.unknown = r'.unknown ∧ r.cond = r'.cond ∧ r.observed = r'.observed := by
  cases r
  cases r'
  simp only [unjoined, WarnRun.mk.injEq] at h
  simp [h]

/-- The parts of a run-time state that an entry put in OFF is left with. -/
theorem off_of_putOff {r r' : WarnRun} (h : unjoined r = unjoined (putOff r')) : r.state = .off ∧ r.timer = none
    ∧ r.truth = none ∧ r.unknown = false ∧ r.cond = false ∧ r.observed = r'.observed :=
  fields_of_unjoined (r' := putOff r') h

theorem parkEntry_run (s : State) (i j : Fin 96) : unjoined (warnRun j (parkEntry s i))
    = if j = i ∧ leavesAtPark s j = true then unjoined (putOff (warnRun j s)) else unjoined (warnRun j s) := by
  rw [parkEntry_eq]
  by_cases same : j = i
  · subst same
    by_cases leaves : leavesAtPark s j = true
    · rw [if_pos leaves, changeRun_run, if_pos rfl, if_pos ⟨rfl, leaves⟩]
    · rw [if_neg leaves, if_neg (not_and_of_not_right _ leaves)]
  · rw [if_neg (not_and_of_not_left (leavesAtPark s j = true) same)]
    split
    · rw [changeRun_run, if_neg same]
    · rfl

section
variable {s t : State}

theorem leavesAtPark_eq (frame : ChangesOnly warning s t) (j : Fin 96) : leavesAtPark t j = leavesAtPark s j := by
  have parked (e : WarnEntry) : parkedEntry e t = parkedEntry e s :=
    parkedEntry_eq (frame .signalTable (by decide)) (frame .lineTable (by decide)) e
  simp only [leavesAtPark, warnEntry_eq (frame .warnTable (by decide)), parked]

theorem tellsAtPark_eq (frame : ChangesOnly warning s t) {j : Fin 96}
    (run : unjoined (warnRun j t) = unjoined (warnRun j s)) : tellsAtPark t j = tellsAtPark s j := by
  rw [tellsAtPark, tellsAtPark, leavesAtPark_eq frame, warnEnabled, warnEnabled,
    warnEntry_eq (frame .warnTable (by decide)), state_of_unjoined run]

theorem withdrawsAtPark_eq (frame : ChangesOnly warning s t) {j : Fin 96}
    (run : unjoined (warnRun j t) = unjoined (warnRun j s)) : withdrawsAtPark t j = withdrawsAtPark s j := by
  rw [withdrawsAtPark, withdrawsAtPark, leavesAtPark_eq frame, warnEntry_eq (frame .warnTable (by decide)),
    state_of_unjoined run]

end

/-- Every listed entry outside the parked set is put in OFF, and no other entry moves. -/
theorem parkEntries_run (l : List (Fin 96)) (s : State) (j : Fin 96) : unjoined (warnRun j (l.foldl parkEntry s))
    = if j ∈ l ∧ leavesAtPark s j = true then unjoined (putOff (warnRun j s)) else unjoined (warnRun j s) := by
  induction l generalizing s with
  | nil => simp
  | cons i l ih =>
    have step := parkEntry_run s i j
    rw [List.foldl_cons, ih, leavesAtPark_eq (parkEntry_frame s i)]
    by_cases moved : j = i ∧ leavesAtPark s j = true
    · rw [if_pos moved] at step
      have listed : j ∈ i :: l ∧ leavesAtPark s j = true := ⟨List.mem_cons.2 (.inl moved.1), moved.2⟩
      rw [step, unjoined_putOff step, if_pos listed]
      exact ite_self _
    · rw [if_neg moved] at step
      rw [step, unjoined_putOff step]
      refine if_congr ?_ rfl rfl
      simp only [List.mem_cons]
      tauto

theorem parkEntry_withdrawals (s : State) (i j : Fin 96) :
    (parkEntry s i).inFlight.count (.requestWithdrawal (.warning j))
      = s.inFlight.count (.requestWithdrawal (.warning j)) + if i = j ∧ withdrawsAtPark s j = true then 1 else 0 := by
  rw [parkEntry_eq]
  by_cases leaves : leavesAtPark s i = true
  · rw [if_pos leaves, changeRun_count rfl, chimeNotices_withdrawals]
    congr 1
    refine if_congr (and_congr_right fun same => ?_) rfl rfl
    subst same
    simp [withdrawsAtPark, leaves, putOff]
  · rw [if_neg leaves, if_neg, Nat.add_zero]
    rintro ⟨rfl, withdraws⟩
    simp [withdrawsAtPark, leaves] at withdraws

/-- Each entry that leaves ON_UNACK withdraws its chime request once. -/
theorem parkEntries_withdrawals (l : List (Fin 96)) (distinct : l.Nodup) (s : State) (j : Fin 96) :
    (l.foldl parkEntry s).inFlight.count (.requestWithdrawal (.warning j))
      = s.inFlight.count (.requestWithdrawal (.warning j)) + if j ∈ l ∧ withdrawsAtPark s j = true then 1 else 0 := by
  induction l generalizing s with
  | nil => simp
  | cons i l ih =>
    obtain ⟨apart, rest⟩ := List.nodup_cons.1 distinct
    rw [List.foldl_cons, ih rest, parkEntry_withdrawals]
    by_cases first : i = j
    · subst first
      simp [apart]
    · have run : unjoined (warnRun j (parkEntry s i)) = unjoined (warnRun j s) := by
        rw [parkEntry_run, if_neg fun h => first h.1.symm]
      simp [first, Ne.symm first, withdrawsAtPark_eq (parkEntry_frame s i) run]

theorem parkEntry_listFollowed {s : State} (h : ListFollowed s) (i : Fin 96) : ListFollowed (parkEntry s i) := by
  rw [parkEntry_eq]
  split
  · exact changeRun_listFollowed h
  · exact h

theorem parkEntries_listFollowed (l : List (Fin 96)) {s : State} (h : ListFollowed s) :
    ListFollowed (l.foldl parkEntry s) := by
  induction l generalizing s with
  | nil => exact h
  | cons i l ih => exact ih (parkEntry_listFollowed h i)

theorem parkEntries_slot (l : List (Fin 96)) (s : State) {k : Slot} (other : k ≠ activeWarnings) :
    (l.foldl parkEntry s).slot k = s.slot k := by
  induction l generalizing s with
  | nil => rfl
  | cons i l ih =>
    rw [List.foldl_cons, ih, parkEntry_eq]
    split
    · rw [changeRun_slot, if_neg fun h => other h.1]
    · rfl

theorem parkEntries_posts (l : List (Fin 96)) (s : State) : PostsOnly isWarningArrival s (l.foldl parkEntry s) := by
  refine PostsOnly.foldl (fun s i => ?_) l s
  rw [parkEntry_eq]
  exact .ite (fun _ => changeRun_posts _ _ _ _ s) fun _ => .refl s

/-- The event of an entry put in OFF: it is not the top warning (R107). -/
theorem ownEvent_of_off {i : Fin 96} {t : State} {r : WarnRun} (run : unjoined (warnRun i t) = unjoined (putOff r)) :
    ownEvent i t = .warning i .off false false := by
  have state : (warnRun i t).state = .off := state_of_unjoined run
  have unknown : (warnRun i t).unknown = false := congrArg (fun r : WarnRun => r.unknown) run
  have below : topWarning t ≠ some i := fun top => by
    have member := (mem_activeList i t).1 (List.mem_of_mem_head? top)
    simp [inActiveList, state, WarnState.inList] at member
  rw [ownEvent, state, unknown, decide_eq_false below]

theorem parkEntry_queued {s : State} (held : sendingHeld s = true) (i : Fin 96) :
    ∃ es, Queued es s (parkEntry s i) ∧ (tellsAtPark s i = true → .warning i .off false false ∈ es) := by
  by_cases tells : tellsAtPark s i = true
  · obtain ⟨leaves, told⟩ := Bool.and_eq_true_iff.1 tells
    have run := parkEntry_run s i i
    rw [if_pos ⟨rfl, leaves⟩] at run
    rw [parkEntry_eq, if_pos leaves] at run ⊢
    obtain ⟨more, queued⟩ := changeRun_queued (i := i) (r := putOff (warnRun i s))
      (c := (warnEntry i s).bind WarnEntry.chime) held told
    rw [ownEvent_of_off run] at queued
    exact ⟨_, queued, fun _ => List.mem_cons_self⟩
  · obtain ⟨-, -, -, es, queued⟩ := (parkEntry_frame s i .queues (by decide)).grows held
    exact ⟨es, queued, fun h => absurd h tells⟩

/-- The events of the entries put in OFF. -/
theorem parkEntries_queued (l : List (Fin 96)) {s : State} (held : sendingHeld s = true) :
    ∃ es, Queued es s (l.foldl parkEntry s) ∧ ∀ j ∈ l, tellsAtPark s j = true → .warning j .off false false ∈ es := by
  induction l generalizing s with
  | nil => exact ⟨[], .nil s, by simp⟩
  | cons i l ih =>
    obtain ⟨es, first, own⟩ := parkEntry_queued held i
    obtain ⟨fs, later, others⟩ := ih ((parkEntry_frame s i .queues (by decide)).held held)
    refine ⟨es ++ fs, first.append later, fun j member tells => List.mem_append.2 ?_⟩
    by_cases same : j = i
    · subst same
      exact .inl (own tells)
    · have run : unjoined (warnRun j (parkEntry s i)) = unjoined (warnRun j s) := by
        rw [parkEntry_run, if_neg fun h => same h.1]
      refine .inr (others j ((List.mem_cons.1 member).resolve_left same) ?_)
      rwa [tellsAtPark_eq (parkEntry_frame s i) run]

/-! ### The frame path at the entry into PARKED (R35) -/

theorem mem_indexed_entry {n : Nat} {α : Type} (table : Vector (Option α) n) (index : Nat) (test : α → Bool) :
    (((toFin? n index).bind fun i => table[i]).any test = true)
      ↔ ∃ (i : Fin n) (e : α), index = i.val ∧ table[i] = some e ∧ test e = true := by
  by_cases fits : index < n
  · simp only [toFin?, fits, dite_true, Option.bind_some, Option.any_eq_true]
    constructor
    · rintro ⟨e, entry, passes⟩
      exact ⟨⟨index, fits⟩, e, rfl, entry, passes⟩
    · rintro ⟨i, e, rfl, entry, passes⟩
      exact ⟨e, entry, passes⟩
  · simp only [toFin?, fits, dite_false, Option.bind_none, Option.any_none, Bool.false_eq_true, false_iff]
    rintro ⟨i, e, rfl, -⟩
    exact fits i.isLt

/-- A slot that a frame entry with a timeout produces. -/
def TimedSlot (k : Slot) (s : State) : Prop :=
  12 ≤ k.val ∧ ∃ (g : SignalEntry) (i : Fin 64) (e : FrameEntry),
    s.signal k = some g ∧ g.kind = .frame ∧ g.index = i.val ∧ s.frp.table[i] = some e ∧ e.timeout ≠ 0

/-- The good slots of timed entries turn STALE, and no other slot changes. -/
theorem frpEnterParked_slot (s : State) (k : Slot) :
    (TimedSlot k s → (s.slot k).quality = .valid ∨ (s.slot k).quality = .limited →
      (frpEnterParked s).slot k = ⟨(s.slot k).value, .stale, some s.now⟩)
    ∧ (¬(TimedSlot k s ∧ ((s.slot k).quality = .valid ∨ (s.slot k).quality = .limited)) →
      (frpEnterParked s).slot k = s.slot k) := by
  set timed := slotsWith (fun g => decide (g.kind = .frame) && ((toFin? 64 g.index).bind fun i => s.frp.table[i]).any
    fun e => decide (e.timeout ≠ 0)) s
  have member : k ∈ timed ↔ TimedSlot k s := by
    simp only [timed, mem_slotsWith, Bool.and_eq_true, decide_eq_true_eq, mem_indexed_entry, TimedSlot]
    simp only [isInternal, decide_eq_false_iff_not, Nat.not_lt]
    constructor
    · rintro ⟨outer, g, entry, kind, i, e, index, loaded, timeout⟩
      exact ⟨outer, g, i, e, entry, kind, index, loaded, timeout⟩
    · rintro ⟨outer, g, i, e, entry, kind, index, loaded, timeout⟩
      exact ⟨outer, g, entry, kind, i, e, index, loaded, timeout⟩
  set u : State := { s with frp := { s.frp with run := mapTable (fun r => { r with timer := .stopped }) s.frp.run } }
  have slot : (frpEnterParked s).slot k = if k ∈ timed ∧ ((s.slot k).quality = .valid ∨ (s.slot k).quality = .limited)
      then ⟨(s.slot k).value, .stale, some s.now⟩ else s.slot k := by
    show (timed.foldl staleAtPark u).slot k = _
    rw [staleAtPark_eq]
    refine (staleSlots_slot _ timed u k).trans (if_congr ?_ rfl rfl)
    rw [decide_eq_true_eq]
    rfl
  exact ⟨fun h good => slot.trans (if_pos ⟨member.2 h, good⟩),
    fun h => slot.trans (if_neg fun ⟨timedSlot, good⟩ => h ⟨member.1 timedSlot, good⟩)⟩

theorem frpEnterParked_posts (s : State) : PostsOnly isNotice s (frpEnterParked s) := by
  unfold frpEnterParked
  simp only
  rw [staleAtPark_eq]
  exact (PostsOnly.of_same rfl).trans (PostsOnly.foldl (fun s k => staleWhere_posts _ s k) _ _)

theorem frpEnterParked_run (s : State) (i : Fin 64) : frameRun i (frpEnterParked s) = { frameRun i s with timer := .stopped } := by
  unfold frpEnterParked
  simp only
  rw [staleAtPark_eq]
  have runs (l : List Slot) (u : State) : (l.foldl (staleWhere fun q => decide (q = .valid ∨ q = .limited)) u).frp.run
      = u.frp.run := ChangesOnly.foldl (fun s k => staleWhere_frame _ s k) l u .frameRuns (by decide)
  rw [frameRun, runs]
  exact mapTable_getElem _ _ _

/-! ### The speed unit at the entry into PARKED (R78, R79) -/

section
variable {s : State}

/-- The measurement stopped, PULSE_SPEED at rest. -/
def speedAtRest (s : State) : State := restWrites (stopMeasurement { s with sdu := { s.sdu with plausFrom := none } })

theorem speedAtRest_frame (s : State) :
    ChangesOnly (.measurement :: .plausibility :: writing) s (speedAtRest s) := by
  have timer : ChangesOnly [.plausibility] s { s with sdu := { s.sdu with plausFrom := none } } := by
    intro p hp
    cases p <;> first | exact OnlyQueues.of_same rfl rfl rfl rfl rfl | simp [Piece.kept] at hp ⊢
  exact (timer.mono (by decide)).trans (((stopMeasurement_frame _).mono (by decide)).trans
    ((restWrites_frame _).mono (by decide)))

theorem speedAtRest_slot {k : Slot} (other : k ≠ pulseSpeed) : (speedAtRest s).slot k = s.slot k :=
  restWrites_slot_other other _

theorem speedAtRest_pulse : ((speedAtRest s).slot pulseSpeed).value = 0
    ∧ ((speedAtRest s).slot pulseSpeed).quality = restQuality s := by
  obtain ⟨value, quality, -⟩ :=
    restWrites_pulse (stopMeasurement { s with sdu := { s.sdu with plausFrom := none } })
  exact ⟨value, quality⟩

theorem speedAtRest_sdu : (speedAtRest s).sdu = { s.sdu with
    meas := .stopped, boundDue := none, standFrom := none, plausFrom := none } := restWrites_sdu _

theorem live_of_parked (parked : s.opState = .parked) : s.opState.live = false := by rw [parked]; rfl

theorem effectiveSpeed_parked (parked : s.opState = .parked) :
    effectiveSpeed s = ((s.slot pulseSpeed).value, (s.slot pulseSpeed).quality) := by
  rw [effectiveSpeed, frameSource, live_of_parked parked]
  rfl

theorem effectiveSpeed_atRest (parked : s.opState = .parked) :
    effectiveSpeed (speedAtRest s) = (0, restQuality s) := by
  have still : (speedAtRest s).opState = .parked := (speedAtRest_frame s .opState (by decide)).trans parked
  rw [effectiveSpeed_parked still, speedAtRest_pulse.1, speedAtRest_pulse.2]

theorem sduEnterParked_eq (s : State) : sduEnterParked s = endDriveCycle (reform (speedAtRest s)) := rfl

theorem endDriveCycle_slot (s : State) (k : Slot) :
    (endDriveCycle s).slot k = if k = driveCycle then ⟨0, .valid, some s.now⟩ else s.slot k := by
  unfold endDriveCycle
  simp only
  split
  · exact valueWrite_internal_slot rfl _ _ s k
  · exact valueWrite_internal_slot rfl _ _ s k

theorem endDriveCycle_sdu (s : State) : (endDriveCycle s).sdu = s.sdu := by
  unfold endDriveCycle
  simp only
  split
  · exact putRecord_sdu _ _ s
  · exact putRecord_sdu _ _ s

theorem endDriveCycle_count {x : Instr} (notice : isNotice x = false) : (endDriveCycle s).inFlight.count x
    = s.inFlight.count x + if x = .agingPass ∧ (s.slot driveCycle).value = 1 then 1 else 0 := by
  have written := (valueWrite_posts driveCycle 0 .valid s).count notice
  unfold endDriveCycle
  simp only
  split
  · rename_i qualified
    rw [post_inFlight, List.count_append, written]
    by_cases same : x = .agingPass
    · simp [same, qualified]
    · simp [same, List.count_eq_zero.2 (mt List.mem_singleton.1 same)]
  · rename_i other
    rw [written]
    simp [other]

theorem sduEnterParked_speeds (parked : s.opState = .parked) :
    ((sduEnterParked s).slot pulseSpeed).value = 0 ∧ ((sduEnterParked s).slot pulseSpeed).quality = restQuality s
    ∧ (sduEnterParked s).slot vehicleSpeed = ⟨0, restQuality s, some s.now⟩
    ∧ (sduEnterParked s).slot driveCycle = ⟨0, .valid, some s.now⟩ := by
  have now : (reform (speedAtRest s)).now = s.now :=
    (reform_frame _ .now (by decide)).trans (speedAtRest_frame s .now (by decide))
  rw [sduEnterParked_eq, endDriveCycle_slot, if_neg (by decide), endDriveCycle_slot, if_neg (by decide),
    endDriveCycle_slot, if_pos rfl, reform_slot, if_neg (by decide), if_neg (by simp [pulseSpeed, driveCycle]),
    reform_slot, if_pos rfl, effectiveSpeed_atRest parked, now, speedAtRest_frame s .now (by decide)]
  exact ⟨speedAtRest_pulse.1, speedAtRest_pulse.2, rfl, rfl⟩

theorem sduEnterParked_slot {k : Slot} (other : k ≠ pulseSpeed ∧ k ≠ vehicleSpeed ∧ k ≠ driveCycle) :
    (sduEnterParked s).slot k = s.slot k := by
  obtain ⟨pulse, speed, cycle⟩ := other
  rw [sduEnterParked_eq, endDriveCycle_slot, if_neg cycle, reform_slot, if_neg speed, if_neg fun h => cycle h.1,
    speedAtRest_slot pulse]

theorem sduEnterParked_sdu (parked : s.opState = .parked) : (sduEnterParked s).sdu = { s.sdu with
    meas := .stopped, boundDue := none, standFrom := none, plausFrom := none } := by
  have still : (speedAtRest s).opState = .parked := (speedAtRest_frame s .opState (by decide)).trans parked
  obtain ⟨runs, sdu, idle⟩ := reform_sdu (speedAtRest s)
  rw [sduEnterParked_eq, endDriveCycle_sdu, sdu, idle (live_of_parked still), effectiveSpeed_atRest parked,
    speedAtRest_sdu]
  simp [closesWindow]

theorem sduEnterParked_count (parked : s.opState = .parked) {x : Instr} (notice : isNotice x = false) :
    (sduEnterParked s).inFlight.count x
      = s.inFlight.count x + if x = .agingPass ∧ (s.slot driveCycle).value = 1 then 1 else 0 := by
  have rest : (speedAtRest s).inFlight.count x = s.inFlight.count x := (restWrites_posts _).count notice
  have cycle : (reform (speedAtRest s)).slot driveCycle = s.slot driveCycle := by
    have still : (speedAtRest s).opState = .parked := (speedAtRest_frame s .opState (by decide)).trans parked
    rw [reform_slot, if_neg (by decide), if_neg, speedAtRest_slot (by decide)]
    rintro ⟨-, qualifies⟩
    simp [qualifiesCycle, live_of_parked still] at qualifies
  rw [sduEnterParked_eq, endDriveCycle_count notice, (reform_posts _).count notice, rest, cycle]

end

end Sys2Proof.Machine
end

section
/-! PROOFS. PARK and the park delay: the blocks one behind the other (R180). -/

namespace Sys2Proof.Machine

/-- The end of a test outside RUN, with no chime request to withdraw, releases nothing else. -/
theorem endTest_released {s : State} (idle : s.opState ≠ .run) (silent : s.chg.requests = []) :
    ChangesOnly [.wsTest] s (endTest s) := by
  have stop : ChangesOnly [.wsTest] s { s with wsp := { s.wsp with test := none, testDue := none } } := by
    intro p hp
    cases p <;> first | exact OnlyQueues.of_same rfl rfl rfl rfl rfl | simp [Piece.kept] at hp ⊢
  unfold endTest
  simp only
  split
  · exact .refl _ s
  · exact stop
  · rw [gdrEndTest, if_neg fun h => idle h.2]
    exact stop
  · rw [withdraw, if_neg (by simp [requestOf, silent])]
    exact stop

/-- Events that stay in the queue. -/
theorem Queued.of_same {es : List Event} {s t u : State} (h : Queued es s t) (events : u.cli.events = t.cli.events)
    (overrun : u.cli.overrun = t.cli.overrun) : Queued es s u := by
  rw [Queued, events, overrun]
  exact h

/-! ### The stages of the entry into PARKED -/

theorem gdrEnterParked_frame (s : State) : ChangesOnly [.sweepPhase] s (gdrEnterParked s) := setPhase_frame none s

theorem gdrEnterParked_phase (s : State) : (gdrEnterParked s).gdr.sweepPhase = none := rfl

theorem lscEnterParked_passDue (s : State) : (lscEnterParked s).lsc.passDue = some (s.now + 100000) := rfl

/-- The outputs behind the warning unit: no chime request, no portal's mark, no test (R128, R142, R193). -/
def releaseOutputs (s : State) : State := endTest (drmEnterParked (clearRequests s))

section
variable {s : State}

theorem releaseOutputs_test_frame (parked : s.opState = .parked) :
    ChangesOnly [.wsTest] (drmEnterParked (clearRequests s)) (releaseOutputs s) := by
  have idle : (drmEnterParked (clearRequests s)).opState ≠ .run := by
    show s.opState ≠ .run
    simp [parked]
  exact endTest_released idle rfl

theorem releaseOutputs_frame (parked : s.opState = .parked) :
    ChangesOnly [.wsTest, .requests, .playing, .portals] s (releaseOutputs s) :=
  ((clearRequests_frame s).mono (by decide)).trans (((drmEnterParked_frame _).mono (by decide)).trans
    ((releaseOutputs_test_frame parked).mono (by decide)))

theorem releaseOutputs_released (parked : s.opState = .parked) : (releaseOutputs s).chg.requests = []
    ∧ (releaseOutputs s).chg.playing = none ∧ (∀ p, (portalRun p (releaseOutputs s)).held = false)
    ∧ (releaseOutputs s).wsp.test = none := by
  have released := releaseOutputs_test_frame parked
  refine ⟨(released .requests (by decide)).1, released .playing (by decide), fun p => ?_, endTest_test _⟩
  have portals := released .portals (by decide)
  rw [portalRun, portals]
  exact congrArg PortalRun.held (mapTable_getElem (fun r : PortalRun => { r with held := false }) s.drm.portals p)

end

/-- The part behind the frame path's entry into PARKED. -/
def parkedFrames (cause : StateCause) (s : State) : State :=
  frpEnterParked (dropSweepReport (setOpState .parked cause s))

/-- Behind the scanner, the speed unit and the gauge drive. -/
def parkedSpeed (cause : StateCause) (s : State) : State :=
  gdrEnterParked (sduEnterParked (lscEnterParked (parkedFrames cause s)))

/-- Behind the warning unit. -/
def parkedWarnings (cause : StateCause) (s : State) : State := wrnEnterParked (parkedSpeed cause s)

theorem enterParked_eq (cause : StateCause) (s : State) :
    enterParked cause s = releaseOutputs (parkedWarnings cause s) := rfl

section
variable (cause : StateCause) (s : State)

theorem setOpState_opState (st : OpState) : (setOpState st cause s).opState = st :=
  queueEvent_frame (.state st cause) { s with opState := st, cli := { s.cli with parkDue := none } } .opState (by decide)

theorem setOpState_parkDue (st : OpState) : (setOpState st cause s).cli.parkDue = none :=
  queueEvent_frame (.state st cause) { s with opState := st, cli := { s.cli with parkDue := none } } .parkDelay
    (by decide)

theorem setOpState_queued {s : State} (held : sendingHeld s = true) (st : OpState) :
    Queued [.state st cause] s (setOpState st cause s) :=
  queueEvent_queued (s := { s with opState := st, cli := { s.cli with parkDue := none } }) held _

theorem parkedFrames_frame : ChangesOnly (.opState :: .parkDelay :: .arrivals :: .frameRuns :: writing ++ sending) s
    (parkedFrames cause s) :=
  ((setOpState_frame .parked cause s).mono (by decide)).trans
    (((dropSweepReport_frame _).mono (by decide)).trans ((frpEnterParked_frame _).mono (by decide)))

theorem frpToSpeed_frame : ChangesOnly (.scanPlay :: .sweepPhase :: measuring) (parkedFrames cause s)
    (parkedSpeed cause s) :=
  ((lscEnterParked_frame _).mono (by decide)).trans
    (((sduEnterParked_frame _).mono (by decide)).trans ((gdrEnterParked_frame _).mono (by decide)))

theorem parkedSpeed_frame : ChangesOnly (.opState :: .parkDelay :: .arrivals :: .frameRuns :: .scanPlay :: .sweepPhase
    :: measuring) s (parkedSpeed cause s) :=
  ((parkedFrames_frame cause s).mono (by decide)).trans ((frpToSpeed_frame cause s).mono (by decide))

theorem parkedWarnings_frame : ChangesOnly warning (parkedSpeed cause s) (parkedWarnings cause s) :=
  wrnEnterParked_frame _

theorem parkedWarnings_eq : parkedWarnings cause s = (indices 96).foldl parkEntry (parkedSpeed cause s) := rfl

theorem parkedSpeed_phase : (parkedSpeed cause s).gdr.sweepPhase = none := gdrEnterParked_phase _

theorem parkedFrames_opState : (parkedFrames cause s).opState = .parked :=
  (frpEnterParked_frame _ .opState (by decide)).trans (setOpState_opState cause s .parked)

theorem parkedWarnings_opState : (parkedWarnings cause s).opState = .parked :=
  (parkedWarnings_frame cause s .opState (by decide)).trans
    ((frpToSpeed_frame cause s .opState (by decide)).trans (parkedFrames_opState cause s))

/-- What comes behind the warning unit. -/
theorem enterParked_tail :
    ChangesOnly [.wsTest, .requests, .playing, .portals] (parkedWarnings cause s) (enterParked cause s) :=
  releaseOutputs_frame (parkedWarnings_opState cause s)

theorem enterParked_outputs : (enterParked cause s).chg.requests = [] ∧ (enterParked cause s).chg.playing = none
    ∧ (∀ p, (portalRun p (enterParked cause s)).held = false) ∧ (enterParked cause s).wsp.test = none := by
  rw [enterParked_eq]
  exact releaseOutputs_released (parkedWarnings_opState cause s)

/-! ### The slots -/

theorem beforeFrames_same (k : Slot) :
    ((dropSweepReport (setOpState .parked cause s)).slot k = s.slot k)
      ∧ (TimedSlot k (dropSweepReport (setOpState .parked cause s)) ↔ TimedSlot k s)
      ∧ (dropSweepReport (setOpState .parked cause s)).now = s.now := by
  have frame := ((setOpState_frame .parked cause s).mono (qs := .opState :: .parkDelay :: .inFlight :: .arrivals :: sending)
    (by decide)).trans ((dropSweepReport_frame _).mono (by decide))
  refine ⟨frame.slot (by decide) k, ?_, frame .now (by decide)⟩
  simp only [TimedSlot, frame.signal (by decide) k]
  rw [frame .frameTable (by decide)]

theorem parkedFrames_slot (k : Slot) :
    (TimedSlot k s → (s.slot k).quality = .valid ∨ (s.slot k).quality = .limited →
      (parkedFrames cause s).slot k = ⟨(s.slot k).value, .stale, some s.now⟩)
    ∧ (¬(TimedSlot k s ∧ ((s.slot k).quality = .valid ∨ (s.slot k).quality = .limited)) →
      (parkedFrames cause s).slot k = s.slot k) := by
  have marked := frpEnterParked_slot (dropSweepReport (setOpState .parked cause s)) k
  obtain ⟨slot, timed, now⟩ := beforeFrames_same cause s k
  rw [slot, timed, now] at marked
  exact marked

theorem parkedFrames_inner {k : Slot} (inner : k.val < 12) : (parkedFrames cause s).slot k = s.slot k :=
  (parkedFrames_slot cause s k).2 fun h => absurd h.1.1 (Nat.not_le.2 inner)

theorem parkedSpeed_slot (k : Slot) :
    (parkedSpeed cause s).slot k = (sduEnterParked (lscEnterParked (parkedFrames cause s))).slot k :=
  (gdrEnterParked_frame _).slot (by decide) k

theorem enterParked_slot {k : Slot} (other : k ≠ pulseSpeed ∧ k ≠ vehicleSpeed ∧ k ≠ driveCycle ∧ k ≠ activeWarnings) :
    (enterParked cause s).slot k = (parkedFrames cause s).slot k := by
  obtain ⟨pulse, speed, cycle, length⟩ := other
  rw [(enterParked_tail cause s).slot (by decide), parkedWarnings_eq, parkEntries_slot _ _ length]
  rw [parkedSpeed_slot, sduEnterParked_slot ⟨pulse, speed, cycle⟩, (lscEnterParked_frame _).slot (by decide)]

/-- The speeds and the drive cycle behind the entry. -/
theorem enterParked_speeds :
    ((enterParked cause s).slot pulseSpeed).value = 0
    ∧ ((enterParked cause s).slot pulseSpeed).quality
      = (if s.sdu.cal = none then .notAvailable else if s.lsc.senderFault then .lineFault else .valid)
    ∧ (enterParked cause s).slot vehicleSpeed
      = ⟨0, ((enterParked cause s).slot pulseSpeed).quality, some s.now⟩
    ∧ (enterParked cause s).slot driveCycle = ⟨0, .valid, some s.now⟩ := by
  have kept {k : Slot} (other : k ≠ activeWarnings) : (enterParked cause s).slot k
      = (sduEnterParked (lscEnterParked (parkedFrames cause s))).slot k := by
    rw [(enterParked_tail cause s).slot (by decide), parkedWarnings_eq, parkEntries_slot _ _ other, parkedSpeed_slot]
  have frame := (parkedFrames_frame cause s).comp (lscEnterParked_frame _)
    (rs := .opState :: .parkDelay :: .arrivals :: .frameRuns :: .scanPlay :: writing ++ sending) (by decide) (by decide)
  obtain ⟨value, quality, speed, cycle⟩ := sduEnterParked_speeds (s := lscEnterParked (parkedFrames cause s))
    ((lscEnterParked_frame _ .opState (by decide)).trans (parkedFrames_opState cause s))
  rw [restQuality_eq, frame .calibration (by decide), frame .senderFault (by decide)] at quality
  rw [restQuality_eq, frame .calibration (by decide), frame .senderFault (by decide), frame .now (by decide)] at speed
  rw [frame .now (by decide)] at cycle
  rw [kept (by decide), kept (by decide), kept (by decide), quality]
  exact ⟨value, rfl, speed, cycle⟩

/-- The speed unit's registers behind the entry. -/
theorem enterParked_measurement :
    (enterParked cause s).sdu.meas = .stopped ∧ (enterParked cause s).sdu.boundDue = none
    ∧ (enterParked cause s).sdu.standFrom = none ∧ (enterParked cause s).sdu.plausFrom = none
    ∧ (enterParked cause s).sdu.plausPresent = s.sdu.plausPresent := by
  have later : ChangesOnly (.sweepPhase :: .wsTest :: .requests :: .playing :: .portals :: warning)
      (sduEnterParked (lscEnterParked (parkedFrames cause s))) (enterParked cause s) :=
    ((gdrEnterParked_frame _).mono (by decide)).trans
      (((parkedWarnings_frame cause s).mono (by decide)).trans ((enterParked_tail cause s).mono (by decide)))
  have frame := (parkedFrames_frame cause s).comp (lscEnterParked_frame _)
    (rs := .opState :: .parkDelay :: .arrivals :: .frameRuns :: .scanPlay :: writing ++ sending) (by decide) (by decide)
  have sdu := sduEnterParked_sdu (s := lscEnterParked (parkedFrames cause s))
    ((lscEnterParked_frame _ .opState (by decide)).trans (parkedFrames_opState cause s))
  obtain ⟨meas, -, stand, bound⟩ := later .measurement (by decide)
  obtain ⟨present, timer, -⟩ := later .plausibility (by decide)
  obtain ⟨presentS, -, -⟩ := frame .plausibility (by decide)
  rw [meas, bound, stand, timer, present, ← presentS, sdu]
  exact ⟨rfl, rfl, rfl, rfl, rfl⟩

/-! ### The arrivals -/

theorem dropSweepReport_count {x : Instr} (other : x ≠ .sweepComplete) :
    (dropSweepReport s).inFlight.count x = s.inFlight.count x :=
  List.count_filter (by simpa using other)

/-- An arrival that is no notice and not the sweep's report, in front of the warning unit. -/
theorem parkedSpeed_count {x : Instr} (notice : isNotice x = false) (report : x ≠ .sweepComplete) :
    (parkedSpeed cause s).inFlight.count x
      = s.inFlight.count x + if x = .agingPass ∧ (s.slot driveCycle).value = 1 then 1 else 0 := by
  have speed := sduEnterParked_count (s := lscEnterParked (parkedFrames cause s))
    ((lscEnterParked_frame _ .opState (by decide)).trans (parkedFrames_opState cause s)) notice
  have play := lscEnterParked_frame (parkedFrames cause s)
  have frames := (frpEnterParked_posts (dropSweepReport (setOpState .parked cause s))).count notice
  have told : (setOpState .parked cause s).inFlight = s.inFlight := setOpState_frame .parked cause s .inFlight (by decide)
  rw [play .inFlight (by decide), play.slot (by decide), parkedFrames_inner cause s (by decide)] at speed
  have gauges : (parkedSpeed cause s).inFlight = (sduEnterParked (lscEnterParked (parkedFrames cause s))).inFlight :=
    gdrEnterParked_frame _ .inFlight (by decide)
  have first : (parkedFrames cause s).inFlight.count x = s.inFlight.count x := by
    rw [parkedFrames, frames, dropSweepReport_count _ report, told]
  rw [gauges, speed, first]

theorem enterParked_agingPass : (enterParked cause s).inFlight.count .agingPass
    = s.inFlight.count .agingPass + if (s.slot driveCycle).value = 1 then 1 else 0 := by
  rw [enterParked_tail cause s .inFlight (by decide), parkedWarnings_eq,
    (parkEntries_posts _ _).count (by rfl), parkedSpeed_count cause s rfl (by simp)]
  simp

/-! ### The warning entries (R111) -/

/-- The warning unit finds the entries as they stood, in PARKED. -/
theorem parkedSpeed_same : (parkedSpeed cause s).wrn.table = s.wrn.table ∧ (parkedSpeed cause s).wrn.run = s.wrn.run
    ∧ ∀ i, leavesAtPark (parkedSpeed cause s) i = leavesAtPark s i := by
  have frame := parkedSpeed_frame cause s
  have table := frame .warnTable (by decide)
  refine ⟨table, frame .warnRuns (by decide), fun i => ?_⟩
  have parked (e : WarnEntry) : parkedEntry e (parkedSpeed cause s) = parkedEntry e s :=
    parkedEntry_eq (frame .signalTable (by decide)) (frame .lineTable (by decide)) e
  simp only [leavesAtPark, warnEntry_eq table, parked]

theorem enterParked_run (i : Fin 96) : unjoined (warnRun i (enterParked cause s))
    = if leavesAtPark s i then unjoined (putOff (warnRun i s)) else unjoined (warnRun i s) := by
  obtain ⟨-, run, leaves⟩ := parkedSpeed_same cause s
  rw [warnRun_eq (enterParked_tail cause s .warnRuns (by decide)), parkedWarnings_eq, parkEntries_run,
    leaves, warnRun_eq run]
  simp only [mem_indices, true_and]

theorem enterParked_withdrawals {i : Fin 96} {e : WarnEntry} (entry : warnEntry i s = some e)
    (leaves : ¬CarriedThroughParked e s) (chime : e.chime.isSome = true) (unacked : (warnRun i s).state = .onUnack) :
    (enterParked cause s).inFlight.count (.requestWithdrawal (.warning i))
      = s.inFlight.count (.requestWithdrawal (.warning i)) + 1 := by
  obtain ⟨table, run, same⟩ := parkedSpeed_same cause s
  have withdraws : withdrawsAtPark (parkedSpeed cause s) i = true := by
    rw [withdrawsAtPark, same, warnEntry_eq table, warnRun_eq run, (leavesAtPark_iff entry).2 leaves, entry]
    simp [chime, unacked]
  rw [enterParked_tail cause s .inFlight (by decide), parkedWarnings_eq,
    parkEntries_withdrawals _ (indices_nodup 96), parkedSpeed_count cause s rfl (by simp)]
  simp [mem_indices, withdraws]

theorem enterParked_listFollowed {s : State} (h : ListFollowed s) : ListFollowed (enterParked cause s) := by
  have frame := parkedSpeed_frame cause s
  have tail := enterParked_tail cause s
  have before : ListFollowed (parkedSpeed cause s) := by
    refine h.of_same ?_ (frame .warnTable (by decide)) (frame .warnRuns (by decide)) (frame .warnList (by decide)).2
    rw [parkedSpeed_slot, sduEnterParked_slot (by decide), (lscEnterParked_frame _).slot (by decide),
      parkedFrames_inner cause s (by decide)]
  have behind := parkEntries_listFollowed (indices 96) before
  rw [← parkedWarnings_eq] at behind
  exact behind.of_same (tail.slot (by decide) _) (tail .warnTable (by decide))
    (tail .warnRuns (by decide)) (tail .warnList (by decide)).2

theorem enterParked_warningsLegal {s : State} (h : WarningsLegal s) :
    WarningsLegal (enterParked cause s) := by
  have frame := enterParked_frame cause s
  have parked : (enterParked cause s).opState = .parked :=
    (enterParked_tail cause s .opState (by decide)).trans (parkedWarnings_opState cause s)
  obtain ⟨value, quality, top⟩ := enterParked_listFollowed cause h.listFollowed
  rw [← activeList_length] at value
  obtain ⟨disabled, -⟩ := h
  refine ⟨fun i off => ?_, fun config => by simp [parked] at config, fun _ i e entry outside => ?_, value, quality, top⟩
  · have disabledS : warnEnabled i s = false := by
      rcases off with off | config
      · rwa [warnEnabled, warnEntry_eq (frame .warnTable (by decide))] at off
      · simp [parked] at config
    have run := enterParked_run cause s i
    split at run
    · exact ⟨(off_of_putOff run).1, (off_of_putOff run).2.1⟩
    · obtain ⟨state, timer⟩ := disabled i (.inl disabledS)
      obtain ⟨stateT, timerT, -⟩ := fields_of_unjoined run
      exact ⟨stateT.trans state, timerT.trans timer⟩
  · rw [warnEntry_eq (frame .warnTable (by decide))] at entry
    rw [carried_iff (frame .signalTable (by decide)) (frame .lineTable (by decide))] at outside
    have run := enterParked_run cause s i
    rw [if_pos ((leavesAtPark_iff entry).2 outside)] at run
    obtain ⟨state, timer, truth, -, cond, -⟩ := off_of_putOff run
    exact ⟨state, timer, truth, cond⟩

/-- The entry into PARKED. -/
theorem enterParked_parks : PartParks s (enterParked cause s) := by
  have tail := enterParked_tail cause s
  have frame := enterParked_frame cause s
  obtain ⟨pulse, quality, speed, cycle⟩ := enterParked_speeds cause s
  obtain ⟨meas, bound, stand, timer, present⟩ := enterParked_measurement cause s
  obtain ⟨requests, playing, marks, test⟩ := enterParked_outputs cause s
  have apart {k : Slot} (h : 12 ≤ k.val ∨ k = ignition) :
      k ≠ pulseSpeed ∧ k ≠ vehicleSpeed ∧ k ≠ driveCycle ∧ k ≠ activeWarnings := by
    rcases h with h | rfl
    · refine ⟨?_, ?_, ?_, ?_⟩ <;> rintro rfl <;> exact absurd h (by decide)
    · decide
  refine ⟨(tail .opState (by decide)).trans (parkedWarnings_opState cause s), ?_, fun i => ?_, fun k timed good => ?_,
    fun k outer still => ?_, meas, bound, stand, timer, present, pulse, quality, speed, cycle,
    enterParked_agingPass cause s, ?_, requests, playing, fun i e entry => ⟨fun carried => ?_, fun outside => ?_⟩,
    enterParked_warningsLegal cause, marks, test, ?_, frame .records (by decide), frame .leaves (by decide)⟩
  · have later : ChangesOnly (.scanPlay :: .sweepPhase :: .frameRuns :: .arrivals :: .wsTest :: .requests :: .playing :: .portals
        :: measuring ++ warning) (setOpState .parked cause s) (enterParked cause s) :=
      ((dropSweepReport_frame _).mono (by decide)).trans (((frpEnterParked_frame _).mono (by decide)).trans
        (((frpToSpeed_frame cause s).mono (by decide)).trans
          (((parkedWarnings_frame cause s).mono (by decide)).trans (tail.mono (by decide)))))
    exact (later .parkDelay (by decide)).trans (setOpState_parkDue cause s .parked)
  · have later : ChangesOnly (.scanPlay :: .sweepPhase :: .wsTest :: .requests :: .playing :: .portals
        :: measuring ++ warning) (parkedFrames cause s) (enterParked cause s) :=
      ((frpToSpeed_frame cause s).mono (by decide)).trans
        (((parkedWarnings_frame cause s).mono (by decide)).trans (tail.mono (by decide)))
    have runs := later .frameRuns (by decide)
    rw [frameRun, runs]
    exact congrArg FrameRun.timer (frpEnterParked_run _ i)
  · rw [enterParked_slot cause s (apart (.inl timed.1))]
    exact (parkedFrames_slot cause s k).1 timed good
  · rw [enterParked_slot cause s (apart outer)]
    exact (parkedFrames_slot cause s k).2 still
  · exact (tail .sweepPhase (by decide)).trans ((parkedWarnings_frame cause s .sweepPhase (by decide)).trans
      (parkedSpeed_phase cause s))
  · have run := enterParked_run cause s i
    rw [if_neg (by rw [leavesAtPark_iff entry]; exact not_not.2 carried)] at run
    obtain ⟨state, timer, truth, unknown, -⟩ := fields_of_unjoined run
    exact ⟨state, timer, truth, unknown⟩
  · have run := enterParked_run cause s i
    rw [if_pos ((leavesAtPark_iff entry).2 outside)] at run
    obtain ⟨state, timer, truth, unknown, -, observed⟩ := off_of_putOff run
    exact ⟨state, timer, truth, unknown, observed, enterParked_withdrawals cause s entry outside⟩
  · have later : ChangesOnly (.sweepPhase :: .wsTest :: .requests :: .playing :: .portals :: measuring ++ warning)
        (lscEnterParked (parkedFrames cause s)) (enterParked cause s) :=
      ((sduEnterParked_frame _).mono (by decide)).trans (((gdrEnterParked_frame _).mono (by decide)).trans
        (((parkedWarnings_frame cause s).mono (by decide)).trans (tail.mono (by decide))))
    rw [(later .scanPlay (by decide)).2.2, lscEnterParked_passDue, parkedFrames_frame cause s .now (by decide)]

/-- The STATE event goes first, and the events of the entries put in OFF are among those behind it (R180). -/
theorem enterParked_queued {s : State} (held : sendingHeld s = true) :
    ∃ more, Queued (.state .parked cause :: more) s (enterParked cause s) ∧ OffEventsAmong more s := by
  have first := setOpState_queued cause held .parked
  have heldO : sendingHeld (setOpState .parked cause s) = true :=
    (setOpState_frame .parked cause s .queues (by decide)).held held
  have between : ChangesOnly (.arrivals :: .frameRuns :: .scanPlay :: .sweepPhase :: measuring)
      (setOpState .parked cause s) (parkedSpeed cause s) :=
    ((dropSweepReport_frame _).mono (by decide)).trans (((frpEnterParked_frame _).mono (by decide)).trans
      ((frpToSpeed_frame cause s).mono (by decide)))
  obtain ⟨-, -, -, es, blocks⟩ := (between .queues (by decide)).grows heldO
  obtain ⟨fs, warned, told⟩ := parkEntries_queued (indices 96) ((between .queues (by decide)).held heldO)
  rw [← parkedWarnings_eq] at warned
  obtain ⟨events, overrun⟩ := enterParked_tail cause s .events (by decide)
  refine ⟨es ++ fs, ?_, fun i e entry enabled outside moved => List.mem_append.2 (.inr (told i (mem_indices 96 i) ?_))⟩
  · have all := (first.append blocks).append warned
    rw [List.append_assoc, List.singleton_append] at all
    exact all.of_same events overrun
  · obtain ⟨table, run, leaves⟩ := parkedSpeed_same cause s
    rw [tellsAtPark, leaves, (leavesAtPark_iff entry).2 outside, warnEnabled, warnEntry_eq table, entry, warnRun_eq run]
    simp [enabled, moved]

end

theorem WarningsLegal.of_same {s t : State} (h : WarningsLegal s) (op : t.opState = s.opState) (wrn : t.wrn = s.wrn)
    (slot : t.slot activeWarnings = s.slot activeWarnings) (signals : t.sst.table = s.sst.table)
    (lines : t.lsc.table = s.lsc.table) : WarningsLegal t := by
  obtain ⟨value, quality, top⟩ := h.listFollowed.of_same (t := t) slot (by rw [wrn]) (by rw [wrn]) (by rw [wrn])
  rw [← activeList_length] at value
  obtain ⟨disabled, config, parked, -⟩ := h
  have run (i : Fin 96) : warnRun i t = warnRun i s := warnRun_eq (by rw [wrn]) i
  have entries (i : Fin 96) : warnEntry i t = warnEntry i s := warnEntry_eq (by rw [wrn]) i
  have carried (e : WarnEntry) : CarriedThroughParked e t ↔ CarriedThroughParked e s := carried_iff signals lines e
  refine ⟨?_, ?_, ?_, value, quality, top⟩
  · simpa only [op, run, warnEnabled, entries] using disabled
  · simpa only [op, run] using config
  · simpa only [op, run, entries, carried] using parked

/-- A response changes nothing that the entry into PARKED starts from. -/
theorem PartParks.of_respond {k : Byte} {r : Result} {d : List Byte} {s t : State}
    (h : PartParks (respond k r d s) t) : PartParks s t := by
  have legal (c : Cli) : WarningsLegal { s with cli := c } = WarningsLegal s :=
    propext ⟨fun h => h.of_same rfl rfl rfl rfl rfl, fun h => h.of_same rfl rfl rfl rfl rfl⟩
  rw [respond_eq, PartParks, legal] at h
  exact h

theorem OffEventsAmong.of_respond {es : List Event} {k : Byte} {r : Result} {d : List Byte} {s : State}
    (h : OffEventsAmong es (respond k r d s)) : OffEventsAmong es s := by
  rw [respond_eq] at h
  exact h

/-- Settles O20: the refusal, the record, the expiry that is due and the one that is not. -/
theorem parkEntersParked : Obligations.ParkEntersParked := by
  intro s
  refine ⟨fun ready notRun notSweep => ?_, fun ready live => ?_, fun d live timer due => ?_, fun early => ?_⟩
  · have state : inRunSweep s.opState = false :=
      Bool.eq_false_iff.2 fun h => ((live_iff _).1 h).elim notRun notSweep
    refine exec_refused (r := ⟨0x07, []⟩) rfl ready (heldRecord_of_kind (by decide) _ s) ?_
    show withLength 0 [] (whenState inRunSweep s (accepted [] (enterParked .parkRequest))) = _
    rw [withLength, if_pos List.length_nil, whenState, if_neg (by rw [state]; decide)]
  · have state : inRunSweep s.opState = true := (live_iff _).2 live
    have answer : answerRecord ⟨0x07, []⟩ s = accepted [] (enterParked .parkRequest) := by
      show withLength 0 [] (whenState inRunSweep s (accepted [] (enterParked .parkRequest))) = _
      rw [withLength, if_pos List.length_nil, whenState, if_pos state]
    have parks := enterParked_parks .parkRequest (respond 0x07 .ok [] s)
    have frame := enterParked_frame .parkRequest (respond 0x07 .ok [] s)
    obtain ⟨more, queued, events⟩ := enterParked_queued .parkRequest (respond_held 0x07 .ok [] s)
    have waiting := (respond_queued 0x07 .ok [] s).append queued
    refine ⟨_, more, exec_accepted rfl ready (heldRecord_of_kind (by decide) _ s) answer,
      (answered_after frame (by decide)).1, ?_, waiting, ?_, answered_frame frame⟩
    · exact parks.of_respond
    · exact events.of_respond
  · have expires : (s.opState.live && isDue s.cli.parkDue s) = true := by
      rw [(live_iff _).2 live, Bool.true_and, isDue_iff]
      exact ⟨d, timer, due⟩
    exact ⟨_, if_pos expires, enterParked_parks .parkDelay s, fun held => enterParked_queued .parkDelay held,
      enterParked_frame .parkDelay s⟩
  · have waits : isDue s.cli.parkDue s = false := not_isDue early
    show execParkDelayExpiry s = _
    rw [execParkDelayExpiry, waits, Bool.and_false, if_neg (by decide)]

end Sys2Proof.Machine
end

section
/-! PROOFS. The evaluation of warning entries: truth, condition and state of one entry, of the entries one behind the
other, and what an evaluation keeps (R99 to R104, R108, R112, R113, R116). -/

namespace Sys2Proof.Machine

/-! ### One evaluation, told by the run-time state it leaves -/

/-- The run-time state with truth, mark and condition formed, and the observed flag of a disabled entry (R108). -/
def formedRun (fresh : Bool) (e : WarnEntry) (s : State) (r : WarnRun) : WarnRun :=
  let t := formTruth e r.truth s
  let cond := t.1 && gateSatisfied e s
  { r with
    truth := some t.1, unknown := t.2, cond
    observed := r.observed || (!e.enabled && (cond && (fresh || !r.cond))) }

/-- The state an evaluation takes the entry to (R104). -/
def nextState (e : WarnEntry) (cond : Bool) (r : WarnRun) : WarnState :=
  if e.enabled && decide (cond ≠ r.cond) then onCondition e cond r.state else r.state

/-- The run-time state behind an evaluation. -/
def evaluatedRun (fresh : Bool) (e : WarnEntry) (s : State) (r : WarnRun) : WarnRun :=
  let f := formedRun fresh e s r
  let new := nextState e f.cond r
  if r.state = new then f
  else { f with state := new, timer := loadedTimer e f new s, observed := f.observed || decide (r.state = .off) }

/-- The part with truth, mark and condition of an entry formed, and a change of its mark told (R102, R107). -/
def formEntry (fresh : Bool) (i : Fin 96) (e : WarnEntry) (s : State) : State :=
  let u := setWarnRun i (formedRun fresh e s (warnRun i s)) s
  if e.enabled then tellMark i (warnRun i s).unknown u else u

section
variable {fresh : Bool} {i j : Fin 96} {e : WarnEntry} {s t : State}

theorem formEntry_frame (fresh : Bool) (i : Fin 96) (e : WarnEntry) (s : State) :
    ChangesOnly (.warnRuns :: sending) s (formEntry fresh i e s) := by
  have formed : ChangesOnly (.warnRuns :: sending) s (setWarnRun i (formedRun fresh e s (warnRun i s)) s) :=
    (setWarnRun_frame i _ s).mono (by decide)
  have told (b : Bool) (u : State) : ChangesOnly (.warnRuns :: sending) u (tellMark i b u) :=
    .ite (fun _ => .refl _ u) fun _ => (queueEvent_frame _ u).mono (by decide)
  exact .ite (fun _ => formed.trans (told _ _)) fun _ => formed

theorem formEntry_run (j : Fin 96) :
    warnRun j (formEntry fresh i e s) = if j = i then formedRun fresh e s (warnRun i s) else warnRun j s := by
  have told (b : Bool) (u : State) : warnRun j (tellMark i b u) = warnRun j u := by
    unfold tellMark
    split
    · rfl
    · exact warnRun_eq (queueEvent_frame _ u .warnRuns (by decide)) j
  rw [← warnRun_setWarnRun]
  unfold formEntry
  simp only
  split
  · exact told _ _
  · rfl

/-- The state and the join sequence wait for the second part of the evaluation. -/
theorem formEntry_state (j : Fin 96) : (warnRun j (formEntry fresh i e s)).state = (warnRun j s).state
    ∧ (warnRun j (formEntry fresh i e s)).join = (warnRun j s).join := by
  rw [formEntry_run]
  split
  · rename_i same
    rw [same]
    exact ⟨rfl, rfl⟩
  · exact ⟨rfl, rfl⟩

theorem loadedTimer_eq (now : t.now = s.now) (e : WarnEntry) (r : WarnRun) (new : WarnState) :
    loadedTimer e r new t = loadedTimer e r new s := by
  simp only [loadedTimer, now]

/-- Everything an evaluation does: the entry is formed, and moves where its state changes. -/
theorem evaluate_eq (entry : warnEntry i s = some e) : evaluate fresh i s
    = if (warnRun i s).state = nextState e (formedRun fresh e s (warnRun i s)).cond (warnRun i s)
      then formEntry fresh i e s
      else changeRun i (evaluatedRun fresh e s (warnRun i s)) e.chime true (formEntry fresh i e s) := by
  set r := warnRun i s with hr
  set f := formedRun fresh e s r with hf
  have run : warnRun i (formEntry fresh i e s) = f := by rw [formEntry_run, if_pos rfl]
  have now : (formEntry fresh i e s).now = s.now := formEntry_frame fresh i e s .now (by decide)
  have spelled : evaluate fresh i s = if e.enabled then
      (if f.cond = r.cond then formEntry fresh i e s
        else changeState i e (onCondition e f.cond r.state) (formEntry fresh i e s))
      else formEntry fresh i e s := by
    unfold evaluate formEntry
    rw [entry]
    by_cases enabled : e.enabled = true
    · simp only [if_pos enabled]
      rfl
    · simp only [if_neg enabled]
      rfl
  rw [spelled]
  cases enabled : e.enabled
  · have stays : nextState e f.cond r = r.state := by simp [nextState, enabled]
    rw [if_neg (by decide), stays, if_pos rfl]
  · rw [if_pos rfl]
    by_cases same : f.cond = r.cond
    · have stays : nextState e f.cond r = r.state := by simp [nextState, same]
      rw [if_pos same, stays, if_pos rfl]
    · have next : nextState e f.cond r = onCondition e f.cond r.state := by simp [nextState, same, enabled]
      rw [if_neg same, next, changeState, run, loadedTimer_eq now]
      have state : f.state = r.state := rfl
      rw [state]
      by_cases stays : r.state = onCondition e f.cond r.state
      · rw [if_pos stays, if_pos stays]
      · rw [if_neg stays, if_neg stays, evaluatedRun, ← hf, next, if_neg stays]

theorem evaluatedRun_of_stays
    (stays : (warnRun i s).state = nextState e (formedRun fresh e s (warnRun i s)).cond (warnRun i s)) :
    evaluatedRun fresh e s (warnRun i s) = formedRun fresh e s (warnRun i s) := if_pos stays

theorem evaluatedRun_truth (r : WarnRun) : (evaluatedRun fresh e s r).truth = (formedRun fresh e s r).truth
    ∧ (evaluatedRun fresh e s r).unknown = (formedRun fresh e s r).unknown
    ∧ (evaluatedRun fresh e s r).cond = (formedRun fresh e s r).cond
    ∧ (evaluatedRun fresh e s r).join = r.join := by
  unfold evaluatedRun
  simp only
  split <;> exact ⟨rfl, rfl, rfl, rfl⟩

/-- An evaluation takes its entry to `evaluatedRun`, and moves no other entry, apart from the join sequences. -/
theorem evaluate_run (entry : warnEntry i s = some e) (j : Fin 96) : unjoined (warnRun j (evaluate fresh i s))
    = if j = i then unjoined (evaluatedRun fresh e s (warnRun i s)) else unjoined (warnRun j s) := by
  rw [evaluate_eq entry]
  by_cases stays : (warnRun i s).state = nextState e (formedRun fresh e s (warnRun i s)).cond (warnRun i s)
  · rw [if_pos stays, formEntry_run, evaluatedRun_of_stays stays]
    split <;> rfl
  · rw [if_neg stays, changeRun_run, formEntry_run]
    split
    · rfl
    · rfl

theorem evaluate_slot (i : Fin 96) {k : Slot} (other : k ≠ activeWarnings) :
    (evaluate fresh i s).slot k = s.slot k := by
  cases entry : warnEntry i s with
  | none => simp only [evaluate, entry]
  | some e =>
    rw [evaluate_eq entry]
    have formed : (formEntry fresh i e s).slot k = s.slot k := (formEntry_frame fresh i e s).slot (by decide) k
    split
    · exact formed
    · rw [changeRun_slot, if_neg fun h => other h.1, formed]

theorem evaluate_posts (fresh : Bool) (i : Fin 96) (s : State) : PostsOnly isWarningArrival s (evaluate fresh i s) := by
  cases entry : warnEntry i s with
  | none =>
    simp only [evaluate, entry]
    exact .refl s
  | some e =>
    rw [evaluate_eq entry]
    have formed : PostsOnly isWarningArrival s (formEntry fresh i e s) :=
      .of_same (formEntry_frame fresh i e s .inFlight (by decide))
    exact .ite (fun _ => formed) fun _ => formed.trans (changeRun_posts _ _ _ _ _)

/-! ### What an evaluation keeps -/

theorem formEntry_listFollowed (h : ListFollowed s) : ListFollowed (formEntry fresh i e s) := by
  have frame := formEntry_frame fresh i e s
  have table := frame .warnTable (by decide)
  have length : listLength (formEntry fresh i e s) = listLength s := by
    refine listLength_eq fun j => ?_
    rw [inActiveList, inActiveList, warnEnabled, warnEnabled, warnEntry_eq table, (formEntry_state j).1]
  obtain ⟨value, quality, top⟩ := h
  rw [ListFollowed, frame.slot (by decide), length, (frame .warnList (by decide)).2, topWarning_eq_of table formEntry_state]
  exact ⟨value, quality, top⟩

theorem evaluate_listFollowed (h : ListFollowed s) : ListFollowed (evaluate fresh i s) := by
  cases entry : warnEntry i s with
  | none => simpa only [evaluate, entry] using h
  | some e =>
    rw [evaluate_eq entry]
    split
    · exact formEntry_listFollowed h
    · exact changeRun_listFollowed (formEntry_listFollowed h)

theorem evaluatedRun_disabled (disabled : e.enabled = false) (r : WarnRun) :
    (evaluatedRun fresh e s r).state = r.state ∧ (evaluatedRun fresh e s r).timer = r.timer := by
  have stays (c : Bool) : r.state = nextState e c r := by simp [nextState, disabled]
  rw [evaluatedRun, if_pos (stays _)]
  exact ⟨rfl, rfl⟩

theorem EvaluatedNow.notConfig (h : EvaluatedNow e s) : s.opState ≠ .config := by
  rcases h with h | h | ⟨h, -⟩ <;> simp [h]

/-- An evaluation in its operating state keeps the warning unit legal. -/
theorem evaluate_warningsLegal (h : WarningsLegal s) (entry : warnEntry i s = some e) (now : EvaluatedNow e s) :
    WarningsLegal (evaluate fresh i s) := by
  have frame := evaluate_frame fresh i s
  obtain ⟨value, quality, top⟩ := evaluate_listFollowed (fresh := fresh) (i := i) h.listFollowed
  rw [← activeList_length] at value
  obtain ⟨disabled, -, parked, -⟩ := h
  have op : (evaluate fresh i s).opState = s.opState := frame .opState (by decide)
  have entries (j : Fin 96) : warnEntry j (evaluate fresh i s) = warnEntry j s :=
    warnEntry_eq (frame .warnTable (by decide)) j
  refine ⟨fun j off => ?_, fun config => absurd (op.symm.trans config) now.notConfig, fun inPark j d loaded outside => ?_,
    value, quality, top⟩
  · have offS : warnEnabled j s = false := by
      rcases off with off | config
      · rwa [warnEnabled, entries] at off
      · exact absurd (op.symm.trans config) now.notConfig
    obtain ⟨state, timer⟩ := disabled j (.inl offS)
    have run := evaluate_run (fresh := fresh) entry j
    split at run
    · rename_i same
      subst same
      have disabledE : e.enabled = false := by rwa [warnEnabled, entry] at offS
      obtain ⟨stateE, timerE⟩ := evaluatedRun_disabled (fresh := fresh) (s := s) disabledE (warnRun j s)
      obtain ⟨stateT, timerT, -⟩ := fields_of_unjoined run
      exact ⟨stateT.trans (stateE.trans state), timerT.trans (timerE.trans timer)⟩
    · obtain ⟨stateT, timerT, -⟩ := fields_of_unjoined run
      exact ⟨stateT.trans state, timerT.trans timer⟩
  · rw [op] at inPark
    rw [entries] at loaded
    rw [carried_iff (frame .signalTable (by decide)) (frame .lineTable (by decide))] at outside
    have other : j ≠ i := by
      rintro rfl
      rw [entry, Option.some.injEq] at loaded
      rcases now with run | sweep | ⟨-, carried⟩
      · simp [inPark] at run
      · simp [inPark] at sweep
      · exact outside (loaded ▸ carried)
    have run := evaluate_run (fresh := fresh) entry j
    rw [if_neg other] at run
    obtain ⟨stateT, timerT, truthT, -, condT, -⟩ := fields_of_unjoined run
    obtain ⟨state, timer, truth, cond⟩ := parked inPark j d loaded outside
    exact ⟨stateT.trans state, timerT.trans timer, truthT.trans truth, condT.trans cond⟩

/-! ### Truth and condition formed (R100 to R103) -/

theorem TruthFormed.of_fields {before : Option Bool} {r r' : WarnRun} (h : TruthFormed e before s r)
    (truth : r'.truth = r.truth) (unknown : r'.unknown = r.unknown) (cond : r'.cond = r.cond) :
    TruthFormed e before s r' := by
  unfold TruthFormed at h ⊢
  rw [truth, unknown, cond]
  exact h

theorem formTruth_eq (source : e.kind ≠ .faultClass → effRead e.source t = effRead e.source s)
    (records : t.flt.records = s.flt.records) (before : Option Bool) : formTruth e before t = formTruth e before s := by
  by_cases byClass : e.kind = .faultClass
  · simp only [formTruth, byClass, classActive, records]
  · simp only [formTruth, source byClass]
    cases kind : e.kind <;> simp_all

theorem gateSatisfied_eq (gate : ∀ g, e.gate = some g → effRead g.slot t = effRead g.slot s) :
    gateSatisfied e t = gateSatisfied e s := by
  cases at_g : e.gate with
  | none => simp [gateSatisfied, at_g]
  | some g => simp [gateSatisfied, at_g, gate g at_g]

/-- The formed run-time state, told of its own reads. -/
theorem formedRun_formed (fresh : Bool) (e : WarnEntry) (s : State) (r : WarnRun) :
    TruthFormed e r.truth s (formedRun fresh e s r) := by
  have truth : (formedRun fresh e s r).truth = some (formTruth e r.truth s).1 := rfl
  have unknown : (formedRun fresh e s r).unknown = (formTruth e r.truth s).2 := rfl
  have cond : (formedRun fresh e s r).cond = ((formTruth e r.truth s).1 && gateSatisfied e s) := rfl
  have lost (kind : e.kind = .signalAbove ∨ e.kind = .signalBelow ∨ e.kind = .signalMask)
      (unusable : (effRead e.source s).2.usable = false) : formTruth e r.truth s = lostTruth e r.truth := by
    rcases kind with kind | kind | kind <;> simp [formTruth, kind, unusable]
  have found (kind : e.kind = .signalAbove ∨ e.kind = .signalBelow ∨ e.kind = .signalMask)
      (usable : (effRead e.source s).2.usable = true) :
      formTruth e r.truth s = (usableTruth e r.truth (effRead e.source s).1, false) := by
    rcases kind with kind | kind | kind <;> simp [formTruth, kind, usable]
  unfold TruthFormed
  rw [truth, unknown, cond]
  refine ⟨fun kind usable => ?_, fun kind usable => ?_, fun kind usable => ?_, fun kind unusable => ?_, fun kind => ?_,
    fun kind => ?_, fun ungated => ?_, fun g gated => ?_⟩
  · rw [found (.inl kind) usable]
    simp [usableTruth, kind, hysteresis]
  · rw [found (.inr (.inl kind)) usable]
    simp [usableTruth, kind, hysteresis]
  · rw [found (.inr (.inr kind)) usable]
    simp [usableTruth, kind]
  · rw [lost kind unusable, lostTruth]
    cases e.loss <;> exact ⟨rfl, rfl⟩
  · simp [formTruth, kind]
  · simp [formTruth, kind, classActive]
  · simp [gateSatisfied, ungated]
  · simp [gateSatisfied, gated]

/-- The formed run-time state, told of the reads in another state with the same sources. -/
theorem formedRun_formed_of (source : e.kind ≠ .faultClass → effRead e.source t = effRead e.source s)
    (gate : ∀ g, e.gate = some g → effRead g.slot t = effRead g.slot s) (records : t.flt.records = s.flt.records)
    (r : WarnRun) : TruthFormed e r.truth t (formedRun fresh e s r) := by
  have same : formedRun fresh e s r = formedRun fresh e t r := by
    rw [formedRun, formedRun, formTruth_eq source records, gateSatisfied_eq gate]
  rw [same]
  exact formedRun_formed fresh e t r

/-- A condition takes no entry from OFF_DELAY unacknowledged to OFF_DELAY acknowledged. -/
theorem onCondition_acked (e : WarnEntry) (cond : Bool) (st : WarnState) (h : onCondition e cond st = .offDelayAcked) :
    st ≠ .offDelayUnacked := by
  rintro rfl
  cases cond <;> simp [onCondition] at h

/-- The state machine's part of an evaluation that is none afresh (R104, R108). -/
theorem evaluatedRun_moved (e : WarnEntry) (s : State) (r : WarnRun) :
    EntryMoved e s r (evaluatedRun false e s r) := by
  set f := formedRun false e s r with hf
  have cond : (evaluatedRun false e s r).cond = f.cond := (evaluatedRun_truth r).2.2.1
  have timer : f.timer = r.timer := rfl
  have observed : f.observed = (r.observed || (!e.enabled && (f.cond && !r.cond))) := by
    rw [hf, formedRun]
    simp
  have spelled : evaluatedRun false e s r = if r.state = nextState e f.cond r then f
      else { f with
        state := nextState e f.cond r, timer := loadedTimer e f (nextState e f.cond r) s
        observed := f.observed || decide (r.state = .off) } := rfl
  have stays (same : r.state = nextState e f.cond r) : evaluatedRun false e s r = f := spelled.trans (if_pos same)
  have moves (other : r.state ≠ nextState e f.cond r) : (evaluatedRun false e s r).state = nextState e f.cond r
      ∧ (evaluatedRun false e s r).timer = loadedTimer e f (nextState e f.cond r) s
      ∧ (evaluatedRun false e s r).observed = (f.observed || decide (r.state = .off)) := by
    rw [spelled, if_neg other]
    exact ⟨rfl, rfl, rfl⟩
  have state : (evaluatedRun false e s r).state = nextState e f.cond r := by
    by_cases same : r.state = nextState e f.cond r
    · rw [stays same, ← same]
      rfl
    · exact (moves same).1
  have next (enabled : e.enabled = true) (turned : f.cond ≠ r.cond) :
      nextState e f.cond r = onCondition e f.cond r.state := by simp [nextState, enabled, turned]
  refine ⟨fun disabled => ?_, fun enabled same => ?_, fun enabled before after => ?_, fun enabled before after => ?_,
    fun _ same => ?_, fun enabled other => ?_⟩
  · rw [stays (by simp [nextState, disabled]), observed, disabled]
    simp [hf, formedRun]
  · rw [cond] at same
    rw [stays (by simp [nextState, same]), observed, enabled]
    simp [hf, formedRun]
  · rw [cond] at after
    have new := next enabled (by simp [before, after])
    rw [state, new, after]
    refine ⟨?_, by cases r.state <;> simp [onCondition, shown]⟩
    by_cases same : r.state = nextState e f.cond r
    · have notOff : r.state ≠ .off := fun off => by
        rw [new, after, off] at same
        revert same
        simp only [onCondition, shown, if_true]
        split
        · split <;> simp
        · simp
      rw [stays same, observed, enabled]
      simp [notOff]
    · rw [(moves same).2.2, observed, enabled]
      simp
  · rw [cond] at after
    have new := next enabled (by simp [before, after])
    rw [state, new, after]
    refine ⟨?_, by cases r.state <;> simp [onCondition]⟩
    by_cases same : r.state = nextState e f.cond r
    · rw [stays same, observed, enabled]
      simp
    · have notOff : r.state ≠ .off := fun off => by
        rw [new, after, off] at same
        exact same rfl
      rw [(moves same).2.2, observed, enabled]
      simp [notOff]
  · rw [state] at same
    rw [stays same.symm, timer]
  · rw [state] at other
    rw [(moves (Ne.symm other)).2.1, state]
    have turned : f.cond ≠ r.cond := fun same => other (by simp [nextState, same])
    have new := next enabled turned
    rw [new] at other ⊢
    have acked := onCondition_acked e f.cond r.state
    generalize onCondition e f.cond r.state = st at acked ⊢
    cases st
    case offDelayAcked => exact if_neg (acked rfl)
    all_goals rfl

end

end Sys2Proof.Machine
end

section
/-! PROOFS. The evaluations of several entries, and what the change of one entry brings with it (R99, R112, R113, R116). -/

namespace Sys2Proof.Machine

/-! ### Entries evaluated one behind the other -/

/-- A test of entries that no evaluation changes. -/
def Steady (test : WarnEntry → State → Bool) : Prop := ∀ s t e, ChangesOnly warning s t → test e t = test e s

/-- The evaluation of an entry that passes the test. -/
def evaluateIf (fresh : Bool) (test : WarnEntry → State → Bool) (s : State) (i : Fin 96) : State :=
  if (warnEntry i s).any fun e => test e s then evaluate fresh i s else s

theorem evaluateWhere_eq (fresh : Bool) (test : WarnEntry → State → Bool) (s : State) :
    evaluateWhere fresh test s = (indices 96).foldl (evaluateIf fresh test) s := rfl

section
variable {fresh : Bool} {test : WarnEntry → State → Bool} {s t : State} {i j : Fin 96} {e : WarnEntry}

theorem evaluateIf_passes (entry : warnEntry i s = some e) (passes : test e s = true) :
    evaluateIf fresh test s i = evaluate fresh i s := by
  rw [evaluateIf, entry, Option.any_some, if_pos passes]

theorem evaluateIf_fails (fails : ∀ e, warnEntry i s = some e → test e s = false) : evaluateIf fresh test s i = s := by
  refine if_neg fun passes => ?_
  obtain ⟨e, entry, passes⟩ := Option.any_eq_true _ _ |>.1 passes
  simp [fails e entry] at passes

theorem evaluateIf_frame (s : State) (i : Fin 96) : ChangesOnly warning s (evaluateIf fresh test s i) :=
  .ite (fun _ => evaluate_frame fresh i s) fun _ => .refl _ s

theorem evaluations_frame (l : List (Fin 96)) (s : State) : ChangesOnly warning s (l.foldl (evaluateIf fresh test) s) :=
  ChangesOnly.foldl (fun s i => evaluateIf_frame s i) l s

theorem evaluations_slot (l : List (Fin 96)) (s : State) {k : Slot} (other : k ≠ activeWarnings) :
    (l.foldl (evaluateIf fresh test) s).slot k = s.slot k := by
  induction l generalizing s with
  | nil => rfl
  | cons i l ih =>
    rw [List.foldl_cons, ih, evaluateIf]
    split
    · exact evaluate_slot i other
    · rfl

theorem evaluations_posts (l : List (Fin 96)) (s : State) :
    PostsOnly isWarningArrival s (l.foldl (evaluateIf fresh test) s) :=
  PostsOnly.foldl (fun s i => .ite (fun _ => evaluate_posts fresh i s) fun _ => .refl s) l s

/-- Evaluations in the operating state keep the warning unit legal. -/
theorem evaluations_warningsLegal (now : ∀ e t, ChangesOnly warning s t → test e t = true → EvaluatedNow e t)
    (l : List (Fin 96)) (h : WarningsLegal s) : WarningsLegal (l.foldl (evaluateIf fresh test) s) := by
  induction l generalizing s with
  | nil => exact h
  | cons i l ih =>
    have frame := evaluateIf_frame (fresh := fresh) (test := test) s i
    refine ih (fun e t later => now e t (frame.trans later)) ?_
    rw [evaluateIf]
    split
    · rename_i passes
      obtain ⟨e, entry, passes⟩ := Option.any_eq_true _ _ |>.1 passes
      exact evaluate_warningsLegal h entry (now e s (.refl _ s) passes)
    · exact h

theorem evaluateIf_other (other : j ≠ i) :
    unjoined (warnRun j (evaluateIf fresh test s i)) = unjoined (warnRun j s) := by
  rw [evaluateIf]
  split
  · rename_i passes
    obtain ⟨e, entry, -⟩ := Option.any_eq_true _ _ |>.1 passes
    rw [evaluate_run entry, if_neg other]
  · rfl

/-- An entry that fails the test is not evaluated. -/
theorem evaluations_fails (steady : Steady test) (l : List (Fin 96))
    (fails : ∀ e, warnEntry j s = some e → test e s = false) :
    unjoined (warnRun j (l.foldl (evaluateIf fresh test) s)) = unjoined (warnRun j s) := by
  induction l generalizing s with
  | nil => rfl
  | cons i l ih =>
    have frame := evaluateIf_frame (fresh := fresh) (test := test) s i
    rw [List.foldl_cons, ih fun e entry => ?_]
    · by_cases same : j = i
      · subst same
        rw [evaluateIf_fails fails]
      · exact evaluateIf_other same
    · rw [warnEntry_eq (frame .warnTable (by decide))] at entry
      rw [steady s _ e frame]
      exact fails e entry

theorem evaluations_unlisted (l : List (Fin 96)) (absent : j ∉ l) :
    unjoined (warnRun j (l.foldl (evaluateIf fresh test) s)) = unjoined (warnRun j s) := by
  induction l generalizing s with
  | nil => rfl
  | cons i l ih =>
    simp only [List.mem_cons, not_or] at absent
    rw [List.foldl_cons, ih absent.2, evaluateIf_other absent.1]

theorem evaluatedRun_unjoined {r r' : WarnRun} (h : unjoined r = unjoined r') :
    unjoined (evaluatedRun fresh e s r) = unjoined (evaluatedRun fresh e s r') := by
  have same : r' = { r with join := r'.join } := by
    obtain ⟨state, timer, truth, unknown, cond, observed⟩ := fields_of_unjoined h
    cases r
    cases r'
    simp_all
  rw [same]
  have stays (c : Bool) : nextState e c { r with join := r'.join } = nextState e c r := rfl
  have formed : (formedRun fresh e s { r with join := r'.join }).cond = (formedRun fresh e s r).cond := rfl
  unfold evaluatedRun
  simp only [stays, formed]
  split <;> rfl

/-- An entry that passes the test is evaluated once, in a state `u` between the two. -/
theorem evaluations_run (steady : Steady test) (l : List (Fin 96)) (distinct : l.Nodup) (listed : j ∈ l)
    (entry : warnEntry j s = some e) (passes : test e s = true) :
    ∃ u, ChangesOnly warning s u ∧ (∀ k, k ≠ activeWarnings → u.slot k = s.slot k)
      ∧ unjoined (warnRun j (l.foldl (evaluateIf fresh test) s)) = unjoined (evaluatedRun fresh e u (warnRun j s)) := by
  induction l generalizing s with
  | nil => simp at listed
  | cons i l ih =>
    obtain ⟨apart, rest⟩ := List.nodup_cons.1 distinct
    have frame := evaluateIf_frame (fresh := fresh) (test := test) s i
    by_cases same : j = i
    · subst same
      refine ⟨s, .refl _ s, fun _ _ => rfl, ?_⟩
      rw [List.foldl_cons, evaluations_unlisted l apart, evaluateIf_passes entry passes, evaluate_run entry, if_pos rfl]
    · obtain ⟨u, between, slots, run⟩ := ih (s := evaluateIf fresh test s i) rest
        ((List.mem_cons.1 listed).resolve_left same)
        (by rwa [warnEntry_eq (frame .warnTable (by decide))]) (by rwa [steady s _ e frame])
      have first {k : Slot} (other : k ≠ activeWarnings) : (evaluateIf fresh test s i).slot k = s.slot k :=
        evaluations_slot [i] s other
      refine ⟨u, frame.trans between, fun k other => (slots k other).trans (first other), ?_⟩
      rw [List.foldl_cons, run, evaluatedRun_unjoined (evaluateIf_other same)]

/-- Where one entry alone passes the test, its evaluation is all. -/
theorem evaluations_single (steady : Steady test) (l : List (Fin 96)) (distinct : l.Nodup) (listed : i ∈ l)
    (entry : warnEntry i s = some e) (passes : test e s = true)
    (alone : ∀ j, j ≠ i → ∀ e', warnEntry j s = some e' → test e' s = false) :
    l.foldl (evaluateIf fresh test) s = evaluate fresh i s := by
  have quiet (m : List (Fin 96)) (absent : i ∉ m) (u : State) (frame : ChangesOnly warning s u) :
      m.foldl (evaluateIf fresh test) u = u := by
    induction m with
    | nil => rfl
    | cons j m ih =>
      simp only [List.mem_cons, not_or] at absent
      rw [List.foldl_cons, evaluateIf_fails fun e' loaded => ?_, ih absent.2]
      rw [warnEntry_eq (frame .warnTable (by decide))] at loaded
      rw [steady s u e' frame]
      exact alone j (Ne.symm absent.1) e' loaded
  obtain ⟨before, after, rfl⟩ := List.append_of_mem listed
  obtain ⟨-, tail, apart⟩ := List.nodup_append.1 distinct
  have absentBefore : i ∉ before := fun member => apart i member i List.mem_cons_self rfl
  rw [List.foldl_append, quiet before absentBefore s (.refl _ s), List.foldl_cons, evaluateIf_passes entry passes,
    quiet after (List.nodup_cons.1 tail).1 _ (evaluate_frame fresh i s)]

/-! ### What the change of one entry brings with it (R112, R113, R116) -/

theorem takeRun_joins {r : WarnRun} (enabled : warnEnabled i s = true) (joins : (warnRun i s).state.inList = false)
    (listed : r.state.inList = true) : takeRun i r s = joinList i (setWarnRun i r s) := by
  have active : inActiveList (setWarnRun i r s) i = true := by
    rw [inActiveList, warnRun_setWarnRun, if_pos rfl, listed, Bool.and_true]
    exact enabled
  rw [takeRun, if_pos (by rw [joins, active]; rfl)]

theorem takeRun_stays {r : WarnRun} (stays : ¬((warnRun i s).state.inList = false ∧ r.state.inList = true)) :
    takeRun i r s = setWarnRun i r s := by
  refine if_neg fun h => stays ?_
  rw [inActiveList, warnRun_setWarnRun, if_pos rfl, Bool.and_eq_true, Bool.and_eq_true, Bool.not_eq_true'] at h
  exact ⟨h.1, h.2.2⟩

theorem joinList_counts (room : s.wrn.joinCounter < 65535) :
    (warnRun i (joinList i s)).join = s.wrn.joinCounter ∧ (joinList i s).wrn.joinCounter = s.wrn.joinCounter + 1 := by
  have run := warnRun_setWarnRun i i { warnRun i s with join := s.wrn.joinCounter } s
  rw [if_pos rfl] at run
  rw [joinList, if_pos room]
  exact ⟨congrArg WarnRun.join run, rfl⟩

theorem joinList_full (full : 65535 ≤ s.wrn.joinCounter) : joinList i s
    = renumber (setWarnRun i { warnRun i s with join := s.wrn.joinCounter } s) := by
  rw [joinList, if_neg (Nat.not_lt.2 full)]

theorem renumber_counter (s : State) : (renumber s).wrn.joinCounter = listLength s := rfl

theorem renumber_listed (s : State) (j : Fin 96) : inActiveList (renumber s) j = inActiveList s j := by
  refine inActiveList_eq rfl ?_
  rw [renumber_run]
  split <;> rfl

/-- A change of an enabled entry is followed as far as the list, the top, ACTIVE_WARNINGS and the chime request go. -/
theorem changeRun_followed {r : WarnRun} {b : Bool} (entry : warnEntry i s = some e) (enabled : e.enabled = true)
    (join : r.join = (warnRun i s).join) : EntryFollowed i s (changeRun i r e.chime b s) := by
  have run := warnRun_eq (changeRun_wrn (i := i) (r := r) (c := e.chime) (b := b) (s := s)).2.1 (s := takeRun i r s)
  have counter := (changeRun_wrn (i := i) (r := r) (c := e.chime) (b := b) (s := s)).2.2
  have state : (warnRun i (changeRun i r e.chime b s)).state = r.state := by
    have moved := changeRun_run (i := i) (j := i) (r := r) (c := e.chime) (b := b) (s := s)
    rw [if_pos rfl] at moved
    exact state_of_unjoined moved
  have chime : (warnEntry i s).bind WarnEntry.chime = e.chime := by rw [entry, Option.bind_some]
  have on : warnEnabled i s = true := by rw [warnEnabled, entry, Option.elim_some, enabled]
  have length : listLength (changeRun i r e.chime b s) = listLength (takeRun i r s) := by
    rw [listLength, listLength, changeRun_listed]
  unfold EntryFollowed
  simp only [state, chime, changeRun_top, changeRun_slot, counter, true_and]
  refine ⟨fun joins room => ?_, fun joins full => ?_, fun stays => ?_, ?_, fun p pattern => ?_, ?_⟩
  · rw [run, takeRun_joins on joins.1 joins.2]
    exact joinList_counts (s := setWarnRun i r s) room
  · have renumbered : takeRun i r s = renumber
        (setWarnRun i { warnRun i (setWarnRun i r s) with join := s.wrn.joinCounter } (setWarnRun i r s)) := by
      rw [takeRun_joins on joins.1 joins.2]
      exact joinList_full (s := setWarnRun i r s) full
    set u := setWarnRun i { warnRun i (setWarnRun i r s) with join := s.wrn.joinCounter } (setWarnRun i r s) with hu
    have before (x : Fin 96) : (warnRun x u).join = if x = i then s.wrn.joinCounter else (warnRun x s).join := by
      rw [hu, warnRun_setWarnRun, warnRun_setWarnRun, warnRun_setWarnRun]
      split <;> rfl
    rw [length, renumbered, renumber_counter, listLength_eq (renumber_listed u)]
    refine ⟨rfl, fun j k listedJ listedK => ?_⟩
    rw [changeRun_listed, renumbered, renumber_listed] at listedJ listedK
    rw [run, run, renumbered, renumber_run, renumber_run, if_pos listedJ, if_pos listedK]
    simp only [joinPlace_lt listedJ, before]
  · rw [run, takeRun_stays stays, warnRun_setWarnRun, if_pos rfl]
    exact ⟨rfl, join⟩
  · by_cases same : listLength (changeRun i r e.chime b s) = listLength s <;> simp [same]
  · rw [changeRun_count rfl, chimeNotices_placings]
    simp [pattern]
  · rw [changeRun_count rfl, chimeNotices_withdrawals]
    simp

/-- What a change brings with it, told from a state before it with the same list, and in one behind it. -/
theorem EntryFollowed.of_outer {s' t' : State} (h : EntryFollowed i s t)
    (table : s.wrn.table = s'.wrn.table) (counter : s.wrn.joinCounter = s'.wrn.joinCounter)
    (run : ∀ j, (warnRun j s).state = (warnRun j s').state ∧ (warnRun j s).join = (warnRun j s').join)
    (slot : s.slot activeWarnings = s'.slot activeWarnings) (now : s.now = s'.now)
    (placings : ∀ p, s.inFlight.count (.requestPlacing (.warning i) p)
      = s'.inFlight.count (.requestPlacing (.warning i) p))
    (withdrawals : s.inFlight.count (.requestWithdrawal (.warning i))
      = s'.inFlight.count (.requestWithdrawal (.warning i)))
    (wrnT : t'.wrn = t.wrn) (slotT : t'.slot activeWarnings = t.slot activeWarnings)
    (placingsT : ∀ p, t'.inFlight.count (.requestPlacing (.warning i) p)
      = t.inFlight.count (.requestPlacing (.warning i) p))
    (withdrawalsT : t'.inFlight.count (.requestWithdrawal (.warning i))
      = t.inFlight.count (.requestWithdrawal (.warning i))) : EntryFollowed i s' t' := by
  have runT (j : Fin 96) : warnRun j t' = warnRun j t := warnRun_eq (by rw [wrnT]) j
  have listed (j : Fin 96) : inActiveList t' j = inActiveList t j := inActiveList_eq (by rw [wrnT]) (by rw [runT])
  have lengthT : listLength t' = listLength t := listLength_eq listed
  have length : listLength s = listLength s' := listLength_eq fun j => by
    rw [inActiveList, inActiveList, warnEnabled, warnEnabled, warnEntry_eq table, (run j).1]
  have top : topWarning t' = topWarning t := topWarning_eq (by rw [wrnT]) (by rw [wrnT])
  unfold EntryFollowed at h ⊢
  simp only [warnEntry_eq table, counter, (run _).1, (run _).2, slot, now, placings, withdrawals, length] at h
  simp only [runT, wrnT, slotT, lengthT, listed, top, placingsT, withdrawalsT]
  exact h

/-- An evaluation that changes the state of an enabled entry brings with it what a change does. -/
theorem evaluate_followed (entry : warnEntry i s = some e) (enabled : e.enabled = true)
    (moves : (warnRun i (evaluate fresh i s)).state ≠ (warnRun i s).state) :
    EntryFollowed i s (evaluate fresh i s) := by
  have eq := evaluate_eq (fresh := fresh) entry
  by_cases stays : (warnRun i s).state = nextState e (formedRun fresh e s (warnRun i s)).cond (warnRun i s)
  · rw [if_pos stays] at eq
    rw [eq, (formEntry_state i).1] at moves
    exact absurd rfl moves
  · rw [if_neg stays] at eq
    rw [eq]
    have frame := formEntry_frame fresh i e s
    have inFlight := frame .inFlight (by decide)
    refine (changeRun_followed (e := e) ?_ enabled ?_).of_outer (frame .warnTable (by decide))
      (frame .warnList (by decide)).1 formEntry_state (frame.slot (by decide) _) (frame .now (by decide))
      (fun p => by rw [inFlight]) (by rw [inFlight]) rfl rfl (fun _ => rfl) rfl
    · rwa [warnEntry_eq (frame .warnTable (by decide))]
    · rw [(formEntry_state i).2, (evaluatedRun_truth _).2.2.2]

end

end Sys2Proof.Machine
end

section
/-! PROOFS. CLEAR_FAULTS: the sources' fresh reports, and the fault memory emptied (R36, R48, R72, R136, R160). -/

namespace Sys2Proof.Machine

/-! ### The fresh reports, one for each condition present -/

/-- A list of distinct arrivals holds each of them once. -/
theorem count_eq_bitNat {l : List Instr} (distinct : l.Nodup) {c : Instr} {b : Bool} (h : c ∈ l ↔ b = true) :
    l.count c = bitNat b := by
  rw [distinct.count, bitNat]
  exact if_congr h rfl rfl

section
variable {s : State}

theorem mem_lineReports (c : Instr) : c ∈ lineReports s ↔
    ∃ (l : Fin 48) (f : LineFailure × Fin 16), lineFault l s = some (.line l f.1, f.2) ∧ c = .faultConditionStart (.line l f.1) f.2 := by
  have named {l : Fin 48} {f : FaultCode × Fin 16} (h : lineFault l s = some f) : ∃ x : LineFailure, f.1 = .line l x := by
    rw [lineFault, Option.map_eq_some_iff] at h
    obtain ⟨x, -, rfl⟩ := h
    exact ⟨x, rfl⟩
  simp only [lineReports, List.mem_filterMap, mem_indices, true_and, Option.map_eq_some_iff]
  constructor
  · rintro ⟨l, ⟨code, cls⟩, fault, rfl⟩
    obtain ⟨x, rfl⟩ := named fault
    exact ⟨l, (x, cls), fault, rfl⟩
  · rintro ⟨l, ⟨x, cls⟩, fault, rfl⟩
    exact ⟨l, _, fault, rfl⟩

theorem lineReports_nodup (s : State) : (lineReports s).Nodup := by
  refine (indices_nodup 48).filterMap fun l k c hl hk => ?_
  simp only [Option.mem_def, Option.map_eq_some_iff, lineFault] at hl hk
  obtain ⟨-, ⟨x, -, rfl⟩, rfl⟩ := hl
  obtain ⟨-, ⟨y, -, rfl⟩, same⟩ := hk
  simp only [Instr.faultConditionStart.injEq, FaultCode.line.injEq] at same
  exact same.1.1.symm

theorem frameConditions_nodup (i : Fin 64) (s : State) : (frameConditions i s).Nodup := by
  have distinct : ∀ a b c d : Bool, ((if a then [FrameFailure.length] else []) ++ (if b then [FrameFailure.sequence] else [])
      ++ (if c then [FrameFailure.timeout] else []) ++ if d then [FrameFailure.senderError] else []).Nodup := by decide
  exact distinct _ _ _ _

/-- The condition of a frame entry is present. -/
def frameFlag (i : Fin 64) (f : FrameFailure) (s : State) : Bool :=
  match f with
  | .length => (frameRun i s).lengthFlag
  | .sequence => (frameRun i s).sequenceFlag
  | .timeout => (frameRun i s).timeoutFlag
  | .senderError => senderErrorPresent i s

theorem mem_frameConditions (i : Fin 64) (f : FrameFailure) (s : State) :
    f ∈ frameConditions i s ↔ frameFlag i f s = true := by
  unfold frameConditions
  cases f <;> simp [frameFlag]

theorem mem_frameReports (c : Instr) : c ∈ frameReports s ↔
    ∃ i f, frameFlag i f s = true ∧ c = .faultConditionStart (.frame i f) (frameClass i s) := by
  simp only [frameReports, List.mem_flatMap, mem_indices, true_and, List.mem_map, mem_frameConditions, eq_comm]

theorem frameReports_nodup (s : State) : (frameReports s).Nodup := by
  refine List.nodup_flatMap.2 ⟨fun i _ => (frameConditions_nodup i s).map fun f g same => ?_,
    (indices_nodup 64).imp fun {i j} other c hi hj => ?_⟩
  · simpa using same
  · obtain ⟨f, -, rfl⟩ := List.mem_map.1 hi
    obtain ⟨g, -, same⟩ := List.mem_map.1 hj
    simp only [Instr.faultConditionStart.injEq, FaultCode.frame.injEq] at same
    exact other same.1.1.symm

/-- The condition of a leaf is present. -/
def doorFlag (l : Fin 8) (f : DoorFailure) (s : State) : Bool :=
  match f with
  | .inconsistent => leafFitted l s && (leafRun l s).inconsistent
  | .transit => leafFitted l s && (leafRun l s).transitFlag

/-- The fresh reports of one leaf. -/
def leafReports (l : Fin 8) (s : State) : List Instr :=
  if leafFitted l s then
    flagReports l (doorEntry l s).faultClass { leafRun l s with inconsistent := false, transitFlag := false }
      (leafRun l s)
  else []

theorem leafReports_eq (l : Fin 8) (s : State) : leafReports l s
    = (if doorFlag l .inconsistent s then [.faultConditionStart (.door l .inconsistent) (doorEntry l s).faultClass] else [])
      ++ if doorFlag l .transit s then [.faultConditionStart (.door l .transit) (doorEntry l s).faultClass] else [] := by
  unfold leafReports flagReports doorFlag
  cases leafFitted l s <;> cases (leafRun l s).inconsistent <;> cases (leafRun l s).transitFlag <;> rfl

theorem mem_leafReports (l : Fin 8) (c : Instr) : c ∈ leafReports l s ↔
    ∃ f, doorFlag l f s = true ∧ c = .faultConditionStart (.door l f) (doorEntry l s).faultClass := by
  rw [leafReports_eq]
  constructor
  · intro member
    rcases List.mem_append.1 member with h | h <;> simp only [List.mem_ite_nil_right, List.mem_singleton] at h
    · exact ⟨.inconsistent, h⟩
    · exact ⟨.transit, h⟩
  · rintro ⟨f, flag, rfl⟩
    cases f <;> simp [flag]

theorem mem_doorReports (c : Instr) : c ∈ doorReports s ↔
    ∃ l f, doorFlag l f s = true ∧ c = .faultConditionStart (.door l f) (doorEntry l s).faultClass := by
  have flat : doorReports s = (indices 8).flatMap fun l => leafReports l s := rfl
  simp only [flat, List.mem_flatMap, mem_indices, true_and, mem_leafReports]

theorem doorReports_nodup (s : State) : (doorReports s).Nodup := by
  have flat : doorReports s = (indices 8).flatMap fun l => leafReports l s := rfl
  rw [flat]
  refine List.nodup_flatMap.2 ⟨fun l _ => ?_,
    (indices_nodup 8).imp fun {l k} other c hl hk => ?_⟩
  · rw [leafReports_eq]
    cases doorFlag l .inconsistent s <;> cases doorFlag l .transit s <;> simp
  · obtain ⟨f, -, rfl⟩ := (mem_leafReports l c).1 hl
    obtain ⟨g, -, same⟩ := (mem_leafReports k _).1 hk
    simp only [Instr.faultConditionStart.injEq, FaultCode.door.injEq] at same
    exact other same.1.1

/-- The fresh reports of all sources. -/
def freshReports (s : State) : List Instr := lineReports s ++ frameReports s ++ speedReports s ++ doorReports s

theorem mem_speedReports (c : Instr) :
    c ∈ speedReports s ↔ s.sdu.plausPresent = true ∧ c = .faultConditionStart .speed 0 := by
  simp [speedReports]

theorem freshReports_count (c : Instr) : (freshReports s).count c
    = (lineReports s).count c + (frameReports s).count c + (speedReports s).count c + (doorReports s).count c := by
  simp only [freshReports, List.count_append]

theorem freshReports_line (l : Fin 48) (f : LineFailure) (cls : Fin 16) :
    (freshReports s).count (.faultConditionStart (.line l f) cls)
      = bitNat (decide (lineFault l s = some (.line l f, cls))) := by
  have own : Instr.faultConditionStart (.line l f) cls ∈ lineReports s
      ↔ decide (lineFault l s = some (.line l f, cls)) = true := by
    rw [mem_lineReports, decide_eq_true_eq]
    constructor
    · rintro ⟨k, ⟨g, d⟩, fault, same⟩
      simp only [Instr.faultConditionStart.injEq, FaultCode.line.injEq] at same
      obtain ⟨⟨rfl, rfl⟩, rfl⟩ := same
      exact fault
    · exact fun fault => ⟨l, (f, cls), fault, rfl⟩
  rw [freshReports_count, count_eq_bitNat (lineReports_nodup s) own, List.count_eq_zero.2 (by simp [mem_frameReports]),
    List.count_eq_zero.2 (by simp [mem_speedReports]), List.count_eq_zero.2 (by simp [mem_doorReports])]
  omega

theorem freshReports_frame (i : Fin 64) (f : FrameFailure) :
    (freshReports s).count (.faultConditionStart (.frame i f) (frameClass i s)) = bitNat (frameFlag i f s) := by
  have own : Instr.faultConditionStart (.frame i f) (frameClass i s) ∈ frameReports s ↔ frameFlag i f s = true := by
    rw [mem_frameReports]
    constructor
    · rintro ⟨j, g, flag, same⟩
      simp only [Instr.faultConditionStart.injEq, FaultCode.frame.injEq] at same
      obtain ⟨⟨rfl, rfl⟩, -⟩ := same
      exact flag
    · exact fun flag => ⟨i, f, flag, rfl⟩
  rw [freshReports_count, count_eq_bitNat (frameReports_nodup s) own, List.count_eq_zero.2 (by simp [mem_lineReports]),
    List.count_eq_zero.2 (by simp [mem_speedReports]), List.count_eq_zero.2 (by simp [mem_doorReports])]
  omega

theorem freshReports_speed :
    (freshReports s).count (.faultConditionStart .speed 0) = bitNat s.sdu.plausPresent := by
  have own : (speedReports s).count (.faultConditionStart .speed 0) = bitNat s.sdu.plausPresent := by
    unfold speedReports
    cases s.sdu.plausPresent <;> simp [bitNat]
  rw [freshReports_count, own, List.count_eq_zero.2 (by simp [mem_lineReports]),
    List.count_eq_zero.2 (by simp [mem_frameReports]), List.count_eq_zero.2 (by simp [mem_doorReports])]
  omega

theorem freshReports_door (l : Fin 8) (f : DoorFailure) :
    (freshReports s).count (.faultConditionStart (.door l f) (doorEntry l s).faultClass) = bitNat (doorFlag l f s) := by
  have own : Instr.faultConditionStart (.door l f) (doorEntry l s).faultClass ∈ doorReports s
      ↔ doorFlag l f s = true := by
    rw [mem_doorReports]
    constructor
    · rintro ⟨k, g, flag, same⟩
      simp only [Instr.faultConditionStart.injEq, FaultCode.door.injEq] at same
      obtain ⟨⟨rfl, rfl⟩, -⟩ := same
      exact flag
    · exact fun flag => ⟨l, f, flag, rfl⟩
  rw [freshReports_count, count_eq_bitNat (doorReports_nodup s) own, List.count_eq_zero.2 (by simp [mem_lineReports]),
    List.count_eq_zero.2 (by simp [mem_frameReports]), List.count_eq_zero.2 (by simp [mem_speedReports])]
  omega

end

/-! ### Effective reads that stay (R13) -/

theorem fallbackOf_eq {s t : State} (signals : t.sst.table = s.sst.table) (i : Slot) : fallbackOf i t = fallbackOf i s := by
  rw [fallbackOf, fallbackOf, signal_eq signals]

/-- An effective read stays where the slot and its fallback do. -/
theorem effRead_kept {s t : State} {i : Slot} (signals : t.sst.table = s.sst.table) (own : t.slot i = s.slot i)
    (back : ∀ f, fallbackOf i s = some f → t.slot f = s.slot f) : effRead i t = effRead i s := by
  rw [effRead, effRead, fallbackOf_eq signals, own]
  cases found : fallbackOf i s with
  | none => rfl
  | some f => simp only [back f found]

/-! ### The stages of CLEAR_FAULTS (R160) -/

/-- The memory emptied, ACTIVE_FAULTS and the event. -/
def emptyMemory (s : State) : State :=
  queueEvent (.faultsCleared .workshop)
    (valueWrite activeFaults 0 .valid { s with flt := { s.flt with records := [], overflow := false } })

/-- The entry is an evaluated one of kind FAULT_CLASS. -/
def isClassEntry (e : WarnEntry) (s : State) : Bool := decide (e.kind = .faultClass) && evaluated e s

theorem evaluated_eq {s t : State} (op : t.opState = s.opState) (signals : t.sst.table = s.sst.table)
    (lines : t.lsc.table = s.lsc.table) (e : WarnEntry) : evaluated e t = evaluated e s := by
  rw [evaluated, evaluated, op, parkedEntry_eq signals lines]

theorem evaluated_steady {s t : State} (frame : ChangesOnly warning s t) (e : WarnEntry) :
    evaluated e t = evaluated e s :=
  evaluated_eq (frame .opState (by decide)) (frame .signalTable (by decide)) (frame .lineTable (by decide)) e

theorem isClassEntry_steady : Steady isClassEntry := fun s t e frame => by
  rw [isClassEntry, isClassEntry, evaluated_steady frame]

theorem clearFaults_eq (s : State) : clearFaults s
    = post (freshReports (setImplausible false (evaluateAllClasses (emptyMemory s))))
        (setImplausible false (evaluateAllClasses (emptyMemory s))) := rfl

theorem evaluateAllClasses_eq (s : State) :
    evaluateAllClasses s = (indices 96).foldl (evaluateIf false isClassEntry) s := rfl

section
variable {s t : State} {i : Fin 96} {e : WarnEntry}

theorem emptyMemory_frame (s : State) :
    ChangesOnly (.records :: .overflow :: writing ++ sending) s (emptyMemory s) := by
  have empty : ChangesOnly (.records :: .overflow :: writing ++ sending) s
      { s with flt := { s.flt with records := [], overflow := false } } := by
    intro p hp
    cases p <;> first | exact OnlyQueues.of_same rfl rfl rfl rfl rfl | simp [Piece.kept] at hp ⊢
  exact empty.trans (((valueWrite_frame _ _ _ _).mono (by decide)).trans ((queueEvent_frame _ _).mono (by decide)))

theorem emptyMemory_flt (s : State) : (emptyMemory s).flt.records = [] ∧ (emptyMemory s).flt.overflow = false := by
  have told := queueEvent_frame (.faultsCleared .workshop)
    (valueWrite activeFaults 0 .valid { s with flt := { s.flt with records := [], overflow := false } })
  have written := valueWrite_frame activeFaults 0 .valid { s with flt := { s.flt with records := [], overflow := false } }
  exact ⟨(told .records (by decide)).trans (written .records (by decide)),
    (told .overflow (by decide)).trans (written .overflow (by decide))⟩

theorem emptyMemory_slot (s : State) (k : Slot) :
    (emptyMemory s).slot k = if k = activeFaults then ⟨0, .valid, some s.now⟩ else s.slot k := by
  have told := queueEvent_frame (.faultsCleared .workshop)
    (valueWrite activeFaults 0 .valid { s with flt := { s.flt with records := [], overflow := false } })
  rw [emptyMemory, told.slot (by decide), valueWrite_internal_slot rfl]
  rfl

theorem emptyMemory_posts (s : State) : PostsOnly isNotice s (emptyMemory s) := by
  have written := valueWrite_posts activeFaults 0 .valid { s with flt := { s.flt with records := [], overflow := false } }
  have told : PostsOnly isNotice (valueWrite activeFaults 0 .valid
      { s with flt := { s.flt with records := [], overflow := false } }) (emptyMemory s) :=
    .of_same (queueEvent_inFlight _ _)
  exact PostsOnly.trans (t := valueWrite activeFaults 0 .valid
      { s with flt := { s.flt with records := [], overflow := false } }) written told

theorem emptyMemory_queued (held : sendingHeld s = true) : Queued [.faultsCleared .workshop] s (emptyMemory s) := by
  have frame := valueWrite_frame activeFaults 0 .valid { s with flt := { s.flt with records := [], overflow := false } }
  have heldW : sendingHeld (valueWrite activeFaults 0 .valid
      { s with flt := { s.flt with records := [], overflow := false } }) = true := (frame .queues (by decide)).held held
  obtain ⟨events, overrun⟩ := frame .events (by decide)
  have queued := queueEvent_queued heldW (.faultsCleared .workshop)
  rw [Queued, events, overrun] at queued
  exact queued

/-! ### The implausible-active indication taken back (R73) -/

/-- The state whose VEHICLE_SPEED is re-formed where the indication changes. -/
def withImplausible (b : Bool) (s : State) : State := { s with sdu := { s.sdu with implausible := b } }

theorem setImplausible_eq (b : Bool) (s : State) :
    setImplausible b s = if s.sdu.implausible = b then s else reform (withImplausible b s) := rfl

theorem setImplausible_posts (b : Bool) (s : State) : PostsOnly isNotice s (setImplausible b s) := by
  rw [setImplausible_eq]
  exact .ite (fun _ => .refl s) fun _ => reform_posts (withImplausible b s)

theorem setImplausible_slot (b : Bool) (s : State) {k : Slot} (other : k ≠ vehicleSpeed ∧ k ≠ driveCycle) :
    (setImplausible b s).slot k = s.slot k := by
  rw [setImplausible_eq]
  split
  · rfl
  · rw [reform_slot, if_neg other.1, if_neg fun h => other.2 h.1]
    rfl

theorem setImplausible_present (b : Bool) (s : State) : (setImplausible b s).sdu.plausPresent = s.sdu.plausPresent := by
  rw [setImplausible_eq]
  split
  · rfl
  · obtain ⟨runs, sdu, -⟩ := reform_sdu (withImplausible b s)
    rw [sdu]
    rfl

theorem setImplausible_set (b : Bool) (s : State) : IndicationSet b s (setImplausible b s) := by
  rw [setImplausible_eq]
  by_cases same : s.sdu.implausible = b
  · rw [if_pos same]
    exact ⟨same, fun other => absurd same.symm other, fun _ => ⟨rfl, rfl, rfl⟩⟩
  · rw [if_neg same]
    obtain ⟨runs, sdu, -⟩ := reform_sdu (withImplausible b s)
    refine ⟨by rw [sdu]; rfl, fun _ => ⟨reform_formed _, reform_tested (withImplausible b s)⟩,
      fun equal => absurd equal.symm same⟩

/-- Where the speeds, the drive cycle and the window stand as they stood, an indication set is one from there. -/
theorem IndicationSet.of_outer {b : Bool} {s' t' : State} (h : IndicationSet b s t)
    (frame : ∀ k, k = vehicleSpeed ∨ k = driveCycle → s.slot k = s'.slot k) (sdu : s.sdu = s'.sdu) (now : s.now = s'.now)
    (sduT : t'.sdu = t.sdu) (slotT : ∀ k, t'.slot k = t.slot k) (opT : t'.opState = t.opState) :
    IndicationSet b s' t' := by
  have formed (h : SpeedFormed t) : SpeedFormed t' := h.of_outer opT sduT (slotT _) (slotT _) fun k _ => slotT k
  have tested (h : SpeedTested s t) : SpeedTested s' t' :=
    h.of_outer (frame driveCycle (.inr rfl)) (by rw [sdu]) now opT (by rw [sduT]) (slotT _) (slotT _)
  obtain ⟨set, changes, stays⟩ := h
  rw [IndicationSet, sduT, ← sdu, slotT, slotT, ← frame vehicleSpeed (.inl rfl), ← frame driveCycle (.inr rfl)]
  exact ⟨set, fun other => ⟨formed (changes other).1, tested (changes other).2⟩, stays⟩

end

end Sys2Proof.Machine
end

section
/-! PROOFS. The workshop's writes: CLEAR_FAULTS and CLEAR_DOOR_COUNTERS (R138, R160, R186, R190). -/

namespace Sys2Proof.Machine

/-! ### A request served as it arrives (R186) -/

section
variable {s t : State} {head : FrameHead}

theorem serve_ready {data : List Byte} (ready : WorkshopReady s) (arrives : Arrives head data s) :
    takeRequest head data s = serve data s := by
  obtain ⟨-, test, response⟩ := ready
  have noTest : endTest s = s := by simp only [endTest, test]
  have noResponse : abandonResponse s = s := by rw [abandonResponse, response]; rfl
  rw [takeRequest_arrives arrives, noTest, noResponse]

/-- A request row at the ready port, by its answer. -/
theorem exec_served {c : Instr} {code : Byte} {params : List Byte} {n : Nat} {a : Answer} (ready : WorkshopReady s)
    (arrives : Arrives head (code :: params) s) (row : requestData c = some (head, code :: params))
    (service : serviceOf code.toNat params s = some (n, a)) (long : n ≤ params.length) :
    exec c s = .next (startResponse code a.result a.data (a.after s)) := by
  have answer : answerRequest code params s = a := by
    rw [answerRequest, service]
    exact if_neg (Nat.not_lt.2 long)
  rw [exec_request row, serve_ready ready arrives]
  show Host.Outcome.next (startResponse code (answerRequest code params s).result (answerRequest code params s).data
    ((answerRequest code params s).after s)) = _
  rw [answer]

theorem standstill_iff (s : State) : standstill s = true ↔
    (s.slot vehicleSpeed).quality.usable = true ∧ (s.slot vehicleSpeed).value < 50 := by
  simp [standstill]

/-! ### The warning unit between two frames -/

theorem EntryMoved.of_fields {e : WarnEntry} {r r' r'' : WarnRun} (h : EntryMoved e s r r') (now : t.now = s.now)
    (state : r''.state = r'.state) (timer : r''.timer = r'.timer) (cond : r''.cond = r'.cond)
    (observed : r''.observed = r'.observed) : EntryMoved e t r r'' := by
  unfold EntryMoved at h ⊢
  rw [now, state, timer, cond, observed]
  exact h

theorem isClassEntry_iff (e : WarnEntry) (s : State) :
    isClassEntry e s = true ↔ e.kind = .faultClass ∧ EvaluatedNow e s := by
  rw [isClassEntry, Bool.and_eq_true, decide_eq_true_eq, evaluatedNow_iff]

/-! ### CLEAR_FAULTS (R160) -/

/-- The part behind the evaluations of the FAULT_CLASS entries. -/
def clearedClasses (s : State) : State := evaluateAllClasses (emptyMemory s)

/-- The part behind the indication taken back. -/
def clearedIndication (s : State) : State := setImplausible false (clearedClasses s)

theorem clearFaults_stages (s : State) :
    clearFaults s = post (freshReports (clearedIndication s)) (clearedIndication s) := rfl

theorem clearedClasses_eq (s : State) :
    clearedClasses s = (indices 96).foldl (evaluateIf false isClassEntry) (emptyMemory s) := rfl

theorem clearedClasses_frame (s : State) : ChangesOnly warning (emptyMemory s) (clearedClasses s) := by
  rw [clearedClasses_eq]
  exact evaluations_frame _ _

theorem clearedIndication_frame (s : State) : ChangesOnly reforming (clearedClasses s) (clearedIndication s) :=
  setImplausible_frame _ _

theorem cleared_frame (s : State) : ChangesOnly recording s (clearedIndication s) :=
  ((emptyMemory_frame s).mono (by decide)).trans (((clearedClasses_frame s).mono (by decide)).trans
    ((clearedIndication_frame s).mono (by decide)))

theorem cleared_wrn (s : State) : (clearedIndication s).wrn = (clearedClasses s).wrn :=
  (clearedIndication_frame s).wrn (by decide) (by decide) (by decide) (by decide)

theorem emptyMemory_wrn (s : State) : (emptyMemory s).wrn = s.wrn :=
  (emptyMemory_frame s).wrn (by decide) (by decide) (by decide) (by decide)

theorem cleared_posts (s : State) : PostsOnly isWarningArrival s (clearedIndication s) := by
  have notice (c : Instr) (h : isNotice c = true) : isWarningArrival c = true := by simp [isWarningArrival, h]
  have classes := evaluations_posts (fresh := false) (test := isClassEntry) (indices 96) (emptyMemory s)
  rw [← clearedClasses_eq] at classes
  exact ((emptyMemory_posts s).mono notice).trans (classes.trans ((setImplausible_posts _ _).mono notice))

theorem clearedClasses_slot {k : Slot} (other : k ≠ activeWarnings) :
    (clearedClasses s).slot k = (emptyMemory s).slot k := by
  rw [clearedClasses_eq]
  exact evaluations_slot _ _ other

theorem cleared_slot {k : Slot} (other : k ≠ vehicleSpeed ∧ k ≠ driveCycle) :
    (clearedIndication s).slot k = (clearedClasses s).slot k := setImplausible_slot _ _ other

/-- The slots that CLEAR_FAULTS leaves as they stood. -/
theorem cleared_settled {k : Slot} (settled : k ≠ activeFaults ∧ k ≠ activeWarnings ∧ k ≠ vehicleSpeed ∧ k ≠ driveCycle) :
    (clearedIndication s).slot k = (emptyMemory s).slot k := by
  obtain ⟨-, length, speed, cycle⟩ := settled
  rw [cleared_slot ⟨speed, cycle⟩, clearedClasses_slot length]

theorem cleared_flt (s : State) :
    (clearedIndication s).flt.records = [] ∧ (clearedIndication s).flt.overflow = false := by
  have frame : ChangesOnly (warning ++ reforming) (emptyMemory s) (clearedIndication s) :=
    ((clearedClasses_frame s).mono (by decide)).trans ((clearedIndication_frame s).mono (by decide))
  obtain ⟨records, overflow⟩ := emptyMemory_flt s
  exact ⟨(frame .records (by decide)).trans records, (frame .overflow (by decide)).trans overflow⟩

/-- The FAULT_CLASS entries are evaluated under the emptied memory, and no other entry is (R99, R101, R160). -/
theorem cleared_evaluated (s : State) : ClassesEvaluated (fun _ => True) True s (clearedIndication s) := by
  have frame := cleared_frame s
  have start := emptyMemory_frame s
  have wrn := emptyMemory_wrn s
  have run (i : Fin 96) : warnRun i (clearedIndication s) = warnRun i (clearedClasses s) :=
    warnRun_eq (by rw [cleared_wrn]) i
  have before (i : Fin 96) : warnRun i (emptyMemory s) = warnRun i s := warnRun_eq (by rw [wrn]) i
  have entries (i : Fin 96) : warnEntry i (emptyMemory s) = warnEntry i s := warnEntry_eq (by rw [wrn]) i
  have concerned (e : WarnEntry) : isClassEntry e (emptyMemory s) = true ↔ e.kind = .faultClass ∧ True ∧ EvaluatedNow e s := by
    rw [isClassEntry, evaluated_eq (start .opState (by decide)) (start .signalTable (by decide))
      (start .lineTable (by decide)), Bool.and_eq_true, decide_eq_true_eq, evaluatedNow_iff, true_and]
  refine ⟨fun i passes => ?_, fun i e entry passes => ?_⟩
  · have kept := evaluations_fails (fresh := false) (s := emptyMemory s) (j := i) isClassEntry_steady (indices 96)
      fun e loaded => Bool.eq_false_iff.2 fun h => passes e (by rwa [entries] at loaded) ((concerned e).1 h)
    rw [← clearedClasses_eq, ← run, before] at kept
    exact kept
  · have kind : e.kind = .faultClass := passes.1
    have loaded : warnEntry i (emptyMemory s) = some e := by rwa [entries]
    obtain ⟨u, between, slots, moved⟩ := evaluations_run (fresh := false) isClassEntry_steady (indices 96)
      (indices_nodup 96) (mem_indices 96 i) loaded ((concerned e).2 passes)
    rw [← clearedClasses_eq, ← run, before] at moved
    obtain ⟨state, timer, truth, unknown, cond, observed⟩ := fields_of_unjoined moved
    obtain ⟨truthE, unknownE, condE, -⟩ := evaluatedRun_truth (fresh := false) (e := e) (s := u) (warnRun i s)
    have records : (clearedIndication s).flt.records = u.flt.records := by
      rw [(cleared_flt s).1, between .records (by decide), (emptyMemory_flt s).1]
    have now : u.now = s.now := (between .now (by decide)).trans (start .now (by decide))
    refine ⟨?_, fun settled => ?_, fun _ => ⟨?_, fun alone enabled moves => ?_⟩⟩
    · obtain ⟨-, -, -, -, -, byClass, -⟩ := formedRun_formed false e u (warnRun i s)
      rw [unknown, unknownE, truth, truthE, records]
      exact byClass kind
    · refine (formedRun_formed_of (s := u) (fun other => absurd kind other) (fun g gated => ?_) records _).of_fields
        (truth.trans truthE) (unknown.trans unknownE) (cond.trans condE)
      obtain ⟨own, back⟩ := settled g gated
      have signals : u.sst.table = s.sst.table :=
        (between .signalTable (by decide)).trans (start .signalTable (by decide))
      refine effRead_kept ((frame .signalTable (by decide)).trans signals.symm) ?_ fun f found => ?_
      · rw [cleared_settled own, slots _ own.2.1]
      · rw [fallbackOf_eq signals] at found
        rw [cleared_settled (back f found), slots _ (back f found).2.1]
    · exact (evaluatedRun_moved e u (warnRun i s)).of_fields now.symm state timer cond observed
    · have single : clearedClasses s = evaluate false i (emptyMemory s) := by
        rw [clearedClasses_eq]
        refine evaluations_single isClassEntry_steady (indices 96) (indices_nodup 96) (mem_indices 96 i) loaded
          ((concerned e).2 passes) fun j other e' loadedJ => Bool.eq_false_iff.2 fun h => ?_
        rw [entries] at loadedJ
        exact alone j other e' loadedJ ((concerned e').1 h)
      have followed := evaluate_followed (fresh := false) loaded enabled (by rwa [← single, ← run, before])
      rw [← single] at followed
      have quiet := emptyMemory_posts s
      have quietT := setImplausible_posts false (clearedClasses s)
      exact followed.of_outer (by rw [wrn]) (by rw [wrn]) (fun j => by rw [before]; exact ⟨rfl, rfl⟩)
        (by rw [emptyMemory_slot, if_neg (by decide)]) (start .now (by decide)) (fun p => quiet.count rfl)
        (quiet.count rfl) (cleared_wrn s) (cleared_slot (by decide)) (fun p => quietT.count rfl) (quietT.count rfl)

theorem cleared_warningsLegal (h : WarningsLegal s) : WarningsLegal (clearedIndication s) := by
  have start := emptyMemory_frame s
  have last := clearedIndication_frame s
  have first : WarningsLegal (emptyMemory s) := h.of_same (start .opState (by decide)) (emptyMemory_wrn s)
    (by rw [emptyMemory_slot, if_neg (by decide)]) (start .signalTable (by decide)) (start .lineTable (by decide))
  have classes := evaluations_warningsLegal (fresh := false) (test := isClassEntry)
    (fun e u _ passes => ((isClassEntry_iff e u).1 passes).2) (indices 96) first
  rw [← clearedClasses_eq] at classes
  exact classes.of_same (last .opState (by decide)) (cleared_wrn s) (cleared_slot (by decide))
    (last .signalTable (by decide)) (last .lineTable (by decide))

theorem cleared_indication (s : State) : IndicationSet false s (clearedIndication s) := by
  have set := setImplausible_set false (clearedClasses s)
  refine set.of_outer (fun k speed => ?_) ?_ ?_ rfl (fun _ => rfl) rfl
  · have other : k ≠ activeWarnings ∧ k ≠ activeFaults := by rcases speed with rfl | rfl <;> decide
    rw [clearedClasses_slot other.1, emptyMemory_slot, if_neg other.2]
  · have frame : ChangesOnly (.records :: .overflow :: warning) s (clearedClasses s) :=
      ((emptyMemory_frame s).mono (by decide)).trans ((clearedClasses_frame s).mono (by decide))
    exact frame.sdu (by decide) (by decide) (by decide) (by decide) (by decide) (by decide)
  · exact (clearedClasses_frame s .now (by decide)).trans (emptyMemory_frame s .now (by decide))

end

end Sys2Proof.Machine
end

section
/-! PROOFS. The workshop's writes: CLEAR_FAULTS as it is answered, and CLEAR_DOOR_COUNTERS (R138, R160, R190). -/

namespace Sys2Proof.Machine

/-! ### CLEAR_FAULTS, answered -/

section
variable {s t t' : State}

theorem TruthFormed.of_reads {e : WarnEntry} {before : Option Bool} {r : WarnRun} (h : TruthFormed e before s r)
    (sst : t.sst = s.sst) (records : t.flt.records = s.flt.records) : TruthFormed e before t r := by
  unfold TruthFormed at h ⊢
  simp only [effRead_eq sst, records]
  exact h

/-- What an evaluation of classes left stands in a state with the same slots, records and warning unit. -/
theorem ClassesEvaluated.of_later {changed : Nat → Prop} {once : Prop} (h : ClassesEvaluated changed once s t)
    (sst : t'.sst = t.sst) (records : t'.flt.records = t.flt.records) (wrn : t'.wrn = t.wrn)
    (requests : ∀ c, isWarningRequest c = true → t'.inFlight.count c = t.inFlight.count c) :
    ClassesEvaluated changed once s t' := by
  have run (i : Fin 96) : warnRun i t' = warnRun i t := warnRun_eq (by rw [wrn]) i
  obtain ⟨others, evaluated⟩ := h
  refine ⟨fun i passes => by rw [run]; exact others i passes, fun i e entry concerned => ?_⟩
  obtain ⟨truth, formed, moved⟩ := evaluated i e entry concerned
  rw [run, records]
  refine ⟨truth, fun settled => (formed settled).of_reads sst records, fun single => ⟨(moved single).1,
    fun alone enabled other => ?_⟩⟩
  exact ((moved single).2 alone enabled other).of_outer rfl rfl (fun _ => ⟨rfl, rfl⟩) rfl rfl (fun _ => rfl) rfl wrn
    (by rw [State.slot, sst]; rfl) (fun _ => requests _ rfl) (requests _ rfl)

/-- The fresh reports are starts of conditions alone. -/
theorem freshReports_starts {c : Instr} (h : c ∈ freshReports s) : ∃ code cls, c = .faultConditionStart code cls := by
  simp only [freshReports, List.mem_append, mem_lineReports, mem_frameReports, mem_speedReports, mem_doorReports] at h
  rcases h with ((⟨l, f, -, rfl⟩ | ⟨i, f, -, rfl⟩) | ⟨-, rfl⟩) | ⟨l, f, -, rfl⟩ <;> exact ⟨_, _, rfl⟩

theorem freshReports_requests {c : Instr} (request : isWarningRequest c = true) : (freshReports s).count c = 0 := by
  refine List.count_eq_zero.2 fun member => ?_
  obtain ⟨code, cls, rfl⟩ := freshReports_starts member
  simp [isWarningRequest] at request

/-- The part as CLEAR_FAULTS leaves it, its response made. -/
def clearedFaults (s : State) : State := startResponse 4 .ok [] (clearFaults s)

theorem clearedFaults_later (s : State) :
    ChangesOnly [.inFlight, .wsResponse] (clearedIndication s) (clearedFaults s) := by
  rw [clearedFaults, clearFaults_stages]
  exact ((post_frame _ _).mono (by decide)).trans ((startResponse_frame _ _ _ _).mono (by decide))

theorem answered_same (code : Byte) (cs : List Instr) (w : State) :
    (startResponse code .ok [] (post cs w)).sst = w.sst ∧ (startResponse code .ok [] (post cs w)).sdu = w.sdu
      ∧ (startResponse code .ok [] (post cs w)).opState = w.opState
      ∧ (startResponse code .ok [] (post cs w)).lsc = w.lsc
      ∧ (startResponse code .ok [] (post cs w)).inFlight = w.inFlight ++ cs := ⟨rfl, rfl, rfl, rfl, rfl⟩

theorem clearedFaults_same (s : State) : (clearedFaults s).sst = (clearedIndication s).sst
    ∧ (clearedFaults s).sdu = (clearedIndication s).sdu ∧ (clearedFaults s).opState = (clearedIndication s).opState
    ∧ (clearedFaults s).lsc = (clearedIndication s).lsc := by
  rw [clearedFaults, clearFaults_stages]
  obtain ⟨sst, sdu, opState, lsc, -⟩ := answered_same 4 (freshReports (clearedIndication s)) (clearedIndication s)
  exact ⟨sst, sdu, opState, lsc⟩

theorem clearedFaults_inFlight (s : State) :
    (clearedFaults s).inFlight = (clearedIndication s).inFlight ++ freshReports (clearedIndication s) := by
  rw [clearedFaults, clearFaults_stages]
  exact (answered_same 4 _ _).2.2.2.2

/-- Each condition present is reported again once. -/
theorem clearedFaults_reports (code : FaultCode) (cls : Fin 16) :
    (clearedFaults s).inFlight.count (.faultConditionStart code cls)
      = s.inFlight.count (.faultConditionStart code cls)
        + (freshReports (clearedIndication s)).count (.faultConditionStart code cls) := by
  rw [clearedFaults_inFlight, List.count_append, (cleared_posts s).count rfl]

theorem lineFault_eq (frame : ChangesOnly recording s t) (l : Fin 48) : lineFault l t = lineFault l s := by
  have lines : t.lsc.lines = s.lsc.lines := frame .lines (by decide)
  have table : t.lsc.table = s.lsc.table := frame .lineTable (by decide)
  simp only [lineFault, lineInForce, lines, table]

theorem frameFlag_eq (frame : ChangesOnly recording s t) (i : Fin 64) (f : FrameFailure) :
    frameFlag i f t = frameFlag i f s := by
  have run : frameRun i t = frameRun i s := by rw [frameRun, frameRun, frame .frameRuns (by decide)]
  have sender : senderErrorPresent i t = senderErrorPresent i s := by
    rw [senderErrorPresent, senderErrorPresent, frameSlots_eq (frame .signalTable (by decide)),
      frame .senderFlags (by decide)]
  cases f <;> simp only [frameFlag, run, sender]

theorem frameClass_eq (frame : ChangesOnly recording s t) (i : Fin 64) : frameClass i t = frameClass i s := by
  rw [frameClass, frameClass, frame .frameTable (by decide)]

theorem doorEntry_eq (table : t.drm.table = s.drm.table) (l : Fin 8) : doorEntry l t = doorEntry l s := by
  rw [doorEntry, doorEntry, table]

theorem leafFitted_eq (table : t.drm.table = s.drm.table) (l : Fin 8) : leafFitted l t = leafFitted l s := by
  simp only [leafFitted, portalExists, leader, doorEntry_eq table]

theorem doorFlag_eq (frame : ChangesOnly recording s t) (l : Fin 8) (f : DoorFailure) : doorFlag l f t = doorFlag l f s := by
  have run : leafRun l t = leafRun l s := by rw [leafRun, leafRun, frame .leaves (by decide)]
  cases f <;> simp only [doorFlag, leafFitted_eq (frame .doorTable (by decide)), run]

theorem cleared_present (s : State) : (clearedIndication s).sdu.plausPresent = s.sdu.plausPresent := by
  have frame : ChangesOnly (.records :: .overflow :: warning) s (clearedClasses s) :=
    ((emptyMemory_frame s).mono (by decide)).trans ((clearedClasses_frame s).mono (by decide))
  rw [clearedIndication, setImplausible_present, (frame .plausibility (by decide)).1]

/-- The faultsCleared event goes first. -/
theorem clearedFaults_queued (held : sendingHeld s = true) :
    ∃ more, Queued (.faultsCleared .workshop :: more) s (clearedFaults s) := by
  have frame : ChangesOnly (.wsResponse :: recording) (emptyMemory s) (clearedFaults s) :=
    ((clearedClasses_frame s).mono (by decide)).trans (((clearedIndication_frame s).mono (by decide)).trans
      ((clearedFaults_later s).mono (by decide)))
  have heldM : sendingHeld (emptyMemory s) = true := (emptyMemory_frame s .queues (by decide)).held held
  obtain ⟨-, -, -, more, queued⟩ := (frame .queues (by decide)).grows heldM
  exact ⟨more, (emptyMemory_queued held).append queued⟩

/-- Served at standstill, CLEAR_FAULTS empties the memory and hands on what follows. -/
theorem exec_clearFaults {head : FrameHead} {more : List Byte} (ready : WorkshopReady s)
    (arrives : Arrives head (4 :: more) s) (still : standstill s = true) :
    exec (.clearFaults ⟨head, more⟩) s = .next (clearedFaults s) := by
  rw [clearedFaults]
  have service : serviceOf (4 : Byte).toNat more s = some (0, accepted [] clearFaults) := by
    show some (0, answerClearFaults s) = _
    rw [answerClearFaults, if_pos still]
  have served := exec_served (c := .clearFaults ⟨head, more⟩) ready arrives rfl service (Nat.zero_le _)
  exact served

theorem exec_clearFaults_moving {head : FrameHead} {more : List Byte} (ready : WorkshopReady s)
    (arrives : Arrives head (4 :: more) s) (moving : ¬standstill s = true) :
    exec (.clearFaults ⟨head, more⟩) s = .next (startResponse 4 .moving [] s) := by
  have service : serviceOf (4 : Byte).toNat more s = some (0, refuse .moving) := by
    show some (0, answerClearFaults s) = _
    rw [answerClearFaults, if_neg moving]
  have served := exec_served (c := .clearFaults ⟨head, more⟩) ready arrives rfl service (Nat.zero_le _)
  exact served

theorem clearedFaults_slot (s : State) (k : Slot) : (clearedFaults s).slot k = (clearedIndication s).slot k := by
  rw [State.slot, State.slot, (clearedFaults_same s).1]

theorem clearedFaults_frame (s : State) : ChangesOnly (.wsResponse :: recording) s (clearedFaults s) :=
  ((cleared_frame s).mono (by decide)).trans ((clearedFaults_later s).mono (by decide))

theorem clearedFaults_wrn (s : State) : (clearedFaults s).wrn = (clearedIndication s).wrn :=
  (clearedFaults_later s).wrn (by decide) (by decide) (by decide) (by decide)

/-- The memory stands empty (R160). -/
theorem clearedFaults_memory (s : State) : (clearedFaults s).flt.records = [] ∧ (clearedFaults s).flt.overflow = false := by
  obtain ⟨records, overflow⟩ := cleared_flt s
  exact ⟨(clearedFaults_later s .records (by decide)).trans records,
    (clearedFaults_later s .overflow (by decide)).trans overflow⟩

theorem clearedFaults_activeFaults (s : State) : (clearedFaults s).slot activeFaults = ⟨0, .valid, some s.now⟩ := by
  rw [clearedFaults_slot, cleared_slot (by decide), clearedClasses_slot (by decide), emptyMemory_slot, if_pos rfl]

theorem clearedFaults_indication (s : State) : IndicationSet false s (clearedFaults s) := by
  obtain ⟨-, sdu, opState, -⟩ := clearedFaults_same s
  exact (cleared_indication s).of_outer (fun _ _ => rfl) rfl rfl sdu (clearedFaults_slot s) opState

theorem clearedFaults_evaluated (s : State) : ClassesEvaluated (fun _ => True) True s (clearedFaults s) := by
  refine (cleared_evaluated s).of_later (clearedFaults_same s).1 (clearedFaults_later s .records (by decide))
    (clearedFaults_wrn s) fun c request => ?_
  rw [clearedFaults_inFlight, List.count_append, freshReports_requests request, Nat.add_zero]

theorem clearedFaults_warningsLegal (h : WarningsLegal s) : WarningsLegal (clearedFaults s) := by
  have later := clearedFaults_later s
  exact (cleared_warningsLegal h).of_same (later .opState (by decide)) (clearedFaults_wrn s) (clearedFaults_slot s _)
    (later .signalTable (by decide)) (later .lineTable (by decide))

/-- A line that stands faulted is reported again. -/
theorem clearedFaults_line (l : Fin 48) (f : LineFailure) (cls : Fin 16) :
    (clearedFaults s).inFlight.count (.faultConditionStart (.line l f) cls)
      = s.inFlight.count (.faultConditionStart (.line l f) cls)
        + bitNat (decide (lineFault l s = some (.line l f, cls))) := by
  rw [clearedFaults_reports, freshReports_line, lineFault_eq (cleared_frame s)]

theorem clearedFaults_frameReport (i : Fin 64) (f : FrameFailure) :
    (clearedFaults s).inFlight.count (.faultConditionStart (.frame i f) (frameClass i s))
      = s.inFlight.count (.faultConditionStart (.frame i f) (frameClass i s)) + bitNat (frameFlag i f s) := by
  rw [clearedFaults_reports, ← frameClass_eq (cleared_frame s), freshReports_frame, frameFlag_eq (cleared_frame s)]

theorem clearedFaults_speed : (clearedFaults s).inFlight.count (.faultConditionStart .speed 0)
    = s.inFlight.count (.faultConditionStart .speed 0) + bitNat s.sdu.plausPresent := by
  rw [clearedFaults_reports, freshReports_speed, cleared_present]

theorem clearedFaults_door (l : Fin 8) (f : DoorFailure) :
    (clearedFaults s).inFlight.count (.faultConditionStart (.door l f) (doorEntry l s).faultClass)
      = s.inFlight.count (.faultConditionStart (.door l f) (doorEntry l s).faultClass) + bitNat (doorFlag l f s) := by
  have table : (clearedIndication s).drm.table = s.drm.table := cleared_frame s .doorTable (by decide)
  rw [clearedFaults_reports, ← doorEntry_eq table, freshReports_door, doorFlag_eq (cleared_frame s)]

/-! ### CLEAR_DOOR_COUNTERS (R138) -/

theorem leafRun_setLeafRun (l k : Fin 8) (r : LeafRun) (s : State) :
    leafRun k (setLeafRun l r s) = if k = l then r else leafRun k s := by
  simp only [leafRun, setLeafRun, Fin.getElem_fin, Vector.getElem_set, Fin.ext_iff, eq_comm]

theorem clearDoorCounters_all (s : State) (l : Fin 8) :
    leafRun l (clearDoorCounters none s) = clearCounters (leafRun l s) := mapTable_getElem clearCounters s.drm.leaves l

theorem clearDoorCounters_portal (p : Fin 4) (s : State) (l : Fin 8) : leafRun l (clearDoorCounters (some p) s)
    = if portalOf l = p then clearCounters (leafRun l s) else leafRun l s := by
  have leaves : portalOf l = p ↔ l = leaderLeaf p ∨ l = secondLeaf p := by
    simp only [portalOf, leaderLeaf, secondLeaf, Fin.ext_iff]
    omega
  have apart : secondLeaf p ≠ leaderLeaf p := by simp [leaderLeaf, secondLeaf]
  show leafRun l (setLeafRun (secondLeaf p) (clearCounters (leafRun (secondLeaf p)
    (setLeafRun (leaderLeaf p) (clearCounters (leafRun (leaderLeaf p) s)) s)))
    (setLeafRun (leaderLeaf p) (clearCounters (leafRun (leaderLeaf p) s)) s)) = _
  rw [leafRun_setLeafRun, leafRun_setLeafRun, leafRun_setLeafRun, if_neg apart]
  by_cases first : l = leaderLeaf p
  · rw [if_neg (first ▸ apart.symm), if_pos first, if_pos (leaves.2 (.inl first)), first]
  · by_cases second : l = secondLeaf p
    · rw [if_pos second, if_pos (leaves.2 (.inr second)), second]
    · rw [if_neg second, if_neg first, if_neg fun h => (leaves.1 h).elim first second]

/-- The portal a byte names, or all of them (R190). -/
theorem absentFF_four (b : Byte) : (3 < b.toNat → b ≠ 0xFF → absentFF 4 b.toNat = none)
    ∧ (b = 0xFF → absentFF 4 b.toNat = some none)
    ∧ ∀ p : Fin 4, b.toNat = p.val → absentFF 4 b.toNat = some (some p) := by
  refine ⟨fun range other => ?_, fun all => by rw [all]; rfl, fun p named => ?_⟩
  · have named : b.toNat ≠ 255 := fun h => other (BitVec.eq_of_toNat_eq h)
    rw [absentFF, if_neg named, toFin?, dif_neg (by omega)]
    rfl
  · have small : p.val ≠ 255 := by omega
    rw [named, absentFF, if_neg small, toFin?, dif_pos p.isLt]
    rfl

/-- The answer to CLEAR_DOOR_COUNTERS, by its parameter byte. -/
theorem exec_clearDoorCounters {head : FrameHead} {b : Byte} {more : List Byte} (ready : WorkshopReady s)
    (arrives : Arrives head (8 :: b :: more) s) {a : Answer} (answer : answerClearCounters (b :: more) s = a) :
    exec (.clearDoorCounters ⟨head, b :: more⟩) s = .next (startResponse 8 a.result a.data (a.after s)) := by
  have service : serviceOf (8 : Byte).toNat (b :: more) s = some (1, a) := by
    show some (1, answerClearCounters (b :: more) s) = _
    rw [answer]
  exact exec_served (c := .clearDoorCounters ⟨head, b :: more⟩) ready arrives rfl service (by simp)

theorem answerClearCounters_range {b : Byte} {more : List Byte} (range : 3 < b.toNat) (other : b ≠ 0xFF) :
    answerClearCounters (b :: more) s = refuse .range := by
  show (absentFF 4 b.toNat).elim _ _ = _
  rw [(absentFF_four b).1 range other]
  rfl

/-- The portal named by a byte in range. -/
theorem portal_of_byte {b : Byte} (h : b.toNat ≤ 3 ∨ b = 0xFF) : ∃ p : Option (Fin 4), absentFF 4 b.toNat = some p
    ∧ ∀ l : Fin 8, (leafRun l (clearDoorCounters p s) = if b = 0xFF ∨ l.val / 2 = b.toNat then
      clearCounters (leafRun l s) else leafRun l s) := by
  by_cases all : b = 0xFF
  · exact ⟨none, (absentFF_four b).2.1 all, fun l => by rw [clearDoorCounters_all, if_pos (.inl all)]⟩
  · have small : b.toNat < 4 := by
      have := h.resolve_right all
      omega
    refine ⟨some ⟨b.toNat, small⟩, (absentFF_four b).2.2 ⟨b.toNat, small⟩ rfl, fun l => ?_⟩
    rw [clearDoorCounters_portal]
    refine if_congr ?_ rfl rfl
    rw [portalOf, Fin.ext_iff, or_iff_right all]

end

end Sys2Proof.Machine
end

section
/-! PROOFS. The calibration written: what a write of each group of fields leaves in the speed unit (R61, R62, R65, R71). -/

namespace Sys2Proof.Machine

section
variable {s s' m t v : State}

/-! ### One re-formation after another -/

/-- The tests that follow a write of VEHICLE_SPEED, and the event they make (R63, R78). -/
def Retested (s t : State) : Prop :=
  SpeedTested s t ∧ (sendingHeld s = true → Queued (closingEvents s t) s t)

theorem reform_retested (s : State) : Retested s (reform s) := ⟨reform_tested s, reform_queued⟩

theorem Retested.of_start (h : Retested s t) (cycle : s.slot driveCycle = s'.slot driveCycle)
    (window : s.sdu.windowOpen = s'.sdu.windowOpen) (now : s.now = s'.now)
    (held : sendingHeld s' = true → sendingHeld s = true)
    (events : s.cli.events = s'.cli.events ∧ s.cli.overrun = s'.cli.overrun) : Retested s' t := by
  obtain ⟨tested, queued⟩ := h
  have closes : windowCloses s' t = windowCloses s t := by rw [windowCloses, windowCloses, window]
  refine ⟨?_, fun k => ?_⟩
  · exact tested.of_outer cycle window now rfl rfl rfl rfl
  · rw [Queued, ← events.1, ← events.2, closingEvents, closes]
    exact queued (held k)

/-- A second re-formation at the same speed tests what the first one tested, and closes nothing more. -/
theorem Retested.trans (first : Retested s m) (second : Retested m t)
    (op : t.opState = m.opState) (value : (t.slot vehicleSpeed).value = (m.slot vehicleSpeed).value)
    (quality : (t.slot vehicleSpeed).quality = (m.slot vehicleSpeed).quality)
    (held : sendingHeld s = true → sendingHeld m = true) : Retested s t := by
  obtain ⟨⟨window, cycles, keeps⟩, queued⟩ := first
  obtain ⟨⟨window', cycles', keeps'⟩, queued'⟩ := second
  have closes : windowCloses s t = windowCloses s m := by rw [windowCloses, windowCloses, value, quality]
  have shut : windowCloses m t = false := by
    rw [windowCloses, window, value, quality, windowCloses]
    cases s.sdu.windowOpen <;> cases (m.slot vehicleSpeed).quality.usable
      <;> cases decide (500 ≤ (m.slot vehicleSpeed).value) <;> rfl
  refine ⟨⟨?_, fun qualifies => ?_, fun stays => ?_⟩, fun k => ?_⟩
  · rw [window', shut, window, closes, Bool.not_false, Bool.and_true]
  · rw [op, value, quality] at qualifies
    have done := cycles qualifies
    rw [keeps' (by rw [done]; exact fun h => h.2.2.2 rfl), done]
  · rw [op, value, quality] at stays
    have same := keeps stays
    rw [keeps' (by rw [op, value, quality, same]; exact stays), same]
  · have none : closingEvents m t = [] := by rw [closingEvents, shut]; rfl
    have both := (queued k).append (queued' (held k))
    rw [none, List.append_nil] at both
    rw [closingEvents, closes]
    exact both

/-- What VEHICLE_SPEED is formed of. -/
theorem effectiveSpeed_eq (op : t.opState = s.opState) (cal : t.sdu.cal = s.sdu.cal)
    (implausible : t.sdu.implausible = s.sdu.implausible) (value : (t.slot pulseSpeed).value = (s.slot pulseSpeed).value)
    (quality : (t.slot pulseSpeed).quality = (s.slot pulseSpeed).quality)
    (source : ∀ i, frameSpeedSlot s = some i → t.slot i = s.slot i) : effectiveSpeed t = effectiveSpeed s := by
  have slotOf : frameSpeedSlot t = frameSpeedSlot s := by rw [frameSpeedSlot, frameSpeedSlot, cal]
  have frame : frameSource t = frameSource s := by
    rw [frameSource, frameSource, op, slotOf]
    cases at_i : frameSpeedSlot s with
    | none => rfl
    | some i => simp only [Option.bind_some, source i at_i]
  unfold effectiveSpeed pulseUsable
  simp only [frame, value, quality, implausible]

theorem reform_speed (s : State) : ((reform s).slot vehicleSpeed).value = (effectiveSpeed s).1
    ∧ ((reform s).slot vehicleSpeed).quality = (effectiveSpeed s).2 := by
  rw [reform_slot, if_pos rfl]
  exact ⟨rfl, rfl⟩

theorem reform_pulse (s : State) : (reform s).slot pulseSpeed = s.slot pulseSpeed := by
  rw [reform_slot, if_neg (by decide), if_neg fun h => absurd h.1 (by decide)]

theorem reform_slot_outer {k : Slot} (outer : 12 ≤ k.val) (s : State) : (reform s).slot k = s.slot k := by
  have speed : k ≠ vehicleSpeed := by
    rintro rfl
    exact absurd outer (by decide)
  have cycle : k ≠ driveCycle := by
    rintro rfl
    exact absurd outer (by decide)
  rw [reform_slot, if_neg speed, if_neg (not_and_of_not_left _ cycle)]

theorem reform_kept (s : State) : (reform s).sdu.plausPresent = s.sdu.plausPresent
    ∧ (reform s).sdu.implausible = s.sdu.implausible := by
  obtain ⟨runs, sdu, -⟩ := reform_sdu s
  rw [sdu]
  exact ⟨rfl, rfl⟩

/-! ### Rest (R65) -/

theorem restWrites_written (h : (s.slot pulseSpeed).writtenAt = some s.now) :
    ((restWrites s).slot pulseSpeed).writtenAt = some s.now := by
  have first (p : Prop) [Decidable p] :
      ((if p then valueWrite pulseSpeed 0 .valid s else s).slot pulseSpeed).writtenAt = some s.now := by
    split
    · rw [valueWrite_internal_slot rfl, if_pos rfl]
    · exact h
  have now (p : Prop) [Decidable p] : (if p then valueWrite pulseSpeed 0 .valid s else s).now = s.now := by
    split
    · exact valueWrite_now _ _ _ s
    · rfl
  unfold restWrites
  simp only
  split
  · exact first _
  · rw [qualityWrite_slot_self, now]

theorem restWrites_retested (s : State) : Retested s (reform (restWrites s)) := by
  have frame := restWrites_frame s
  exact (reform_retested _).of_start (restWrites_slot_other (by decide) s) (by rw [restWrites_sdu])
    (frame .now (by decide)) (frame .queues (by decide)).held (frame .events (by decide))

theorem restQuality_same (cal : t.sdu.cal = s.sdu.cal) (fault : t.lsc.senderFault = s.lsc.senderFault) :
    restQuality t = restQuality s := by rw [restQuality, restQuality, cal, fault]

/-- Brought to rest, PULSE_SPEED stands at 0 with the quality of rest. -/
theorem bringToRest_pulse (s : State) : ((bringToRest s).slot pulseSpeed).value = 0
    ∧ ((bringToRest s).slot pulseSpeed).quality = restQuality s
    ∧ ((s.slot pulseSpeed).quality ≠ restQuality s → ((bringToRest s).slot pulseSpeed).writtenAt = some s.now) := by
  unfold bringToRest
  split
  next rests =>
    simp only [atRest, Bool.and_eq_true, decide_eq_true_eq] at rests
    obtain ⟨⟨value, quality⟩, rest⟩ := rests
    rw [rest]
    exact ⟨value, quality, fun other => absurd quality other⟩
  next =>
    rw [reform_pulse]
    exact restWrites_pulse s

theorem bringToRest_kept (s : State) : (bringToRest s).sdu.plausPresent = s.sdu.plausPresent
    ∧ (bringToRest s).sdu.implausible = s.sdu.implausible := by
  unfold bringToRest
  split
  · exact ⟨rfl, rfl⟩
  · have kept := reform_kept (restWrites s)
    rw [restWrites_sdu] at kept
    exact kept

/-! ### The last step of a calibration write -/

/-- Rest, where the table was unloaded before the write (R62). -/
def restUnless (loaded : Bool) (s : State) : State := if loaded then s else restWrites s

/-- VEHICLE_SPEED formed again behind a calibration write (R62, R71). -/
def settle (loaded : Bool) (s : State) : State := reform (restUnless loaded s)

theorem restUnless_frame (loaded : Bool) (s : State) : ChangesOnly writing s (restUnless loaded s) :=
  .ite (fun _ => .refl _ s) fun _ => restWrites_frame s

theorem settle_frame (loaded : Bool) (s : State) : ChangesOnly reforming s (settle loaded s) :=
  ((restUnless_frame loaded s).mono (by decide)).trans (reform_frame _)

theorem restUnless_slot {k : Slot} (other : k ≠ pulseSpeed) (loaded : Bool) (s : State) :
    (restUnless loaded s).slot k = s.slot k := by
  cases loaded
  · exact restWrites_slot_other other s
  · rfl

theorem settle_kept (loaded : Bool) (s : State) : (settle loaded s).sdu.plausPresent = s.sdu.plausPresent
    ∧ (settle loaded s).sdu.implausible = s.sdu.implausible := by
  have kept := reform_kept (restUnless loaded s)
  cases loaded
  · rw [restUnless, if_neg (by decide), restWrites_sdu] at kept
    exact kept
  · exact kept

theorem settle_retested (loaded : Bool) (s : State) : Retested s (settle loaded s) := by
  cases loaded
  · exact restWrites_retested s
  · exact reform_retested s

theorem settle_pulse_loaded (s : State) : (settle true s).slot pulseSpeed = s.slot pulseSpeed := reform_pulse s

theorem settle_pulse_unloaded (s : State) : (settle false s).slot pulseSpeed = (restWrites s).slot pulseSpeed :=
  reform_pulse _

theorem settle_plausFrom {loaded : Bool} (fresh : s.sdu.plausFrom = none) :
    (settle loaded s).sdu.plausFrom = none ∨ (settle loaded s).sdu.plausFrom = some s.now := by
  have frame := restUnless_frame loaded s
  obtain ⟨-, from_, -⟩ := frame .plausibility (by decide)
  have result := reform_plausFrom (from_.trans fresh)
  rw [frame .now (by decide)] at result
  exact result

/-- Where the table was unloaded, PULSE_SPEED comes to rest. -/
theorem settle_rests {e : CalEntry} (cal : m.sdu.cal = some e) (fault : m.lsc.senderFault = s.lsc.senderFault)
    (now : m.now = s.now) (written : (s.slot pulseSpeed).quality = .notAvailable →
      (m.slot pulseSpeed).quality = .notAvailable ∨ (m.slot pulseSpeed).writtenAt = some s.now) :
    PulseRests s (settle false m) := by
  have rest : restQuality m = if s.lsc.senderFault then .lineFault else .valid := by
    rw [restQuality_eq, cal, fault, if_neg (by simp)]
  obtain ⟨value, quality, moved⟩ := restWrites_pulse m
  rw [PulseRests, settle_pulse_unloaded, ← rest]
  refine ⟨value, quality, fun absent => ?_⟩
  rcases written absent with other | at_now
  · rw [moved (by rw [other, rest]; split <;> decide), now]
  · rw [restWrites_written (at_now.trans (congrArg some now.symm)), now]

/-! ### The measurement under a write (R62) -/

/-- An open measurement window is abandoned: the measurement waits for an edge. -/
def Abandons (s t : State) : Prop :=
  ∀ t0 n, s.sdu.meas = .opened t0 n → t.sdu.meas = .waiting ∧ t.sdu.boundDue = none

/-- Where no window is open, the measurement goes on as it was. -/
def Unmoved (s t : State) : Prop :=
  (∀ t0 n, s.sdu.meas ≠ .opened t0 n) → t.sdu.meas = s.sdu.meas ∧ t.sdu.boundDue = s.sdu.boundDue

/-- An open window dropped. -/
def dropWindow (s : State) : State :=
  match s.sdu.meas with
  | .opened _ _ => awaitEdge s
  | .stopped | .waiting => s

theorem dropWindow_eq (s : State) :
    ∃ meas due, dropWindow s = { s with sdu := { s.sdu with meas := meas, boundDue := due } } := by
  unfold dropWindow
  split
  · exact ⟨_, _, rfl⟩
  · exact ⟨_, _, rfl⟩
  · exact ⟨_, _, rfl⟩

theorem dropWindow_abandons (s : State) : Abandons s (dropWindow s) := by
  intro t0 n opened
  rw [dropWindow, opened]
  exact ⟨rfl, rfl⟩

theorem dropWindow_unmoved (s : State) : Unmoved s (dropWindow s) := by
  intro closed
  cases meas : s.sdu.meas with
  | stopped => rw [dropWindow, meas]; exact ⟨meas, rfl⟩
  | waiting => rw [dropWindow, meas]; exact ⟨meas, rfl⟩
  | opened t0 n => exact absurd meas (closed t0 n)

theorem Abandons.of_same (h : Abandons s t) (start : s'.sdu.meas = s.sdu.meas) (meas : m.sdu.meas = t.sdu.meas)
    (due : m.sdu.boundDue = t.sdu.boundDue) : Abandons s' m := by
  intro t0 n opened
  rw [meas, due]
  exact h t0 n (start.symm.trans opened)

theorem Unmoved.of_same (h : Unmoved s t) (start : s'.sdu.meas = s.sdu.meas) (bound : s'.sdu.boundDue = s.sdu.boundDue)
    (meas : m.sdu.meas = t.sdu.meas) (due : m.sdu.boundDue = t.sdu.boundDue) : Unmoved s' m := by
  intro closed
  rw [meas, due, start, bound]
  exact h fun t0 n opened => closed t0 n (start.trans opened)

theorem abandonWindow_eq (s : State) :
    abandonWindow s = dropWindow { s with sdu := { s.sdu with residue := 0 } } := rfl

/-- The measurement behind standstill, before PULSE_SPEED is brought to rest (R68). -/
def standstillStart (s : State) : State := dropWindow { s with sdu := { s.sdu with standFrom := none } }

theorem takeStandstill_eq (s : State) : takeStandstill s = bringToRest (standstillStart s) := by
  cases meas : s.sdu.meas with
  | stopped => simp only [takeStandstill, standstillStart, dropWindow, meas]
  | waiting => simp only [takeStandstill, standstillStart, dropWindow, meas]
  | opened t0 n => simp only [takeStandstill, standstillStart, dropWindow, meas]

/-! ### The three groups of fields -/

theorem actOnWrite_measuring (loaded : Bool) (s : State) :
    actOnWrite [.measuring] loaded s = settle loaded (abandonWindow s) := rfl

theorem actOnWrite_standstill (loaded : Bool) (s : State) : actOnWrite [.standstill] loaded s
    = settle loaded (if standstillDue s then takeStandstill s else s) := rfl

theorem actOnWrite_plausibility (loaded : Bool) (s : State) : actOnWrite [.plausibility] loaded s
    = settle loaded { s with sdu := { s.sdu with plausFrom := none } } := rfl

theorem actOnWrite_formed (groups : List CalGroup) (loaded : Bool) (s : State) :
    SpeedFormed (actOnWrite groups loaded s) := reform_formed _

/-- A write of a measuring field: no residue, and no open window. -/
theorem actOnWrite_measuring_registers (loaded : Bool) (v : State) :
    (actOnWrite [.measuring] loaded v).sdu.residue = 0 ∧ Abandons v (actOnWrite [.measuring] loaded v)
      ∧ Unmoved v (actOnWrite [.measuring] loaded v)
      ∧ (actOnWrite [.measuring] loaded v).sdu.standFrom = v.sdu.standFrom := by
  rw [actOnWrite_measuring, abandonWindow_eq]
  set u : State := { v with sdu := { v.sdu with residue := 0 } } with hu
  have frame := settle_frame loaded (dropWindow u)
  obtain ⟨meas, -, stand, bound⟩ := frame .measurement (by decide)
  have residue := frame .residue (by decide)
  obtain ⟨m, due, dropped⟩ := dropWindow_eq u
  refine ⟨?_, (dropWindow_abandons u).of_same rfl meas bound, (dropWindow_unmoved u).of_same rfl rfl meas bound, ?_⟩
  · rw [residue, dropped]
  · rw [stand, dropped]

/-- A write of the standstill timeout that is past takes the standstill (R62, R68). -/
theorem actOnWrite_standstill_due {loaded : Bool} {v : State} (due : standstillDue v = true) :
    actOnWrite [.standstill] loaded v = settle loaded (bringToRest (standstillStart v)) := by
  rw [actOnWrite_standstill, if_pos due, takeStandstill_eq]

theorem actOnWrite_standstill_early {loaded : Bool} {v : State} (early : ¬standstillDue v = true) :
    actOnWrite [.standstill] loaded v = settle loaded v := by
  rw [actOnWrite_standstill, if_neg early]

theorem standstillStart_eq (s : State) : ∃ meas due, standstillStart s
    = { s with sdu := { s.sdu with standFrom := none, meas := meas, boundDue := due } } := by
  obtain ⟨meas, due, dropped⟩ := dropWindow_eq { s with sdu := { s.sdu with standFrom := none } }
  exact ⟨meas, due, dropped⟩

theorem settledStandstill_registers (loaded : Bool) (v : State) :
    (settle loaded (bringToRest (standstillStart v))).sdu.residue = v.sdu.residue
      ∧ Abandons v (settle loaded (bringToRest (standstillStart v)))
      ∧ Unmoved v (settle loaded (bringToRest (standstillStart v)))
      ∧ (settle loaded (bringToRest (standstillStart v))).sdu.standFrom = none := by
  have frame : ChangesOnly reforming (standstillStart v) (settle loaded (bringToRest (standstillStart v))) :=
    (bringToRest_frame _).trans (settle_frame _ _)
  obtain ⟨meas, -, stand, bound⟩ := frame .measurement (by decide)
  have residue := frame .residue (by decide)
  have abandons := dropWindow_abandons { v with sdu := { v.sdu with standFrom := none } }
  have unmoved := dropWindow_unmoved { v with sdu := { v.sdu with standFrom := none } }
  obtain ⟨m, due, started⟩ := standstillStart_eq v
  refine ⟨?_, abandons.of_same rfl meas bound, unmoved.of_same rfl rfl meas bound, ?_⟩
  · rw [residue, started]
  · rw [stand, started]

/-- The registers of SDU that no calibration write touches. -/
def RegistersStay (s t : State) : Prop :=
  t.sdu.plausPresent = s.sdu.plausPresent ∧ t.sdu.implausible = s.sdu.implausible ∧ t.sdu.filterRef = s.sdu.filterRef

theorem RegistersStay.trans (first : RegistersStay s m) (second : RegistersStay m t) : RegistersStay s t :=
  ⟨second.1.trans first.1, second.2.1.trans first.2.1, second.2.2.trans first.2.2⟩

theorem settle_stay (loaded : Bool) (s : State) : RegistersStay s (settle loaded s) := by
  obtain ⟨present, implausible⟩ := settle_kept loaded s
  exact ⟨present, implausible, (settle_frame loaded s .measurement (by decide)).2.1⟩

theorem bringToRest_stay (s : State) : RegistersStay s (bringToRest s) := by
  obtain ⟨present, implausible⟩ := bringToRest_kept s
  exact ⟨present, implausible, (bringToRest_frame s .measurement (by decide)).2.1⟩

theorem dropWindow_stay (s : State) : RegistersStay s (dropWindow s) := by
  obtain ⟨meas, due, dropped⟩ := dropWindow_eq s
  rw [dropped]
  exact ⟨rfl, rfl, rfl⟩

theorem standstillStart_stay (s : State) : RegistersStay s (standstillStart s) := by
  obtain ⟨meas, due, started⟩ := standstillStart_eq s
  rw [started]
  exact ⟨rfl, rfl, rfl⟩

theorem actOnWrite_stay (g : CalGroup) (loaded : Bool) (v : State) : RegistersStay v (actOnWrite [g] loaded v) := by
  cases g with
  | measuring =>
    have dropped := dropWindow_stay { v with sdu := { v.sdu with residue := 0 } }
    rw [actOnWrite_measuring, abandonWindow_eq]
    exact RegistersStay.trans (m := dropWindow { v with sdu := { v.sdu with residue := 0 } }) dropped (settle_stay _ _)
  | standstill =>
    by_cases due : standstillDue v = true
    · rw [actOnWrite_standstill_due due]
      exact ((standstillStart_stay v).trans (bringToRest_stay _)).trans (settle_stay _ _)
    · rw [actOnWrite_standstill_early due]
      exact settle_stay _ v
  | plausibility =>
    rw [actOnWrite_plausibility]
    exact settle_stay loaded { v with sdu := { v.sdu with plausFrom := none } }

/-! ### PULSE_SPEED under a calibration write -/

/-- Only a standstill moves PULSE_SPEED while the table is loaded. -/
theorem actOnWrite_pulse_loaded {g : CalGroup} {v : State} (calm : g = .standstill → ¬standstillDue v = true) :
    (actOnWrite [g] true v).slot pulseSpeed = v.slot pulseSpeed := by
  cases g with
  | measuring =>
    obtain ⟨m, due, dropped⟩ := dropWindow_eq { v with sdu := { v.sdu with residue := 0 } }
    rw [actOnWrite_measuring, abandonWindow_eq, settle_pulse_loaded, dropped]
    rfl
  | standstill => rw [actOnWrite_standstill_early (calm rfl), settle_pulse_loaded]
  | plausibility =>
    rw [actOnWrite_plausibility, settle_pulse_loaded]
    rfl

theorem restQuality_loaded {e : CalEntry} (cal : s.sdu.cal = some e) :
    restQuality s = if s.lsc.senderFault then .lineFault else .valid := by
  rw [restQuality_eq, cal, if_neg (by simp)]

theorem loadedRest_ne (b : Bool) : Quality.notAvailable ≠ if b then .lineFault else .valid := by
  cases b <;> decide

/-- A standstill brings PULSE_SPEED to rest. -/
theorem bringToRest_rests {e : CalEntry} (cal : m.sdu.cal = some e) (fault : m.lsc.senderFault = s.lsc.senderFault)
    (now : m.now = s.now) (pulse : m.slot pulseSpeed = s.slot pulseSpeed) : PulseRests s (bringToRest m) := by
  obtain ⟨value, quality, moved⟩ := bringToRest_pulse m
  rw [restQuality_loaded cal, fault] at quality moved
  rw [now, pulse] at moved
  exact ⟨value, quality, fun absent => moved (by rw [absent]; exact loadedRest_ne _)⟩

/-- Where the table was unloaded, every write brings PULSE_SPEED to rest, and so does a standstill (R65, R68). -/
theorem actOnWrite_rests {g : CalGroup} {v : State} {e : CalEntry} (cal : v.sdu.cal = some e) {loaded : Bool}
    (rests : loaded = false ∨ g = .standstill ∧ standstillDue v = true) :
    PulseRests v (actOnWrite [g] loaded v) := by
  by_cases due : g = .standstill ∧ standstillDue v = true
  · obtain ⟨rfl, due⟩ := due
    obtain ⟨meas, bound, started⟩ := standstillStart_eq v
    have brought : PulseRests v (bringToRest (standstillStart v)) := by
      rw [started]
      exact bringToRest_rests cal rfl rfl rfl
    have frame := bringToRest_frame (standstillStart v)
    have calM : (bringToRest (standstillStart v)).sdu.cal = some e := by
      rw [frame .calibration (by decide), started]
      exact cal
    have faultM : (bringToRest (standstillStart v)).lsc.senderFault = v.lsc.senderFault := by
      rw [frame .senderFault (by decide), started]
    have nowM : (bringToRest (standstillStart v)).now = v.now := by rw [frame .now (by decide), started]
    rw [actOnWrite_standstill_due due]
    cases loaded
    · exact settle_rests calM faultM nowM fun absent => .inr (brought.2.2 absent)
    · rw [PulseRests, settle_pulse_loaded]
      exact brought
  · obtain rfl : loaded = false := rests.resolve_right due
    cases g with
    | measuring =>
      obtain ⟨m, bound, dropped⟩ := dropWindow_eq { v with sdu := { v.sdu with residue := 0 } }
      rw [actOnWrite_measuring, abandonWindow_eq, dropped]
      exact settle_rests cal rfl rfl .inl
    | standstill =>
      rw [actOnWrite_standstill_early fun k => due ⟨rfl, k⟩]
      exact settle_rests cal rfl rfl .inl
    | plausibility =>
      rw [actOnWrite_plausibility]
      exact settle_rests cal rfl rfl .inl

/-! ### The tests behind a calibration write -/

/-- Formed after a standstill and again at the end of the write, VEHICLE_SPEED is the same both times, when it is formed
of a slot that no block of the part writes. -/
theorem settledStandstill_retested {v : State} (loaded : Bool) (outer : ∀ i, frameSpeedSlot v = some i → 12 ≤ i.val) :
    Retested v (settle loaded (bringToRest v)) := by
  by_cases rests : atRest v = true
  · rw [bringToRest, if_pos rests]
    exact settle_retested loaded v
  rw [bringToRest, if_neg rests]
  set w := restWrites v with hw
  have written := restWrites_frame v
  have formed := reform_frame w
  have last := restUnless_frame loaded (reform w)
  have sduL : (restUnless loaded (reform w)).sdu = (reform w).sdu := by
    cases loaded
    · exact restWrites_sdu _
    · rfl
  have pulse : ((restUnless loaded (reform w)).slot pulseSpeed).value = (w.slot pulseSpeed).value
      ∧ ((restUnless loaded (reform w)).slot pulseSpeed).quality = (w.slot pulseSpeed).quality := by
    cases loaded
    · obtain ⟨value, quality, -⟩ := restWrites_pulse v
      obtain ⟨value', quality', -⟩ := restWrites_pulse (reform w)
      have same : restQuality (reform w) = restQuality v :=
        restQuality_same ((formed .calibration (by decide)).trans (written .calibration (by decide)))
          ((formed .senderFault (by decide)).trans (written .senderFault (by decide)))
      exact ⟨value'.trans value.symm, (quality'.trans same).trans quality.symm⟩
    · rw [restUnless, if_pos rfl, reform_pulse]
      exact ⟨rfl, rfl⟩
  have speed : effectiveSpeed (restUnless loaded (reform w)) = effectiveSpeed w := by
    refine effectiveSpeed_eq ((last .opState (by decide)).trans (formed .opState (by decide)))
      ((last .calibration (by decide)).trans (formed .calibration (by decide))) ?_ pulse.1 pulse.2 fun i at_i => ?_
    · rw [sduL, (reform_kept w).2]
    · rw [frameSpeedSlot, written .calibration (by decide)] at at_i
      have far := outer i at_i
      have other : i ≠ pulseSpeed := by
        rintro rfl
        exact absurd far (by decide)
      rw [restUnless_slot other, reform_slot_outer far]
  obtain ⟨value, quality⟩ := reform_speed w
  obtain ⟨value', quality'⟩ := reform_speed (restUnless loaded (reform w))
  refine (restWrites_retested v).trans (settle_retested loaded (reform w)) (settle_frame _ _ .opState (by decide)) ?_ ?_
    fun held => (((written.mono (by decide)).trans formed : ChangesOnly reforming v (reform w)) .queues (by decide)).held held
  · exact value'.trans ((congrArg Prod.fst speed).trans value.symm)
  · exact quality'.trans ((congrArg Prod.snd speed).trans quality.symm)

theorem actOnWrite_retested {v : State} (g : CalGroup) (loaded : Bool)
    (outer : ∀ i, frameSpeedSlot v = some i → 12 ≤ i.val) : Retested v (actOnWrite [g] loaded v) := by
  cases g with
  | measuring =>
    obtain ⟨m, bound, dropped⟩ := dropWindow_eq { v with sdu := { v.sdu with residue := 0 } }
    rw [actOnWrite_measuring, abandonWindow_eq, dropped]
    exact (settle_retested loaded _).of_start rfl rfl rfl id ⟨rfl, rfl⟩
  | standstill =>
    by_cases due : standstillDue v = true
    · obtain ⟨m, bound, started⟩ := standstillStart_eq v
      rw [actOnWrite_standstill_due due, started]
      exact (settledStandstill_retested loaded (by exact outer)).of_start rfl rfl rfl id ⟨rfl, rfl⟩
    · rw [actOnWrite_standstill_early due]
      exact settle_retested loaded v
  | plausibility =>
    rw [actOnWrite_plausibility]
    exact (settle_retested loaded _).of_start rfl rfl rfl id ⟨rfl, rfl⟩

end

end Sys2Proof.Machine
end

section
/-! PROOFS. WRITE_CAL as it is answered, and the three writes of the workshop together (R61, R138, R160, R190, R191). -/

namespace Sys2Proof.Machine

section
variable {s t : State}

/-! ### The calibration entered -/

theorem code_of_ofCode {n : Nat} {field : CalField} (h : CalField.ofCode? n = some field) : field.code = n := by
  unfold CalField.ofCode? at h
  split at h
  case h_8 => exact absurd h (by simp)
  all_goals
    obtain rfl := Option.some.inj h
    rfl

/-- The part with its new calibration, CAL_CHANGED told, before the write acts on the speed unit (R60, R61). -/
def recalibrated (e : CalEntry) (code : Nat) (s : State) : State :=
  queueEvent (.calChanged code .workshop) { s with sdu := { s.sdu with cal := some e } }

theorem writeCalibration_eq (e : CalEntry) (code : Nat) (gs : List CalGroup) (s : State) :
    writeCalibration e code .workshop gs s = actOnWrite gs s.sdu.cal.isSome (recalibrated e code s) := rfl

theorem recalibrated_frame (e : CalEntry) (code : Nat) (s : State) :
    ChangesOnly (.calibration :: sending) s (recalibrated e code s) := by
  refine ChangesOnly.trans (t := { s with sdu := { s.sdu with cal := some e } }) ?_
    ((queueEvent_frame _ _).mono (by decide))
  intro p hp
  cases p <;> first | exact OnlyQueues.of_same rfl rfl rfl rfl rfl | simp [Piece.kept] at hp ⊢

theorem recalibrated_sdu (e : CalEntry) (code : Nat) (s : State) :
    (recalibrated e code s).sdu = { s.sdu with cal := some e } := queueEvent_sdu _ _

theorem recalibrated_slot (e : CalEntry) (code : Nat) (s : State) (k : Slot) :
    (recalibrated e code s).slot k = s.slot k := (recalibrated_frame e code s).slot (by decide) k

theorem recalibrated_queued (e : CalEntry) (code : Nat) (held : sendingHeld s = true) :
    Queued [.calChanged code .workshop] s (recalibrated e code s) :=
  queueEvent_queued (s := { s with sdu := { s.sdu with cal := some e } }) held _

/-- The standstill timeout of the written entry is past (R68). -/
def Late (e : CalEntry) (s : State) : Prop := ∃ f, s.sdu.standFrom = some f ∧ f + 10000 * e.standstill ≤ s.now

theorem standstillDue_recalibrated (e : CalEntry) (code : Nat) (s : State) :
    standstillDue (recalibrated e code s) = true ↔ Late e s := by
  have now : (recalibrated e code s).now = s.now := recalibrated_frame e code s .now (by decide)
  rw [standstillDue_iff, calOf, recalibrated_sdu, now]
  rfl

section
variable (e : CalEntry) (code : Nat) (g : CalGroup) (s : State)

/-- The part behind the write, before its response. -/
def calWritten : State := writeCalibration e code .workshop [g] s

theorem calWritten_eq : calWritten e code g s = actOnWrite [g] s.sdu.cal.isSome (recalibrated e code s) := rfl

theorem calWritten_frame : ChangesOnly (.calibration :: .residue :: measuring) s (calWritten e code g s) :=
  writeCalibration_frame _ _ _ _ s

theorem calWritten_cal : (calWritten e code g s).sdu.cal = some e := by
  have frame := actOnWrite_frame [g] s.sdu.cal.isSome (recalibrated e code s) .calibration (by decide)
  rw [calWritten_eq, frame, recalibrated_sdu]

theorem calWritten_stay : RegistersStay s (calWritten e code g s) := by
  have stay := actOnWrite_stay g s.sdu.cal.isSome (recalibrated e code s)
  rw [RegistersStay, recalibrated_sdu] at stay
  exact stay

theorem calWritten_formed : SpeedFormed (calWritten e code g s) := actOnWrite_formed _ _ _

theorem calWritten_measuring (which : g = .measuring) : (calWritten e code g s).sdu.residue = 0
    ∧ Abandons s (calWritten e code g s) ∧ Unmoved s (calWritten e code g s)
    ∧ (calWritten e code g s).sdu.standFrom = s.sdu.standFrom := by
  subst which
  obtain ⟨residue, abandons, unmoved, stand⟩ :=
    actOnWrite_measuring_registers s.sdu.cal.isSome (recalibrated e code s)
  have sdu := recalibrated_sdu e code s
  refine ⟨residue, abandons.of_same (by rw [sdu]) rfl rfl, unmoved.of_same (by rw [sdu]) (by rw [sdu]) rfl rfl, ?_⟩
  rw [calWritten_eq, stand, sdu]

theorem calWritten_late (which : g = .standstill) (late : Late e s) :
    (calWritten e code g s).sdu.residue = s.sdu.residue
      ∧ Abandons s (calWritten e code g s) ∧ Unmoved s (calWritten e code g s)
      ∧ (calWritten e code g s).sdu.standFrom = none := by
  subst which
  have due := (standstillDue_recalibrated e code s).2 late
  obtain ⟨residue, abandons, unmoved, stand⟩ :=
    settledStandstill_registers s.sdu.cal.isSome (recalibrated e code s)
  have sdu := recalibrated_sdu e code s
  rw [calWritten_eq, actOnWrite_standstill_due due]
  refine ⟨?_, abandons.of_same (by rw [sdu]) rfl rfl, unmoved.of_same (by rw [sdu]) (by rw [sdu]) rfl rfl, stand⟩
  rw [residue, sdu]

/-- Where the write only forms VEHICLE_SPEED again, the measurement and the residue stay. -/
theorem settled_measurement (loaded : Bool) (s : State) : (settle loaded s).sdu.residue = s.sdu.residue
    ∧ (settle loaded s).sdu.meas = s.sdu.meas ∧ (settle loaded s).sdu.boundDue = s.sdu.boundDue
    ∧ (settle loaded s).sdu.standFrom = s.sdu.standFrom := by
  have frame := settle_frame loaded s
  obtain ⟨meas, -, stand, bound⟩ := frame .measurement (by decide)
  exact ⟨frame .residue (by decide), meas, bound, stand⟩

theorem calWritten_early (which : g = .standstill) (early : ¬Late e s) :
    (calWritten e code g s).sdu.residue = s.sdu.residue ∧ (calWritten e code g s).sdu.meas = s.sdu.meas
      ∧ (calWritten e code g s).sdu.boundDue = s.sdu.boundDue
      ∧ (calWritten e code g s).sdu.standFrom = s.sdu.standFrom := by
  subst which
  have settled := settled_measurement s.sdu.cal.isSome (recalibrated e code s)
  rw [recalibrated_sdu] at settled
  rw [calWritten_eq, actOnWrite_standstill_early fun due => early ((standstillDue_recalibrated e code s).1 due)]
  exact settled

theorem actOnWrite_plausibility_registers (loaded : Bool) (v : State) :
    (actOnWrite [.plausibility] loaded v).sdu.residue = v.sdu.residue
      ∧ (actOnWrite [.plausibility] loaded v).sdu.meas = v.sdu.meas
      ∧ (actOnWrite [.plausibility] loaded v).sdu.standFrom = v.sdu.standFrom
      ∧ ((actOnWrite [.plausibility] loaded v).sdu.plausFrom = none
        ∨ (actOnWrite [.plausibility] loaded v).sdu.plausFrom = some v.now) := by
  obtain ⟨residue, meas, -, stand⟩ := settled_measurement loaded { v with sdu := { v.sdu with plausFrom := none } }
  exact ⟨residue, meas, stand, settle_plausFrom (s := { v with sdu := { v.sdu with plausFrom := none } }) rfl⟩

theorem calWritten_plausibility (which : g = .plausibility) :
    (calWritten e code g s).sdu.residue = s.sdu.residue ∧ (calWritten e code g s).sdu.meas = s.sdu.meas
      ∧ (calWritten e code g s).sdu.standFrom = s.sdu.standFrom
      ∧ ((calWritten e code g s).sdu.plausFrom = none ∨ (calWritten e code g s).sdu.plausFrom = some s.now) := by
  subst which
  have sdu := recalibrated_sdu e code s
  obtain ⟨residue, meas, stand, timer⟩ :=
    actOnWrite_plausibility_registers s.sdu.cal.isSome (recalibrated e code s)
  rw [recalibrated_frame e code s .now (by decide)] at timer
  rw [sdu] at residue meas stand
  exact ⟨residue, meas, stand, timer⟩

theorem calWritten_pulse (loaded : s.sdu.cal ≠ none) (calm : g = .standstill → ¬Late e s) :
    (calWritten e code g s).slot pulseSpeed = s.slot pulseSpeed := by
  have some : s.sdu.cal.isSome = true := Option.isSome_iff_ne_none.2 loaded
  rw [calWritten_eq, some,
    actOnWrite_pulse_loaded fun k due => calm k ((standstillDue_recalibrated e code s).1 due), recalibrated_slot]

theorem calWritten_rests (rests : s.sdu.cal = none ∨ g = .standstill ∧ Late e s) :
    PulseRests s (calWritten e code g s) := by
  have unloaded : s.sdu.cal.isSome = false ∨ g = .standstill ∧ standstillDue (recalibrated e code s) = true :=
    rests.imp (fun none => by rw [none]; rfl) fun due => ⟨due.1, (standstillDue_recalibrated e code s).2 due.2⟩
  have still := actOnWrite_rests (g := g) (e := e) (by rw [recalibrated_sdu]) unloaded
  have frame := recalibrated_frame e code s
  rw [PulseRests, recalibrated_slot, frame .senderFault (by decide), frame .now (by decide)] at still
  exact still

/-- The tests of the last VEHICLE_SPEED, and the events of the write. -/
theorem calWritten_tested (outer : ∀ i, frameSpeedSlot (calWritten e code g s) = some i → 12 ≤ i.val) :
    SpeedTested s (calWritten e code g s) ∧ (sendingHeld s = true →
      Queued (.calChanged code .workshop :: closingEvents s (calWritten e code g s)) s (calWritten e code g s)) := by
  have outerR : ∀ i, frameSpeedSlot (recalibrated e code s) = some i → 12 ≤ i.val := by
    rw [frameSpeedSlot, recalibrated_sdu]
    rw [frameSpeedSlot, calWritten_cal] at outer
    exact outer
  have frame := recalibrated_frame e code s
  have sdu := recalibrated_sdu e code s
  obtain ⟨tested, queued⟩ := actOnWrite_retested g s.sdu.cal.isSome outerR
  rw [← calWritten_eq] at tested queued
  have closes : windowCloses (recalibrated e code s) (calWritten e code g s) = windowCloses s (calWritten e code g s) := by
    rw [windowCloses, windowCloses, sdu]
  refine ⟨?_, fun held => ?_⟩
  · exact tested.of_outer (recalibrated_slot e code s _) (by rw [sdu]) (frame .now (by decide)) rfl rfl rfl rfl
  · have told := (recalibrated_queued e code held).append (queued ((frame .queues (by decide)).held held))
    rw [closingEvents, closes] at told
    exact told

theorem calWritten_queued (held : sendingHeld s = true) :
    ∃ more, Queued (.calChanged code .workshop :: more) s (calWritten e code g s) := by
  have heldR : sendingHeld (recalibrated e code s) = true := (recalibrated_frame e code s .queues (by decide)).held held
  obtain ⟨-, -, -, more, queued⟩ :=
    (actOnWrite_frame [g] s.sdu.cal.isSome (recalibrated e code s) .queues (by decide)).grows heldR
  exact ⟨more, (recalibrated_queued e code held).append queued⟩

end

/-! ### WRITE_CAL, answered -/

section
variable {head : FrameHead} {b : Byte} {rest : List Byte} {field : CalField}

theorem exec_writeCal (ready : WorkshopReady s) (long : 4 ≤ rest.length) (arrives : Arrives head (10 :: b :: rest) s)
    {a : Answer} (answer : answerWriteCal (b :: rest) s = a) :
    exec (.writeCal ⟨head, b :: rest⟩) s = .next (startResponse 10 a.result a.data (a.after s)) := by
  have service : serviceOf (10 : Byte).toNat (b :: rest) s = some (5, a) := by
    show some (5, answerWriteCal (b :: rest) s) = _
    rw [answer]
  exact exec_served (c := .writeCal ⟨head, b :: rest⟩) ready arrives rfl service (Nat.succ_le_succ long)

theorem answerWriteCal_unknown (unknown : CalField.ofCode? b.toNat = none) :
    answerWriteCal (b :: rest) s = refuse .unknown := by
  show (CalField.ofCode? b.toNat).elim _ _ = _
  rw [unknown]
  rfl

theorem answerWriteCal_known (known : CalField.ofCode? b.toNat = some field) : answerWriteCal (b :: rest) s
    = if s.sdu.windowOpen then
        (calWith field (s32 (b :: rest) 1) s).elim (refuse .range) fun e =>
          accepted [] (writeCalibration e field.code .workshop [field.group])
      else refuse .locked := by
  show (CalField.ofCode? b.toNat).elim _ _ = _
  rw [known]
  rfl

theorem calWith_none {v : Int} (range : v < 0 ∨ (calOf s).setField field v.toNat = none) : calWith field v s = none := by
  by_cases negative : v < 0
  · rw [calWith, if_pos negative]
  · rw [calWith, if_neg negative, range.resolve_left negative]

theorem calWith_some {v : Int} {e : CalEntry} (positive : 0 ≤ v) (set : (calOf s).setField field v.toNat = some e) :
    calWith field v s = some e := by
  rw [calWith, if_neg (Int.not_lt.2 positive), set]

/-- An accepted write. -/
theorem exec_writeCal_ok (ready : WorkshopReady s) (long : 4 ≤ rest.length) (arrives : Arrives head (10 :: b :: rest) s)
    (known : CalField.ofCode? b.toNat = some field) (opened : s.sdu.windowOpen = true) {e : CalEntry}
    (positive : 0 ≤ s32 (b :: rest) 1) (set : (calOf s).setField field (s32 (b :: rest) 1).toNat = some e) :
    exec (.writeCal ⟨head, b :: rest⟩) s = .next (startResponse 10 .ok [] (calWritten e b.toNat field.group s)) := by
  have answer : answerWriteCal (b :: rest) s = accepted [] (calWritten e b.toNat field.group) := by
    rw [answerWriteCal_known known, if_pos opened, calWith_some positive set, code_of_ofCode known]
    rfl
  have served := exec_writeCal ready long arrives answer
  exact served

end

end

end Sys2Proof.Machine
end

section
/-! PROOFS. The workshop's writes together: CLEAR_FAULTS, CLEAR_DOOR_COUNTERS and WRITE_CAL. -/

namespace Sys2Proof.Machine

theorem startResponse_ok (code : Byte) (w : State) :
    (startResponse code .ok [] w).wsp.response = some ⟨segmentsOf code .ok [], none⟩ := rfl

theorem leafRun_startResponse (code : Byte) (w : State) (l : Fin 8) :
    leafRun l (startResponse code .ok [] w) = leafRun l w := rfl

/-- CLEAR_DOOR_COUNTERS by a byte in range: MOVING, or the counters cleared (R138, R190). -/
theorem answerClearCounters_named {s : State} {b : Byte} {more : List Byte} {p : Option (Fin 4)}
    (named : absentFF 4 b.toNat = some p) :
    answerClearCounters (b :: more) s = if standstill s then accepted [] (clearDoorCounters p) else refuse .moving := by
  show (absentFF 4 b.toNat).elim _ _ = _
  rw [named]
  rfl

theorem exec_clearDoorCounters_ok {s : State} {head : FrameHead} {b : Byte} {more : List Byte} {p : Option (Fin 4)}
    (ready : WorkshopReady s) (arrives : Arrives head (8 :: b :: more) s) (named : absentFF 4 b.toNat = some p)
    (still : standstill s = true) :
    exec (.clearDoorCounters ⟨head, b :: more⟩) s = .next (startResponse 8 .ok [] (clearDoorCounters p s)) := by
  have served := exec_clearDoorCounters ready arrives (answerClearCounters_named named)
  rw [if_pos still] at served
  exact served

theorem measuring_of_field {field : CalField} (h : field = .distance ∨ field = .filter ∨ field = .window) :
    field.group = .measuring := by rcases h with rfl | rfl | rfl <;> rfl

theorem plausibility_of_field {field : CalField} (h : field = .frameSlot ∨ field = .tolerance ∨ field = .plausTime) :
    field.group = .plausibility := by rcases h with rfl | rfl | rfl <;> rfl

/-- Settles O52: each write of the workshop is checked in the order of R190 and R191, and does what its block's rules say. -/
theorem workshopWritesAct : Obligations.WorkshopWritesAct := by
  intro s head ready
  have moving : ¬((s.slot vehicleSpeed).quality.usable = true ∧ (s.slot vehicleSpeed).value < 50) →
    ¬standstill s = true := mt (standstill_iff s).1
  refine ⟨fun more arrives moves => exec_clearFaults_moving ready arrives (moving moves), fun more arrives still => ?_,
    fun b more arrives => ?_, fun b rest long arrives => ?_⟩
  · obtain ⟨records, overflow⟩ := clearedFaults_memory s
    refine ⟨clearedFaults s, exec_clearFaults ready arrives ((standstill_iff s).2 still), startResponse_ok _ _, records,
      overflow, clearedFaults_activeFaults s, clearedFaults_indication s, clearedFaults_evaluated s,
      clearedFaults_warningsLegal, ?_, clearedFaults_queued, clearedFaults_frame s⟩
    exact ⟨fun l code cls => clearedFaults_line l code cls,
      fun i => ⟨clearedFaults_frameReport i .length, clearedFaults_frameReport i .sequence,
        clearedFaults_frameReport i .timeout, clearedFaults_frameReport i .senderError⟩,
      clearedFaults_speed, fun l => ⟨clearedFaults_door l .inconsistent, clearedFaults_door l .transit⟩⟩
  · refine ⟨fun range other => exec_clearDoorCounters ready arrives (answerClearCounters_range range other),
      fun named moves => ?_, fun named still => ?_⟩
    · obtain ⟨p, which, -⟩ := portal_of_byte (s := s) named
      have served := exec_clearDoorCounters ready arrives (answerClearCounters_named which)
      rw [if_neg (moving moves)] at served
      exact served
    · obtain ⟨p, which, cleared⟩ := portal_of_byte (s := s) named
      refine ⟨_, exec_clearDoorCounters_ok ready arrives which ((standstill_iff s).2 still), startResponse_ok _ _,
        fun l => ?_, ?_⟩
      · rw [leafRun_startResponse]
        exact cleared l
      · exact ((clearDoorCounters_frame p s).mono (by decide)).trans ((startResponse_frame _ _ _ _).mono (by decide))
  · refine ⟨fun unknown => exec_writeCal ready long arrives (answerWriteCal_unknown unknown),
      fun field known => ⟨fun shut => ?_, fun opened range => ?_, fun e opened positive set => ?_⟩⟩
    · have answer := answerWriteCal_known (s := s) (rest := rest) known
      rw [shut] at answer
      exact exec_writeCal ready long arrives answer
    · have answer := answerWriteCal_known (s := s) (rest := rest) known
      rw [if_pos opened, calWith_none range] at answer
      exact exec_writeCal ready long arrives answer
    · have served := exec_writeCal_ok ready long arrives known opened positive set
      have frame : ChangesOnly (.calibration :: .residue :: .wsResponse :: measuring) s
          (startResponse 10 .ok [] (calWritten e b.toNat field.group s)) :=
        ((calWritten_frame e b.toNat field.group s).mono (by decide)).trans ((startResponse_frame _ _ _ _).mono (by decide))
      have cal := calWritten_cal e b.toNat field.group s
      obtain ⟨present, implausible, filter⟩ := calWritten_stay e b.toNat field.group s
      have formed := calWritten_formed e b.toNat field.group s
      have tested := calWritten_tested e b.toNat field.group s
      have queued := calWritten_queued e b.toNat field.group s
      have stands := calWritten_pulse e b.toNat field.group s
      have rests := calWritten_rests e b.toNat field.group s
      have measuring := calWritten_measuring e b.toNat field.group s
      have late := calWritten_late e b.toNat field.group s
      have early := calWritten_early e b.toNat field.group s
      have plausibility := calWritten_plausibility e b.toNat field.group s
      generalize calWritten e b.toNat field.group s = w at *
      refine ⟨startResponse 10 .ok [] w, served, startResponse_ok _ _, cal, ⟨fun group => ?_, fun group => ?_,
        fun group => ?_, fun unloaded => rests (.inl unloaded)⟩, present, implausible, filter, formed, tested, queued, frame⟩
      · have g := measuring_of_field group
        obtain ⟨residue, abandons, unmoved, stand⟩ := measuring g
        exact ⟨residue, abandons, unmoved, fun loaded => stands loaded fun k => absurd (g.symm.trans k) (by decide), stand⟩
      · have g : field.group = .standstill := by rw [group]; rfl
        by_cases due : Late e s
        · obtain ⟨residue, abandons, unmoved, stand⟩ := late g due
          exact ⟨residue, unmoved, fun _ => ⟨stand, abandons, rests (.inr ⟨g, due⟩)⟩, fun n => absurd due n⟩
        · obtain ⟨residue, meas, bound, stand⟩ := early g due
          exact ⟨residue, fun _ => ⟨meas, bound⟩, fun l => absurd l due,
            fun _ => ⟨stand, meas, bound, fun loaded => stands loaded fun _ => due⟩⟩
      · have g := plausibility_of_field group
        obtain ⟨residue, meas, stand, timer⟩ := plausibility g
        exact ⟨residue, meas, stand, fun loaded => stands loaded fun k => absurd (g.symm.trans k) (by decide), timer⟩

end Sys2Proof.Machine
end

section
/-! PROOFS. The validation of START: what each table's check asks, and the first entry that fails it (R14, R37, R56, R146,
R177). -/

namespace Sys2Proof.Machine

/-! ### What the checks ask -/

/-- A slot of the part itself, or one with a producer. -/
def Configured (i : Slot) (s : State) : Prop := i.val < 12 ∨ ∃ e, s.signal i = some e ∧ e.kind ≠ .unused

/-- A signal table entry whose producer and fallback fit (R14, R37, R56). -/
def SignalFits (s : State) (i : Slot) : Prop := ∀ e, s.signal i = some e →
  (e.kind = .frame → ∃ (k : Fin 64) (f : FrameEntry), k.val = e.index ∧ s.frp.table[k] = some f ∧ f.enabled = true
    ∧ topBit e.msbFirst e.startBit e.length < 8 * f.minLength
    ∧ ∀ m, e.mux = some m → ∃ start len, f.selector = some (start, len) ∧ m < 2 ^ len)
  ∧ (e.kind = .line → ∃ l : Fin 48, l.val = e.index ∧ (s.lsc.table[l].isSome = true ∨ l.val = 0)
    ∧ (∀ list, s.lsc.scan = some list → l ∈ list) ∧ (s.lsc.scan = none → l.val = 0))
  ∧ (12 ≤ i.val → e.fallback ≠ some i)

/-- A door entry whose slots are configured (R146). -/
def DoorFits (s : State) (l : Fin 8) : Prop :=
  let e := doorEntry l s
  e.fitted = true →
    portalExists (portalOf l) s = true ∧ Configured e.closedSlot s ∧ Configured e.openSlot s ∧ Configured e.edgeSlot s
    ∧ (lockFitted l s = true → ∃ i, e.lockedSlot = some i ∧ Configured i s)
    ∧ (l.val % 2 = 0 → ∀ i, e.releaseSlot = some i ∨ e.requestSlot = some i → Configured i s)

def GaugeFits (s : State) (c : Fin 6) : Prop := (gaugeEntry c s).enabled = true → Configured (gaugeEntry c s).source s

def WarningFits (s : State) (i : Fin 96) : Prop := ∀ e, warnEntry i s = some e → e.enabled = true →
  (e.kind ≠ .faultClass → Configured e.source s) ∧ ∀ g, e.gate = some g → Configured g.slot s

def PulseSense (s : State) (l : Fin 48) : Prop := ∃ e, s.lsc.table[l] = some e ∧ e.cls = .pulseSense

section
variable {s : State}

theorem configured_iff (i : Slot) (s : State) : configured i s = true ↔ Configured i s := by
  simp [configured, isInternal, Configured, Option.any_eq_true]

theorem toFin?_bind_any {n : Nat} (x : Nat) (p : Fin n → Bool) :
    (toFin? n x).any p = true ↔ ∃ k : Fin n, k.val = x ∧ p k = true := by
  unfold toFin?
  split
  · rename_i small
    simp only [Option.any_some]
    exact ⟨fun h => ⟨⟨x, small⟩, rfl, h⟩, fun ⟨k, at_k, h⟩ => by subst at_k; exact h⟩
  · rename_i large
    simp only [Option.any_none, Bool.false_eq_true, false_iff]
    rintro ⟨k, at_k, -⟩
    exact large (at_k ▸ k.isLt)

theorem frameProducerFits_iff (e : SignalEntry) : frameProducerFits e s = true ↔
    ∃ (k : Fin 64) (f : FrameEntry), k.val = e.index ∧ s.frp.table[k] = some f ∧ f.enabled = true
      ∧ topBit e.msbFirst e.startBit e.length < 8 * f.minLength
      ∧ ∀ m, e.mux = some m → ∃ start len, f.selector = some (start, len) ∧ m < 2 ^ len := by
  have bind {α β : Type} (o : Option α) (f : α → Option β) (p : β → Bool) :
      (o.bind f).any p = o.any fun a => (f a).any p := by cases o <;> rfl
  rw [frameProducerFits, bind, toFin?_bind_any]
  simp only [Option.any_eq_true, Option.all_eq_true, Bool.and_eq_true, decide_eq_true_eq, Prod.exists, and_assoc,
    exists_and_left]

theorem lineProducerFits_iff (e : SignalEntry) : lineProducerFits e s = true ↔
    ∃ l : Fin 48, l.val = e.index ∧ (s.lsc.table[l].isSome = true ∨ l.val = 0)
      ∧ (∀ list, s.lsc.scan = some list → l ∈ list) ∧ (s.lsc.scan = none → l.val = 0) := by
  rw [lineProducerFits, toFin?_bind_any]
  refine exists_congr fun l => and_congr_right fun _ => ?_
  cases s.lsc.scan <;> simp [and_comm]

theorem signalFits_iff (i : Slot) : signalFits i s = true ↔ SignalFits s i := by
  rw [signalFits, SignalFits]
  simp only [Option.all_eq_true, Bool.and_eq_true, Bool.or_eq_true, isInternal, decide_eq_true_eq]
  refine forall_congr' fun e => forall_congr' fun _ => ?_
  rw [← and_assoc]
  refine and_congr ?_ ?_
  · cases kind : e.kind <;> simp [frameProducerFits_iff, lineProducerFits_iff]
  · rw [or_iff_not_imp_left, Nat.not_lt]

theorem doorFits_iff (l : Fin 8) : doorFits l s = true ↔ DoorFits s l := by
  have pair : l.val % 2 = 1 ↔ ¬l.val % 2 = 0 := by omega
  have slots (a b : Option Slot) : (a.all (fun i => configured i s) = true ∧ b.all (fun i => configured i s) = true)
      ↔ ∀ i, a = some i ∨ b = some i → Configured i s := by
    simp only [Option.all_eq_true, configured_iff, or_imp, forall_and]
  rw [doorFits, DoorFits]
  simp only [Bool.or_eq_true, Bool.and_eq_true, Bool.not_eq_true', decide_eq_true_eq, configured_iff, slots, pair,
    Option.any_eq_true, and_assoc]
  cases (doorEntry l s).fitted <;> cases lockFitted l s <;> simp [or_iff_not_imp_left]

theorem gaugeFits_iff (c : Fin 6) : gaugeFits c s = true ↔ GaugeFits s c := by
  rw [gaugeFits, GaugeFits, Bool.or_eq_true, Bool.not_eq_true', configured_iff, or_iff_not_imp_left, Bool.not_eq_false]

theorem warningFits_iff (i : Fin 96) : warningFits i s = true ↔ WarningFits s i := by
  rw [warningFits, WarningFits]
  simp only [Option.all_eq_true, Bool.or_eq_true, Bool.not_eq_true', Bool.and_eq_true, decide_eq_true_eq, configured_iff]
  refine forall_congr' fun e => forall_congr' fun _ => ?_
  rw [or_iff_not_imp_left, Bool.not_eq_false, or_iff_not_imp_left]

/-! ### The first that fails -/

theorem firstUnfit_at {n : Nat} (table : Nat) {fits : Fin n → State → Bool} {i : Fin n} (unfit : ¬fits i s = true)
    (first : ∀ j < i, fits j s = true) : firstUnfit table fits s = some (table, i.val) := by
  have found : (indices n).find? (fun i => !fits i s) = some i := by
    rw [indices, List.find?_eq_some_iff_getElem]
    refine ⟨by simpa using unfit, i.val, by simp, by simp, fun j before => ?_⟩
    simp [first ⟨j, by omega⟩ before]
  rw [firstUnfit, found]
  rfl

theorem firstUnfit_none {n : Nat} (table : Nat) {fits : Fin n → State → Bool} (all : ∀ i, fits i s = true) :
    firstUnfit table fits s = none := by
  have found : (indices n).find? (fun i => !fits i s) = none := by simp [all]
  rw [firstUnfit, found]
  rfl

/-- The lines of class PULSE_SENSE, ascending (R56). -/
def senders (s : State) : List (Fin 48) :=
  (indices 48).filter fun l => s.lsc.table[l].any fun e => decide (e.cls = .pulseSense)

theorem mem_senders (l : Fin 48) : l ∈ senders s ↔ PulseSense s l := by
  simp only [senders, List.mem_filter, mem_indices, true_and, Option.any_eq_true, decide_eq_true_eq, PulseSense]

theorem senders_ascending (s : State) : (senders s).Pairwise (· < ·) :=
  (List.pairwise_lt_finRange 48).filter _

theorem secondPulseSense_at {k l : Fin 48} (below : k < l) (first : PulseSense s k) (second : PulseSense s l)
    (only : ∀ m < l, PulseSense s m → m = k) : secondPulseSense s = some l := by
  have ascending := senders_ascending s
  rw [← mem_senders] at first second
  replace only : ∀ m < l, m ∈ senders s → m = k := fun m before member => only m before ((mem_senders m).1 member)
  show (senders s)[1]? = some l
  generalize senders s = list at *
  match list with
  | [] => simp at first
  | [a] => exact absurd ((List.mem_singleton.1 first).trans (List.mem_singleton.1 second).symm) below.ne
  | a :: b :: rest =>
    simp only [List.pairwise_cons, List.mem_cons, forall_eq_or_imp] at ascending
    obtain ⟨⟨ab, below_a⟩, below_b, -⟩ := ascending
    show some b = some l
    simp only [List.mem_cons] at first second
    rcases second with rfl | rfl | later
    · rcases first with rfl | rfl | later
      · exact absurd below (lt_irrefl _)
      · exact absurd (ab.trans below) (lt_irrefl _)
      · exact absurd ((below_a k later).trans below) (lt_irrefl _)
    · rfl
    · have at_a := only a (below_a l later) List.mem_cons_self
      have at_b := only b (below_b l later) (by simp)
      exact absurd (at_a.trans at_b.symm) ab.ne

theorem secondPulseSense_none (one : ∀ k l, PulseSense s k → PulseSense s l → k = l) : secondPulseSense s = none := by
  have ascending := senders_ascending s
  replace one : ∀ k l, k ∈ senders s → l ∈ senders s → k = l :=
    fun k l hk hl => one k l ((mem_senders k).1 hk) ((mem_senders l).1 hl)
  show (senders s)[1]? = none
  generalize senders s = list at *
  match list with
  | [] => rfl
  | [a] => rfl
  | a :: b :: rest =>
    simp only [List.pairwise_cons, List.mem_cons, forall_eq_or_imp] at ascending
    exact absurd (one a b (by simp) (by simp)) ascending.1.1.ne

theorem startFault_unloaded (unloaded : s.sdu.cal = none) : startFault s = some (11, 0) := by
  rw [startFault, unloaded]
  rfl

/-- The tables one behind the other (R177). -/
theorem startFault_loaded (loaded : s.sdu.cal ≠ none) : startFault s = (firstUnfit 1 signalFits s
    <|> (secondPulseSense s).map (fun l => (3, l.val)) <|> firstUnfit 6 doorFits s <|> firstUnfit 7 gaugeFits s
    <|> firstUnfit 8 warningFits s) := by
  have some : s.sdu.cal.isNone = false := by rwa [Option.isNone_eq_false_iff, Option.isSome_iff_ne_none]
  rw [startFault, some]
  rfl

end

end Sys2Proof.Machine
end

section
/-! PROOFS. The entry into RUN: the blocks one behind the other, and what each of the first three leaves (R178, R181). -/

namespace Sys2Proof.Machine

/-! ### Blocks told in an open order -/

/-- What is changed, with the slots that may be among it. -/
def Touches (ps : List Piece) (ks : List Slot) (s t : State) : Prop :=
  ChangesOnly ps s t ∧ ∀ k, k ∉ ks → t.slot k = s.slot k

section
variable {ps qs : List Piece} {ks js : List Slot} {s t u : State}

theorem Touches.refl (ps : List Piece) (ks : List Slot) (s : State) : Touches ps ks s s := ⟨.refl ps s, fun _ _ => rfl⟩

theorem Touches.trans (h : Touches ps ks s t) (k : Touches ps ks t u) : Touches ps ks s u :=
  ⟨h.1.trans k.1, fun i other => (k.2 i other).trans (h.2 i other)⟩

theorem Touches.mono (h : Touches ps ks s t) (pieces : ps ⊆ qs) (slots : ks ⊆ js) : Touches qs js s t :=
  ⟨h.1.mono pieces, fun i other => h.2 i fun member => other (slots member)⟩

variable {R : State → State → Prop} {a b c : State → State}

/-- The other two blocks act before one of three and behind it. -/
theorem threeInOrder_first (refl : ∀ s, R s s) (trans : ∀ {s t u}, R s t → R t u → R s u) (hb : ∀ s, R s (b s))
    (hc : ∀ s, R s (c s)) (order : Fin 6) (s : State) : ∃ u, R s u ∧ R (a u) (threeInOrder order a b c s) := by
  unfold threeInOrder
  split
  · exact ⟨s, refl s, trans (hb _) (hc _)⟩
  · exact ⟨s, refl s, trans (hc _) (hb _)⟩
  · exact ⟨b s, hb s, hc _⟩
  · exact ⟨c (b s), trans (hb s) (hc _), refl _⟩
  · exact ⟨c s, hc s, hb _⟩
  · exact ⟨b (c s), trans (hc s) (hb _), refl _⟩

theorem threeInOrder_swap (order : Fin 6) : ∃ order', threeInOrder order a b c s = threeInOrder order' b a c s := by
  fin_cases order
  exacts [⟨2, rfl⟩, ⟨3, rfl⟩, ⟨0, rfl⟩, ⟨1, rfl⟩, ⟨5, rfl⟩, ⟨4, rfl⟩]

theorem threeInOrder_turn (order : Fin 6) : ∃ order', threeInOrder order a b c s = threeInOrder order' c a b s := by
  fin_cases order
  exacts [⟨3, rfl⟩, ⟨2, rfl⟩, ⟨5, rfl⟩, ⟨4, rfl⟩, ⟨0, rfl⟩, ⟨1, rfl⟩]

/-! ### Entries visited one behind the other -/

/-- A walk that changes at each index that index's own run-time state: each is reached once, in a state between. -/
theorem visited {β : Type} {n : Nat} {f : State → Fin n → State} {run : Fin n → State → β}
    (frame : ∀ s i, ChangesOnly ps s (f s i)) (other : ∀ s i j, j ≠ i → run j (f s i) = run j s) (l : List (Fin n))
    (distinct : l.Nodup) {j : Fin n} (listed : j ∈ l) (s : State) :
    ∃ u, ChangesOnly ps s u ∧ run j u = run j s ∧ run j (l.foldl f s) = run j (f u j) := by
  have unlisted (m : List (Fin n)) (absent : j ∉ m) (u : State) : run j (m.foldl f u) = run j u := by
    induction m generalizing u with
    | nil => rfl
    | cons i m ih =>
      simp only [List.mem_cons, not_or] at absent
      rw [List.foldl_cons, ih absent.2, other u i j absent.1]
  obtain ⟨before, after, rfl⟩ := List.append_of_mem listed
  obtain ⟨-, tail, apart⟩ := List.nodup_append.1 distinct
  refine ⟨before.foldl f s, .foldl frame before s, unlisted before (fun member => ?_) s, ?_⟩
  · exact apart j member j List.mem_cons_self rfl
  · rw [List.foldl_append, List.foldl_cons, unlisted after (List.nodup_cons.1 tail).1]

/-! ### The frame path (R33) -/

theorem frpEnterRun_run {i : Fin 64} {e : FrameEntry} (entry : s.frp.table[i] = some e) (enabled : e.enabled = true) :
    frameRun i (frpEnterRun s)
      = { frameRun i s with timer := .firstWait (s.now + 10000 * e.firstTimeout), aliveRef := none, seqRun := 0 } := by
  set f : State → Fin 64 → State := fun u j => (s.frp.table[j].filter FrameEntry.enabled).elim u fun e =>
    setFrameRun j { frameRun j u with timer := .firstWait (u.now + 10000 * e.firstTimeout), aliveRef := none, seqRun := 0 } u
    with hf
  have walk : frpEnterRun s = (indices 64).foldl f s := by
    rw [frpEnterRun, entries_eq, List.foldl_map]
  have frame (u : State) (j : Fin 64) : ChangesOnly [.frameRuns] u (f u j) :=
    .elim _ (.refl _ u) fun _ => setFrameRun_frame _ _ u
  have other (u : State) (k j : Fin 64) (apart : j ≠ k) : frameRun j (f u k) = frameRun j u := by
    simp only [hf]
    cases s.frp.table[k].filter FrameEntry.enabled with
    | none => rfl
    | some e => rw [Option.elim_some, frameRun_setFrameRun, if_neg apart]
  obtain ⟨u, between, same, reached⟩ := visited frame other (indices 64) (indices_nodup 64) (mem_indices 64 i) s
  have taken : s.frp.table[i].filter FrameEntry.enabled = some e := by rw [entry, Option.filter_some, if_pos enabled]
  rw [walk, reached, hf]
  simp only [taken, Option.elim_some]
  rw [frameRun_setFrameRun, if_pos rfl, same, between .now (by decide)]

/-! ### The gauges (R87, R90) -/

theorem gaugeRun_setGaugeRun (c d : Fin 6) (r : GaugeRun) (s : State) :
    gaugeRun d (setGaugeRun c r s) = if d = c then r else gaugeRun d s := by
  simp only [gaugeRun, setGaugeRun, Fin.getElem_fin, Vector.getElem_set, Fin.ext_iff, eq_comm]

theorem gaugeEntry_eq (table : t.gdr.table = s.gdr.table) (c : Fin 6) : gaugeEntry c t = gaugeEntry c s := by
  rw [gaugeEntry, gaugeEntry, table]

theorem gdrEnterRun_filters (s : State) : FiltersRestart s (gdrEnterRun s) := by
  set f : State → Fin 6 → State := fun u c =>
    setGaugeRun c (if (gaugeEntry c u).enabled then restartFilter (restartHold (gaugeRun c u))
      else restartHold (gaugeRun c u)) u with hf
  have walk : gdrEnterRun s = (indices 6).foldl f (setPhase none s) := rfl
  have frame (u : State) (c : Fin 6) : ChangesOnly [.gaugeRuns] u (f u c) := setGaugeRun_frame _ _ u
  have phase : ChangesOnly [.gaugeRuns] (setPhase none s) (gdrEnterRun s) := by
    rw [walk]
    exact .foldl frame _ _
  refine ⟨(phase .sweepPhase (by decide)).trans rfl, fun c => ?_⟩
  have other (u : State) (k j : Fin 6) (apart : j ≠ k) : gaugeRun j (f u k) = gaugeRun j u := by
    rw [hf, gaugeRun_setGaugeRun, if_neg apart]
  obtain ⟨u, between, same, reached⟩ :=
    visited frame other (indices 6) (indices_nodup 6) (mem_indices 6 c) (setPhase none s)
  have entry : gaugeEntry c u = gaugeEntry c s := gaugeEntry_eq (between .gaugeTable (by decide)) c
  have start : gaugeRun c u = gaugeRun c s := same
  rw [walk, reached, hf]
  simp only [gaugeRun_setGaugeRun, entry, start, if_true]
  split
  · rfl
  · rfl

theorem FiltersRestart.of_outer {s' t' : State} (h : FiltersRestart s t) (runs : s.gdr.run = s'.gdr.run)
    (table : s.gdr.table = s'.gdr.table) (phaseT : t'.gdr.sweepPhase = t.gdr.sweepPhase)
    (runsT : t'.gdr.run = t.gdr.run) : FiltersRestart s' t' := by
  obtain ⟨phase, gauges⟩ := h
  have run (c : Fin 6) : gaugeRun c s = gaugeRun c s' := by rw [gaugeRun, gaugeRun, runs]
  refine ⟨phaseT.trans phase, fun c => ?_⟩
  have restarted := gauges c
  rw [run, gaugeEntry_eq table] at restarted
  rw [gaugeRun, runsT]
  exact restarted

/-! ### The state before the speed unit, the warning unit and the door monitor are told -/

/-- The operating state, the park delay, frame path, scanner and gauges: always in this order. -/
def runBase (cause : StateCause) (s : State) : State :=
  gdrEnterRun (lscEnterRun false (frpEnterRun (bumpFree (parkDelayAtRun (setOpState .run cause s)))))

/-- The blocks that are told in an open order. -/
def runTold (cause : StateCause) (s : State) : State :=
  threeInOrder (Config.tellOrder (parkDelayAtRun (setOpState .run cause s)).freeCount) sduEnterRun (wrnEnterRun false)
    (drmEnterRun false) (runBase cause s)

theorem enterRun_eq (cause : StateCause) (s : State) : enterRun cause false s = takeZeroDelay (runTold cause s) := rfl

/-- What the base changes. -/
def basing : List Piece :=
  .opState :: .parkDelay :: .freeCount :: .frameRuns :: .scanPlay :: .inFlight :: .sweepPhase :: .gaugeRuns :: sending

variable {cause : StateCause}

theorem runBase_frame (cause : StateCause) (s : State) : ChangesOnly basing s (runBase cause s) :=
  ((setOpState_frame .run cause s).mono (by decide)).trans (((parkDelayAtRun_frame _).mono (by decide)).trans
    (((bumpFree_frame _).mono (by decide)).trans (((frpEnterRun_frame _).mono (by decide)).trans
      (((lscEnterRun_frame false _).mono (by decide)).trans ((gdrEnterRun_frame _).mono (by decide))))))

/-- What follows the park delay leaves the operating state and the delay. -/
theorem runBase_delayed (cause : StateCause) (s : State) :
    ChangesOnly (.freeCount :: .frameRuns :: .scanPlay :: .inFlight :: [.sweepPhase, .gaugeRuns])
      (parkDelayAtRun (setOpState .run cause s)) (runBase cause s) :=
  ((bumpFree_frame _).mono (by decide)).trans (((frpEnterRun_frame _).mono (by decide)).trans
    (((lscEnterRun_frame false _).mono (by decide)).trans ((gdrEnterRun_frame _).mono (by decide))))

theorem runBase_opState (cause : StateCause) (s : State) : (runBase cause s).opState = .run := by
  rw [runBase_delayed cause s .opState (by decide), parkDelayAtRun_frame _ .opState (by decide)]
  exact setOpState_opState _ s .run

theorem runBase_parkDue (cause : StateCause) (s : State) : (runBase cause s).cli.parkDue
    = if ignitionIs 0 s then some (s.now + 1000 * (1000 * (linkOf s).parkDelay)) else none := by
  have entered := setOpState_frame .run cause s
  have ignition : ignitionIs 0 (setOpState .run cause s) = ignitionIs 0 s := by
    rw [ignitionIs, ignitionIs, entered.slot (by decide)]
  have link : linkOf (setOpState .run cause s) = linkOf s := by rw [linkOf, linkOf, entered .link (by decide)]
  rw [runBase_delayed cause s .parkDelay (by decide), parkDelayAtRun, ignition]
  split
  · show some (dueIn _ _) = _
    rw [dueIn, link, entered .now (by decide)]
  · exact setOpState_parkDue _ s .run

theorem runBase_frames {i : Fin 64} {e : FrameEntry} (entry : s.frp.table[i] = some e) (enabled : e.enabled = true) :
    (frameRun i (runBase cause s)).timer = .firstWait (s.now + 10000 * e.firstTimeout)
      ∧ (frameRun i (runBase cause s)).aliveRef = none ∧ (frameRun i (runBase cause s)).seqRun = 0 := by
  set u := bumpFree (parkDelayAtRun (setOpState .run cause s)) with hu
  have early : ChangesOnly (.freeCount :: .opState :: .parkDelay :: sending) s u :=
    ((setOpState_frame .run cause s).mono (by decide)).trans (((parkDelayAtRun_frame _).mono (by decide)).trans
      ((bumpFree_frame _).mono (by decide)))
  have late : ChangesOnly (.scanPlay :: .inFlight :: [.sweepPhase, .gaugeRuns]) (frpEnterRun u) (runBase cause s) :=
    ((lscEnterRun_frame false _).mono (by decide)).trans ((gdrEnterRun_frame _).mono (by decide))
  have loaded : u.frp.table[i] = some e := by rw [early .frameTable (by decide), entry]
  have run : frameRun i (runBase cause s) = frameRun i (frpEnterRun u) := by
    rw [frameRun, frameRun, late .frameRuns (by decide)]
  rw [run, frpEnterRun_run loaded enabled, early .now (by decide)]
  exact ⟨rfl, rfl, rfl⟩

theorem runBase_lines {l : Fin 48} {f : FaultCode × Fin 16} (fault : lineFault l s = some f) :
    .faultConditionStart f.1 f.2 ∈ (runBase cause s).inFlight := by
  set u := frpEnterRun (bumpFree (parkDelayAtRun (setOpState .run cause s))) with hu
  have early : ChangesOnly (.frameRuns :: .freeCount :: .opState :: .parkDelay :: sending) s u :=
    ((setOpState_frame .run cause s).mono (by decide)).trans (((parkDelayAtRun_frame _).mono (by decide)).trans
      (((bumpFree_frame _).mono (by decide)).trans ((frpEnterRun_frame _).mono (by decide))))
  have present : lineFault l u = some f := by
    rw [lineFault, lineInForce, early .lines (by decide), early .lineTable (by decide)]
    exact fault
  have reported : Instr.faultConditionStart f.1 f.2 ∈ lineReports u :=
    List.mem_filterMap.2 ⟨l, mem_indices 48 l, by rw [present]; rfl⟩
  have kept : (runBase cause s).inFlight = (lscEnterRun false u).inFlight := gdrEnterRun_frame _ .inFlight (by decide)
  rw [kept]
  exact List.mem_append_right _ reported

theorem runBase_filters (cause : StateCause) (s : State) : FiltersRestart s (runBase cause s) := by
  have early : ChangesOnly (.scanPlay :: .inFlight :: .frameRuns :: .freeCount :: .opState :: .parkDelay :: sending) s
      (lscEnterRun false (frpEnterRun (bumpFree (parkDelayAtRun (setOpState .run cause s))))) :=
    ((setOpState_frame .run cause s).mono (by decide)).trans (((parkDelayAtRun_frame _).mono (by decide)).trans
      (((bumpFree_frame _).mono (by decide)).trans (((frpEnterRun_frame _).mono (by decide)).trans
        ((lscEnterRun_frame false _).mono (by decide)))))
  exact (gdrEnterRun_filters _).of_outer (early .gaugeRuns (by decide)) (early .gaugeTable (by decide)) rfl rfl

/-- STATE goes first. -/
theorem enterRun_queued (held : sendingHeld s = true) :
    ∃ more, Queued (.state .run cause :: more) s (enterRun cause false s) := by
  have later : ChangesOnly (.freeCount :: .parkDelay :: telling ++ parkEntering) (setOpState .run cause s)
      (enterRun cause false s) :=
    ((parkDelayAtRun_frame _).mono (by decide)).trans (((tellRunFreely_frame false _).mono (by decide)).trans
      ((takeZeroDelay_frame _).mono (by decide)))
  have heldR : sendingHeld (setOpState .run cause s) = true := (setOpState_frame .run cause s .queues (by decide)).held held
  obtain ⟨-, -, -, more, queued⟩ := (later .queues (by decide)).grows heldR
  exact ⟨more, (setOpState_queued _ held .run).append queued⟩

end

end Sys2Proof.Machine
end

section
/-! PROOFS. The entry into RUN: the speed unit and the warning unit (R79, R99, R104, R110). -/

namespace Sys2Proof.Machine

section
variable {s s' t t' u : State} {i : Fin 96} {e : WarnEntry}

/-! ### The measurement (R79) -/

/-- The measurement started, before VEHICLE_SPEED is formed. -/
def startMeasurement (s : State) : State :=
  if s.lsc.senderFault then stopMeasurement { s with sdu := { s.sdu with filterRef := none, plausFrom := none } }
  else awaitEdge { s with sdu := { s.sdu with filterRef := none, plausFrom := none } }

theorem sduEnterRun_eq (s : State) : sduEnterRun s = reform (startMeasurement s) := rfl

theorem startMeasurement_eq (s : State) : ∃ meas due stand, startMeasurement s
    = { s with sdu := { s.sdu with
        filterRef := none, plausFrom := none, meas := meas, boundDue := due, standFrom := stand } } := by
  unfold startMeasurement
  split
  · exact ⟨_, _, _, rfl⟩
  · exact ⟨_, _, _, rfl⟩

theorem sduEnterRun_touches (s : State) : Touches measuring [vehicleSpeed, driveCycle] s (sduEnterRun s) := by
  refine ⟨sduEnterRun_frame s, fun k other => ?_⟩
  simp only [List.mem_cons, List.not_mem_nil, or_false, not_or] at other
  obtain ⟨meas, due, stand, started⟩ := startMeasurement_eq s
  rw [sduEnterRun_eq, reform_slot, if_neg other.1, if_neg (not_and_of_not_left _ other.2), started]
  rfl

theorem sduEnterRun_starts (s : State) : MeasurementStarts s (sduEnterRun s) := by
  have formed := reform_formed (startMeasurement s)
  have tested := reform_tested (startMeasurement s)
  have pulse := reform_pulse (startMeasurement s)
  obtain ⟨measF, filterF, standF, boundF⟩ := reform_frame (startMeasurement s) .measurement (by decide)
  obtain ⟨meas, due, stand, started⟩ := startMeasurement_eq s
  have timer := reform_plausFrom (s := startMeasurement s) (by rw [started])
  refine ⟨filterF.trans (by rw [started]), fun fault => ?_, fun healthy => ?_, ?_, formed, ?_, fun since runs => ?_⟩
  · rw [startMeasurement, if_pos fault] at measF standF boundF
    rw [sduEnterRun_eq, startMeasurement, if_pos fault]
    exact ⟨measF, boundF, standF⟩
  · have sound : ¬s.lsc.senderFault = true := by rw [healthy]; decide
    rw [startMeasurement, if_neg sound] at measF boundF
    rw [sduEnterRun_eq, startMeasurement, if_neg sound]
    exact ⟨measF, boundF⟩
  · rw [sduEnterRun_eq, pulse, started]
    rfl
  · rw [started] at tested
    rw [sduEnterRun_eq, started]
    exact tested
  · rw [sduEnterRun_eq] at runs
    rcases timer with stopped | now
    · rw [stopped] at runs
      cases runs
    · rw [now, started] at runs
      exact (Option.some.inj runs).symm

theorem MeasurementStarts.of_outer (h : MeasurementStarts s t) (sdu : s.sdu = s'.sdu)
    (fault : s.lsc.senderFault = s'.lsc.senderFault) (now : s.now = s'.now)
    (pulse : s.slot pulseSpeed = s'.slot pulseSpeed) (cycle : s.slot driveCycle = s'.slot driveCycle)
    (op : t'.opState = t.opState) (sduT : t'.sdu = t.sdu)
    (slotT : ∀ k : Slot, k = pulseSpeed ∨ k = vehicleSpeed ∨ k = driveCycle ∨ 12 ≤ k.val → t'.slot k = t.slot k) :
    MeasurementStarts s' t' := by
  obtain ⟨filter, stopped, waiting, kept, formed, tested, timer⟩ := h
  have pulseT := slotT pulseSpeed (.inl rfl)
  have speedT := slotT vehicleSpeed (.inr (.inl rfl))
  have cycleT := slotT driveCycle (.inr (.inr (.inl rfl)))
  rw [fault] at stopped waiting
  rw [now] at timer
  rw [MeasurementStarts, sduT, pulseT, ← pulse]
  exact ⟨filter, stopped, waiting, kept,
    formed.of_outer op sduT pulseT speedT fun k outer => slotT k (.inr (.inr (.inr outer))),
    tested.of_outer cycle (by rw [sdu]) now op (by rw [sduT]) speedT cycleT, timer⟩

/-! ### The warning entries, evaluated afresh (R99, R110) -/

/-- Every loaded entry is evaluated at the entry into RUN from CONFIG. -/
def everyEntry (_ : WarnEntry) (_ : State) : Bool := true

theorem wrnEnterRun_eq (s : State) : wrnEnterRun false s = (indices 96).foldl (evaluateIf true everyEntry) s := rfl

theorem wrnEnterRun_touches (s : State) : Touches warning [activeWarnings] s (wrnEnterRun false s) := by
  rw [wrnEnterRun_eq]
  exact ⟨evaluations_frame _ s, fun k other => evaluations_slot _ s fun same => other (by rw [same]; exact List.mem_cons_self)⟩

theorem wrnEnterRun_warningsLegal (run : s.opState = .run) (h : WarningsLegal s) :
    WarningsLegal (wrnEnterRun false s) := by
  rw [wrnEnterRun_eq]
  exact evaluations_warningsLegal (fun e t frame _ => .inl ((frame .opState (by decide)).trans run)) _ h

/-- Legal in CONFIG, the warning unit is legal in RUN. -/
theorem WarningsLegal.run_of_config (h : WarningsLegal s) (config : s.opState = .config) (run : t.opState = .run)
    (wrn : t.wrn = s.wrn) (slot : t.slot activeWarnings = s.slot activeWarnings) : WarningsLegal t := by
  obtain ⟨value, quality, top⟩ := h.listFollowed.of_same (t := t) slot (by rw [wrn]) (by rw [wrn]) (by rw [wrn])
  rw [← activeList_length] at value
  obtain ⟨off, -, -, -⟩ := h
  have runs (i : Fin 96) : warnRun i t = warnRun i s := warnRun_eq (by rw [wrn]) i
  refine ⟨fun i _ => ?_, fun c => ?_, fun p => ?_, value, quality, top⟩
  · rw [runs]
    exact off i (.inr config)
  · rw [run] at c
    cases c
  · rw [run] at p
    cases p

/-- An entry evaluated afresh out of OFF. -/
theorem evaluatedRun_afresh {r : WarnRun} (enabled : e.enabled = true) (off : r.state = .off) (stopped : r.timer = none)
    (cond : r.cond = false) : EntersAfresh e s (evaluatedRun true e s r) := by
  set f := formedRun true e s r with hf
  have same : (evaluatedRun true e s r).cond = f.cond := (evaluatedRun_truth r).2.2.1
  have timer : f.timer = none := stopped
  have state : f.state = .off := off
  have next : nextState e f.cond r = if f.cond then (if e.onDelay = 0 then shown e else .onDelay) else .off := by
    rw [nextState, enabled, cond, off, onCondition]
    cases f.cond <;> rfl
  rw [EntersAfresh, same]
  cases met : f.cond
  · have stays : r.state = nextState e f.cond r := by rw [next, met, off]; rfl
    rw [evaluatedRun, ← hf, if_pos stays]
    exact ⟨fun _ => ⟨state, timer⟩, nofun, nofun, nofun⟩
  · have moves : ¬r.state = nextState e f.cond r := by
      rw [next, met, off, shown]
      by_cases delay : e.onDelay = 0 <;> cases e.ackRequired <;> simp [delay]
    rw [met, if_pos rfl] at next
    rw [evaluatedRun, ← hf, if_neg moves, met, next]
    refine ⟨nofun, fun _ delay => ?_, fun _ delay ack => ?_, fun _ delay ack => ?_⟩
    · rw [if_neg delay]
      exact ⟨rfl, rfl⟩
    · rw [if_pos delay, shown, if_pos ack]
      exact ⟨rfl, rfl⟩
    · rw [if_pos delay, shown, if_neg (by rw [ack]; decide)]
      exact ⟨rfl, rfl⟩

theorem EntersAfresh.of_same {r r' : WarnRun} (h : EntersAfresh e s r) (now : t.now = s.now) (same : unjoined r' = unjoined r) :
    EntersAfresh e t r' := by
  obtain ⟨state, timer, -, -, cond, -⟩ := fields_of_unjoined same
  unfold EntersAfresh at h ⊢
  rw [state, timer, cond, now]
  exact h

/-- What the entry into RUN makes of one entry, told of the reads at START. -/
theorem wrnEnterRun_entry (entry : warnEntry i u = some e) (off : (warnRun i u).state = .off)
    (stopped : (warnRun i u).timer = none) (truth : (warnRun i u).truth = none) (cond : (warnRun i u).cond = false)
    (now : u.now = s.now) (records : u.flt.records = s.flt.records) (signals : u.sst.table = s.sst.table)
    (outside : ∀ k : Slot, k = ignition ∨ 12 ≤ k.val → u.slot k = s.slot k) :
    ((∀ k, (e.kind ≠ .faultClass ∧ k = e.source) ∨ (∃ g, e.gate = some g ∧ k = g.slot) → FromOutside k s) →
      TruthFormed e none s (warnRun i (wrnEnterRun false u)))
    ∧ (e.enabled = true → EntersAfresh e s (warnRun i (wrnEnterRun false u))) := by
  obtain ⟨v, between, slots, run⟩ := evaluations_run (fresh := true) (test := everyEntry) (fun _ _ _ _ => rfl) (indices 96)
    (indices_nodup 96) (mem_indices 96 i) entry rfl
  rw [← wrnEnterRun_eq] at run
  have slotV (k : Slot) (from_ : k = ignition ∨ 12 ≤ k.val) : v.slot k = s.slot k := by
    have other : k ≠ activeWarnings := by
      rintro rfl
      exact from_.elim (by decide) (by decide)
    rw [slots k other, outside k from_]
  have read (k : Slot) (from_ : FromOutside k s) : effRead k s = effRead k v :=
    (effRead_kept ((between .signalTable (by decide)).trans signals) (slotV k from_.1)
      fun f back => slotV f (from_.2 f back)).symm
  refine ⟨fun sources => ?_, fun enabled => ?_⟩
  · have formed : TruthFormed e (warnRun i u).truth s (formedRun true e v (warnRun i u)) :=
      formedRun_formed_of (fun value => read _ (sources _ (.inl ⟨value, rfl⟩)))
        (fun g gated => read _ (sources _ (.inr ⟨g, gated, rfl⟩)))
        ((between .records (by decide)).trans records).symm _
    rw [truth] at formed
    obtain ⟨-, -, sameT, sameU, sameC, -⟩ := fields_of_unjoined run
    obtain ⟨truthE, unknownE, condE, -⟩ := evaluatedRun_truth (fresh := true) (e := e) (s := v) (warnRun i u)
    exact formed.of_fields (sameT.trans truthE) (sameU.trans unknownE) (sameC.trans condE)
  · exact (evaluatedRun_afresh enabled off stopped cond).of_same (((between .now (by decide)).trans now).symm) run

end

end Sys2Proof.Machine
end

section
/-! PROOFS. The entry into RUN: the door monitor's first derivation (R133, R139, R140, R145). -/

namespace Sys2Proof.Machine

/-! ### The state of a leaf, of its inputs (R133) -/

/-- The state derived from what the inputs of a leaf say. -/
def derivedState (unusable shut ajar lock locked : Bool) (before : LeafState) : LeafState :=
  if unusable then .fault
  else if shut && ajar then .fault
  else if lock && locked && !shut then .fault
  else if shut then (if locked || !lock then .locked else .closed)
  else if ajar then .opened
  else
    match before with
    | .locked | .closed => .opening
    | .opened => .closing
    | .opening | .closing | .ajar => before
    | .fault | .notEvaluated => .ajar

/-- An input reads active. -/
def active (i : Slot) (s : State) : Bool := readInput i s = some true

/-- The locked input of a leaf reads active. -/
def lockedActive (l : Fin 8) (s : State) : Bool := (doorEntry l s).lockedSlot.any fun i => active i s

/-- Some input of a leaf cannot be used. -/
def unusableInput (l : Fin 8) (s : State) : Bool := (leafInputs l s).any fun i => (readInput i s).isNone

section
variable {s t u : State} {l : Fin 8} {p : Fin 4} {before : LeafState}

theorem deriveState_eq (l : Fin 8) (before : LeafState) (s : State) : deriveState l before s
    = derivedState (unusableInput l s) (active (doorEntry l s).closedSlot s) (active (doorEntry l s).openSlot s)
      (lockFitted l s) (lockedActive l s) before := rfl

theorem active_iff (i : Slot) (s : State) : active i s = true ↔ readInput i s = some true := decide_eq_true_iff

theorem lockedActive_iff (l : Fin 8) (s : State) :
    lockedActive l s = true ↔ ∃ i, (doorEntry l s).lockedSlot = some i ∧ active i s = true := by
  simp only [lockedActive, Option.any_eq_true]

theorem unusableInput_iff (l : Fin 8) (s : State) :
    unusableInput l s = true ↔ ∃ i ∈ leafInputs l s, readInput i s = none := by
  simp only [unusableInput, List.any_eq_true, Option.isNone_iff_eq_none]

theorem deriveState_derived (l : Fin 8) (before : LeafState) (s : State) :
    LeafDerived l before (deriveState l before s) s := by
  have usable : (∀ i ∈ leafInputs l s, readInput i s ≠ none) ↔ unusableInput l s = false := by
    rw [← Bool.not_eq_true, unusableInput_iff]
    push Not
    rfl
  unfold LeafDerived
  simp only [← unusableInput_iff, usable, ← active_iff, ← lockedActive_iff, deriveState_eq]
  generalize unusableInput l s = unusable
  generalize active (doorEntry l s).closedSlot s = shut
  generalize active (doorEntry l s).openSlot s = ajar
  generalize lockFitted l s = lock
  generalize lockedActive l s = locked
  refine ⟨fun h => by simp [derivedState, h], fun h => ⟨fun a b => ?_, fun a b c => ?_, fun a b c => ?_,
    fun a b c d => ?_, fun a b c => ?_, fun a b c => ?_⟩⟩
  · simp [derivedState, h, a, b]
  · simp [derivedState, h, a, b, c]
  · rcases c with c | c <;> simp [derivedState, h, a, b, c]
  · simp [derivedState, h, a, b, c, d]
  · simp [derivedState, h, a, b, c]
  · simp [derivedState, h, a, b, c]
    cases before <;> rfl

/-- A leaf is derived the same way where its inputs read the same. -/
theorem deriveState_same (table : t.drm.table = s.drm.table)
    (reads : ∀ i ∈ leafInputs l s, readInput i t = readInput i s) : deriveState l before t = deriveState l before s := by
  have entry : doorEntry l t = doorEntry l s := doorEntry_eq table l
  have lock : lockFitted l t = lockFitted l s := by rw [lockFitted, lockFitted, leader, leader, doorEntry_eq table]
  have inputs : leafInputs l t = leafInputs l s := by
    rw [leafInputs, leafInputs, entry, leader, leader, doorEntry_eq table]
  have unusable : unusableInput l t = unusableInput l s := by
    rw [Bool.eq_iff_iff, unusableInput_iff, unusableInput_iff, inputs]
    exact exists_congr fun i => and_congr_right fun member => by rw [reads i member]
  have shut : active (doorEntry l s).closedSlot t = active (doorEntry l s).closedSlot s := by
    rw [active, active, reads _ (by simp [leafInputs])]
  have ajar : active (doorEntry l s).openSlot t = active (doorEntry l s).openSlot s := by
    rw [active, active, reads _ (by simp [leafInputs])]
  have lockInput {i : Slot} (fitted : lockFitted l s = true) (here : (doorEntry l s).lockedSlot = some i) :
      i ∈ leafInputs l s := by
    rw [lockFitted] at fitted
    rw [leafInputs, if_pos fitted, here]
    simp
  have locked (fitted : lockFitted l s = true) : lockedActive l t = lockedActive l s := by
    rw [Bool.eq_iff_iff, lockedActive_iff, lockedActive_iff, entry]
    refine exists_congr fun i => and_congr_right fun here => ?_
    rw [active, active, reads i (lockInput fitted here)]
  rw [deriveState_eq, deriveState_eq, entry, lock, unusable, shut, ajar]
  cases fitted : lockFitted l s
  · simp [derivedState]
  · rw [locked fitted]

/-! ### The first derivation of a leaf (R145) -/

/-- What the first derivation of a leaf changes. -/
def leafing : List Piece := .leaves :: .inFlight :: sending

theorem leafRun_changeLeaf (k : Fin 8) (new : LeafState) : leafRun k (changeLeaf l new s)
    = if k = l then { flagsAfter new (cyclesAfter new (transitAfter l new (leafRun l s) s)) with state := new }
      else leafRun k s := by
  have told : leafRun k (doorEvent (.doorLeaf l new) s) = leafRun k s := by
    rw [leafRun, leafRun, doorEvent_frame _ s .leaves (by decide)]
  rw [← told]
  exact leafRun_setLeafRun l k _ _

theorem changeLeaf_leafing (new : LeafState) (s : State) : ChangesOnly leafing s (changeLeaf l new s) :=
  ((doorEvent_frame _ s).mono (by decide)).trans
    (((setLeafRun_frame _ _ _).mono (by decide)).trans ((post_frame _ _).mono (by decide)))

theorem firstLeaf_frame (s : State) (l : Fin 8) : ChangesOnly leafing s (firstLeaf s l) :=
  .ite (fun _ => ((setLeafRun_frame _ _ s).mono (by decide)).trans (changeLeaf_leafing _ _)) fun _ => .refl _ s

theorem firstLeaf_other (s : State) (i j : Fin 8) (apart : j ≠ i) : leafRun j (firstLeaf s i) = leafRun j s := by
  unfold firstLeaf
  split
  · rw [leafRun_changeLeaf, if_neg apart, leafRun_setLeafRun, if_neg apart]
  · rfl

/-- Transit timing touches no other field of the run-time state. -/
theorem transitAfter_fields (l : Fin 8) (new : LeafState) (r : LeafRun) (s : State) :
    (transitAfter l new r s).state = r.state ∧ (transitAfter l new r s).edge = r.edge
      ∧ (transitAfter l new r s).obstructions = r.obstructions ∧ (transitAfter l new r s).cycles = r.cycles := by
  unfold transitAfter
  simp only
  split
  · exact ⟨rfl, rfl, rfl, rfl⟩
  · split
    · exact ⟨rfl, rfl, rfl, rfl⟩
    · split <;> exact ⟨rfl, rfl, rfl, rfl⟩

theorem cyclesAfter_notEvaluated {r : LeafRun} (new : LeafState) (first : r.state = .notEvaluated) :
    cyclesAfter new r = r := if_neg fun h => h.2.2 first

/-- The run-time state behind the first derivation of a fitted leaf. -/
theorem firstLeaf_run (fitted : leafFitted l s = true) :
    (leafRun l (firstLeaf s l)).state = deriveState l .notEvaluated s
      ∧ (leafRun l (firstLeaf s l)).edge = (readInput (doorEntry l s).edgeSlot s).getD false
      ∧ (leafRun l (firstLeaf s l)).inconsistent = decide ((leafRun l (firstLeaf s l)).state = .fault)
      ∧ (leafRun l (firstLeaf s l)).obstructions = (leafRun l s).obstructions
      ∧ (leafRun l (firstLeaf s l)).cycles = (leafRun l s).cycles := by
  set r : LeafRun := { leafRun l s with
    state := .notEvaluated, edge := (readInput (doorEntry l s).edgeSlot s).getD false } with hr
  set w := setLeafRun l r s with hw
  have walked : firstLeaf s l = changeLeaf l (deriveState l .notEvaluated w) w := by
    rw [firstLeaf, if_pos fitted]
  have start : leafRun l w = r := by rw [hw, leafRun_setLeafRun, if_pos rfl]
  have derived : deriveState l .notEvaluated w = deriveState l .notEvaluated s := rfl
  obtain ⟨state, edge, obstructions, cycles⟩ := transitAfter_fields l (deriveState l .notEvaluated s) r w
  rw [walked, leafRun_changeLeaf, if_pos rfl, start, derived, cyclesAfter_notEvaluated _ (by rw [state])]
  exact ⟨rfl, edge, rfl, obstructions, cycles⟩

/-! ### The first derivation of a portal (R139, R145) -/

/-- What the first derivation of a portal changes. -/
def portaling : List Piece := .portals :: sending

theorem portalRun_setPortalRun (p q : Fin 4) (r : PortalRun) (s : State) :
    portalRun q (setPortalRun p r s) = if q = p then r else portalRun q s := by
  simp only [portalRun, setPortalRun, Fin.getElem_fin, Vector.getElem_set, Fin.ext_iff, eq_comm]

theorem firstPortal_frame (s : State) (p : Fin 4) : ChangesOnly portaling s (firstPortal s p) :=
  .ite (fun _ => ((setPortalRun_frame _ _ s).mono (by decide)).trans ((doorEvent_frame _ _).mono (by decide)))
    fun _ => .refl _ s

theorem portalRun_doorEvent (q : Fin 4) (e : Event) (s : State) : portalRun q (doorEvent e s) = portalRun q s := by
  rw [portalRun, portalRun, doorEvent_frame e s .portals (by decide)]

theorem firstPortal_other (s : State) (p q : Fin 4) (apart : q ≠ p) : portalRun q (firstPortal s p) = portalRun q s := by
  unfold firstPortal
  split
  · simp only
    rw [portalRun_doorEvent, portalRun_setPortalRun, if_neg apart]
  · rfl

theorem firstPortal_run (exists_ : portalExists p s = true) : portalRun p (firstPortal s p)
    = { portalRun p s with
        state := formPortal p s, released := formReleased p s
        reading := (readOptional (leader p s).requestSlot s).getD false } := by
  rw [firstPortal, if_pos exists_]
  simp only
  rw [portalRun_doorEvent, portalRun_setPortalRun, if_pos rfl]

theorem leader_eq (table : t.drm.table = s.drm.table) (p : Fin 4) : leader p t = leader p s := doorEntry_eq table _

theorem formPortal_eq (table : t.drm.table = s.drm.table) (leaves : t.drm.leaves = s.drm.leaves) (p : Fin 4) :
    formPortal p t = formPortal p s := by
  simp only [formPortal, fittedLeaves, leafFitted_eq table, leafRun, leaves, leafSecured, lockFitted, leader_eq table]
  rfl

theorem mem_fittedLeaves (p : Fin 4) (s : State) (l : Fin 8) :
    l ∈ fittedLeaves p s ↔ portalOf l = p ∧ leafFitted l s = true := by
  have two : l = leaderLeaf p ∨ l = secondLeaf p ↔ portalOf l = p := by
    simp only [portalOf, leaderLeaf, secondLeaf, Fin.ext_iff]
    omega
  rw [fittedLeaves, List.mem_filter, List.mem_cons, List.mem_cons, List.mem_nil_iff, or_false, two]

/-- A portal as its fitted leaves and its release slot form it. -/
theorem portalFormed_of {steady : Slot → Prop} (state : (portalRun p t).state = formPortal p t)
    (released : (portalRun p t).released = formReleased p u) (table : t.drm.table = u.drm.table)
    (read : ∀ i, steady i → readInput i t = readInput i u) : PortalFormed p steady t := by
  have faulted : (∃ l, (portalOf l = p ∧ leafFitted l t = true) ∧ (leafRun l t).state = .fault)
      ↔ ((fittedLeaves p t).any fun l => (leafRun l t).state = .fault) = true := by
    simp only [List.any_eq_true, mem_fittedLeaves, decide_eq_true_eq]
  have secured : (∀ l, portalOf l = p ∧ leafFitted l t = true →
        (leafRun l t).state = .locked ∨ ((leafRun l t).state = .closed ∧ lockFitted l t = false))
      ↔ ((fittedLeaves p t).all fun l => leafSecured l t) = true := by
    simp only [List.all_eq_true, mem_fittedLeaves, leafSecured, Bool.or_eq_true, Bool.and_eq_true, decide_eq_true_eq,
      Bool.not_eq_true']
  refine ⟨?_, fun none => ?_, fun i here same => ?_⟩
  · rw [state, formPortal]
    simp only [faulted, secured]
    cases (fittedLeaves p t).any fun l => (leafRun l t).state = .fault
    · cases (fittedLeaves p t).all fun l => leafSecured l t <;> rfl
    · rfl
  · rw [leader_eq table] at none
    rw [released, formReleased, none]
    rfl
  · rw [leader_eq table] at here
    rw [released, formReleased, here, Option.any_some, read i same]
    cases readInput i u with
    | none => rfl
    | some b => cases b <;> rfl

/-! ### The door slots (R140) -/

theorem writeDoorSlots_slot (s : State) (k : Slot) : k ≠ doorsAllClosed → k ≠ openPortals →
    (writeDoorSlots s).slot k = s.slot k := by
  intro closed opened
  rw [writeDoorSlots, valueWrite_other opened, valueWrite_other closed]

theorem mem_existingPortals (s : State) (p : Fin 4) : p ∈ existingPortals s ↔ portalExists p s = true := by
  rw [existingPortals, List.mem_filter]
  exact and_iff_right (mem_indices 4 p)

theorem writeDoorSlots_formed (s : State) : DoorSlotsFormed s (writeDoorSlots s) := by
  have frame := writeDoorSlots_frame s
  have run (p : Fin 4) : portalRun p (writeDoorSlots s) = portalRun p s := by
    rw [portalRun, portalRun, frame .portals (by decide)]
  have exists_ (p : Fin 4) : portalExists p (writeDoorSlots s) = portalExists p s := by
    rw [portalExists, portalExists, leader_eq (frame .doorTable (by decide))]
  have closed : ((existingPortals s).all fun p => decide ((portalRun p s).state = .secured) && !(portalRun p s).released)
      = true ↔ ∀ p, portalExists p s = true → (portalRun p s).state = .secured ∧ (portalRun p s).released = false := by
    simp only [List.all_eq_true, mem_existingPortals, Bool.and_eq_true, decide_eq_true_eq, Bool.not_eq_true']
  unfold DoorSlotsFormed
  simp only [run, exists_]
  constructor
  · rw [writeDoorSlots, valueWrite_other (by decide), valueWrite_internal_slot rfl, if_pos rfl, bitNat]
    simp only [closed]
    split <;> rfl
  · rw [writeDoorSlots, valueWrite_internal_slot rfl, if_pos rfl, existingPortals, List.countP_filter,
      valueWrite_now]
    simp only [ne_eq, Bool.and_comm]

theorem DoorSlotsFormed.of_outer {s' t' : State} (h : DoorSlotsFormed s t) (now : s.now = s'.now)
    (portals : t'.drm.portals = t.drm.portals) (table : t'.drm.table = t.drm.table)
    (closed : t'.slot doorsAllClosed = t.slot doorsAllClosed) (opened : t'.slot openPortals = t.slot openPortals) :
    DoorSlotsFormed s' t' := by
  have run (p : Fin 4) : portalRun p t' = portalRun p t := by rw [portalRun, portalRun, portals]
  have exists_ (p : Fin 4) : portalExists p t' = portalExists p t := by
    rw [portalExists, portalExists, leader_eq table]
  unfold DoorSlotsFormed at h ⊢
  simp only [run, exists_, closed, opened, ← now]
  exact h

/-! ### The first derivation (R145) -/

def leavesDerived (s : State) : State := (indices 8).foldl firstLeaf s

def portalsDerived (s : State) : State := (indices 4).foldl firstPortal (leavesDerived s)

theorem drmEnterRun_eq (s : State) : drmEnterRun false s = writeDoorSlots (portalsDerived s) := by
  rw [drmEnterRun, if_neg (by decide), firstDerivation, portalsDerived, leavesDerived]

theorem leavesDerived_frame (s : State) : ChangesOnly leafing s (leavesDerived s) := .foldl firstLeaf_frame _ s

theorem portalsDerived_frame (s : State) : ChangesOnly portaling (leavesDerived s) (portalsDerived s) :=
  .foldl firstPortal_frame _ _

/-- What the first derivation changes. -/
def derivingDoors : List Piece := .leaves :: .portals :: writing ++ sending

theorem drmEnterRun_touches (s : State) : Touches derivingDoors [doorsAllClosed, openPortals] s (drmEnterRun false s) := by
  rw [drmEnterRun_eq]
  have leaves := leavesDerived_frame s
  have portals := portalsDerived_frame s
  refine ⟨(leaves.mono (by decide)).trans ((portals.mono (by decide)).trans ((writeDoorSlots_frame _).mono (by decide))),
    fun k other => ?_⟩
  simp only [List.mem_cons, List.not_mem_nil, or_false, not_or] at other
  rw [writeDoorSlots_slot _ k other.1 other.2, portals.slot (by decide), leaves.slot (by decide)]

/-- A leaf behind the first derivation: reached once, in a state with the same slots. -/
theorem drmEnterRun_leaf (s : State) (l : Fin 8) : ∃ u, ChangesOnly leafing s u ∧ leafRun l u = leafRun l s
    ∧ leafRun l (drmEnterRun false s) = leafRun l (firstLeaf u l) := by
  rw [drmEnterRun_eq]
  obtain ⟨u, between, same, reached⟩ := visited firstLeaf_frame firstLeaf_other (indices 8) (indices_nodup 8) (mem_indices 8 l) s
  have later : ChangesOnly (.portals :: writing ++ sending) (leavesDerived s) (writeDoorSlots (portalsDerived s)) :=
    ((portalsDerived_frame s).mono (by decide)).trans ((writeDoorSlots_frame _).mono (by decide))
  have run : leafRun l (writeDoorSlots (portalsDerived s)) = leafRun l (leavesDerived s) := by
    rw [leafRun, leafRun, later .leaves (by decide)]
  exact ⟨u, between, same, run.trans reached⟩

/-- A portal behind the first derivation: reached once, when the leaves are derived. -/
theorem drmEnterRun_portal (s : State) (p : Fin 4) : ∃ u, ChangesOnly portaling (leavesDerived s) u
    ∧ portalRun p (drmEnterRun false s) = portalRun p (firstPortal u p) := by
  obtain ⟨u, between, -, reached⟩ :=
    visited firstPortal_frame firstPortal_other (indices 4) (indices_nodup 4) (mem_indices 4 p) (leavesDerived s)
  have run : portalRun p (drmEnterRun false s) = portalRun p (portalsDerived s) := by
    rw [portalRun, portalRun, drmEnterRun_eq, writeDoorSlots_frame _ .portals (by decide)]
  exact ⟨u, between, run.trans reached⟩

end

end Sys2Proof.Machine
end

section
/-! PROOFS. START: the validation, and the part in RUN (R177, R178). -/

namespace Sys2Proof.Machine

/-! ### The state behind an accepted START -/

/-- The response made and the first-start mark set. -/
def started (s : State) : State :=
  { respond 0x05 .ok [] s with flt := { (respond 0x05 .ok [] s).flt with firstStart := true } }

theorem startPart_eq (s : State) : startPart (respond 0x05 .ok [] s) = enterRun .start false (started s) := rfl

theorem started_marked (s : State) : ChangesOnly [.firstStart] (respond 0x05 .ok [] s) (started s) := by
  rw [started]
  generalize respond 0x05 .ok [] s = u
  intro p hp
  cases p <;> first | exact OnlyQueues.of_same rfl rfl rfl rfl rfl | simp [Piece.kept] at hp ⊢

theorem started_frame (s : State) : ChangesOnly (.firstStart :: answering) s (started s) :=
  ((respond_frame _ _ _ s).mono (by decide)).trans ((started_marked s).mono (by decide))

/-- The part in RUN before the speed unit, the warning unit and the door monitor are told. -/
def startBase (s : State) : State := runBase .start (started s)

/-- The part in RUN, before a park delay of 0 is taken. -/
def startTold (s : State) : State := runTold .start (started s)

def starting : List Piece := .firstStart :: answering ++ basing

section
variable {s t u : State}

theorem startBase_frame (s : State) : ChangesOnly starting s (startBase s) :=
  ((started_frame s).mono (by decide)).trans ((runBase_frame .start (started s)).mono (by decide))

/-- The slots are those at START. -/
theorem startBase_slot (s : State) (k : Slot) : (startBase s).slot k = s.slot k :=
  (startBase_frame s).slot (by decide) k

theorem startBase_opState (s : State) : (startBase s).opState = .run := runBase_opState .start (started s)

theorem startBase_parkDue (s : State) : (startBase s).cli.parkDue
    = if ignitionIs 0 s then some (s.now + 1000 * (1000 * (linkOf s).parkDelay)) else none := by
  have frame := started_frame s
  have ignition : ignitionIs 0 (started s) = ignitionIs 0 s := by rw [ignitionIs, ignitionIs, frame.slot (by decide)]
  have link : linkOf (started s) = linkOf s := by rw [linkOf, linkOf, frame .link (by decide)]
  have due := runBase_parkDue .start (started s)
  rw [ignition, link, frame .now (by decide)] at due
  exact due

/-! ### The three blocks told in an open order -/

theorem startTold_speed (s : State) : ∃ u, Touches (warning ++ derivingDoors) [activeWarnings, doorsAllClosed, openPortals]
      (startBase s) u
    ∧ Touches (warning ++ derivingDoors) [activeWarnings, doorsAllClosed, openPortals] (sduEnterRun u) (startTold s) :=
  threeInOrder_first (.refl _ _) .trans (fun u => (wrnEnterRun_touches u).mono (by decide) (by decide))
    (fun u => (drmEnterRun_touches u).mono (by decide) (by decide)) _ _

theorem startTold_warnings (s : State) : ∃ u, Touches (measuring ++ derivingDoors)
      [vehicleSpeed, driveCycle, doorsAllClosed, openPortals] (startBase s) u
    ∧ Touches (measuring ++ derivingDoors) [vehicleSpeed, driveCycle, doorsAllClosed, openPortals] (wrnEnterRun false u)
      (startTold s) := by
  obtain ⟨order, swapped⟩ := threeInOrder_swap (a := sduEnterRun) (b := wrnEnterRun false) (c := drmEnterRun false)
    (s := startBase s) (Config.tellOrder (parkDelayAtRun (setOpState .run .start (started s))).freeCount)
  have told : startTold s = threeInOrder order (wrnEnterRun false) sduEnterRun (drmEnterRun false) (startBase s) := swapped
  rw [told]
  exact threeInOrder_first (.refl _ _) .trans (fun u => (sduEnterRun_touches u).mono (by decide) (by decide))
    (fun u => (drmEnterRun_touches u).mono (by decide) (by decide)) _ _

theorem startTold_doors (s : State) : ∃ u, Touches (measuring ++ warning) [vehicleSpeed, driveCycle, activeWarnings]
      (startBase s) u
    ∧ Touches (measuring ++ warning) [vehicleSpeed, driveCycle, activeWarnings] (drmEnterRun false u) (startTold s) := by
  obtain ⟨order, turned⟩ := threeInOrder_turn (a := sduEnterRun) (b := wrnEnterRun false) (c := drmEnterRun false)
    (s := startBase s) (Config.tellOrder (parkDelayAtRun (setOpState .run .start (started s))).freeCount)
  have told : startTold s = threeInOrder order (drmEnterRun false) sduEnterRun (wrnEnterRun false) (startBase s) := turned
  rw [told]
  exact threeInOrder_first (.refl _ _) .trans (fun u => (sduEnterRun_touches u).mono (by decide) (by decide))
    (fun u => (wrnEnterRun_touches u).mono (by decide) (by decide)) _ _

/-- What the three change together. -/
def tellingThree : List Piece := measuring ++ warning ++ derivingDoors

theorem startTold_touches (s : State) : Touches tellingThree
    [vehicleSpeed, driveCycle, activeWarnings, doorsAllClosed, openPortals] (startBase s) (startTold s) := by
  obtain ⟨u, before, after⟩ := startTold_speed s
  exact (before.mono (by decide) (by decide)).trans (((sduEnterRun_touches u).mono (by decide) (by decide)).trans
    (after.mono (by decide) (by decide)))

/-! ### Reads from outside -/

/-- IGNITION and the configurable slots are written by none of the three. -/
theorem outside_kept {k : Slot} (outside : k = ignition ∨ 12 ≤ k.val) :
    k ∉ [vehicleSpeed, driveCycle, activeWarnings, doorsAllClosed, openPortals] := by
  rcases outside with rfl | far
  · decide
  · intro member
    simp only [List.mem_cons, List.not_mem_nil, or_false] at member
    rcases member with rfl | rfl | rfl | rfl | rfl <;> exact absurd far (by decide)

theorem readInput_outside {i : Slot} (from_ : FromOutside i s) (signals : t.sst.table = s.sst.table)
    (slots : ∀ k : Slot, k = ignition ∨ 12 ≤ k.val → t.slot k = s.slot k) (awakeS : s.opState ≠ .parked)
    (awakeT : t.opState ≠ .parked) : readInput i t = readInput i s := by
  have read : effRead i t = effRead i s :=
    effRead_kept signals (slots i from_.1) fun f back => slots f (from_.2 f back)
  simp only [readInput, read, awakeS, awakeT]

/-! ### What START leaves, block by block -/

theorem startTold_measurement (s : State) : MeasurementStarts s (startTold s) := by
  obtain ⟨u, before, after⟩ := startTold_speed s
  have base := startBase_frame s
  have sdu : u.sdu = s.sdu :=
    (before.1.sdu (by decide) (by decide) (by decide) (by decide) (by decide) (by decide)).trans
      (base.sdu (by decide) (by decide) (by decide) (by decide) (by decide) (by decide))
  have slot (k : Slot) (other : k ∉ [activeWarnings, doorsAllClosed, openPortals]) : u.slot k = s.slot k :=
    (before.2 k other).trans (startBase_slot s k)
  refine (sduEnterRun_starts u).of_outer sdu ((before.1 .senderFault (by decide)).trans (base .senderFault (by decide)))
    ((before.1 .now (by decide)).trans (base .now (by decide))) (slot _ (by decide)) (slot _ (by decide))
    (after.1 .opState (by decide))
    (after.1.sdu (by decide) (by decide) (by decide) (by decide) (by decide) (by decide)) fun k which => after.2 k ?_
  rcases which with rfl | rfl | rfl | far
  · decide
  · decide
  · decide
  · exact fun member => outside_kept (.inr far) (by simp only [List.mem_cons] at member ⊢; tauto)

theorem startTold_filters (s : State) : FiltersRestart s (startTold s) := by
  have frame := started_frame s
  have told := (startTold_touches s).1
  exact (runBase_filters .start (started s)).of_outer (frame .gaugeRuns (by decide)) (frame .gaugeTable (by decide))
    (told .sweepPhase (by decide)) (told .gaugeRuns (by decide))

theorem startTold_frames {i : Fin 64} {e : FrameEntry} (entry : s.frp.table[i] = some e) (enabled : e.enabled = true) :
    (frameRun i (startTold s)).timer = .firstWait (s.now + 10000 * e.firstTimeout)
      ∧ (frameRun i (startTold s)).aliveRef = none ∧ (frameRun i (startTold s)).seqRun = 0 := by
  have frame := started_frame s
  have loaded : (started s).frp.table[i] = some e := by rw [frame .frameTable (by decide), entry]
  have waits := runBase_frames (cause := .start) loaded enabled
  have run : frameRun i (startTold s) = frameRun i (runBase .start (started s)) := by
    rw [frameRun, frameRun, (startTold_touches s).1 .frameRuns (by decide)]
    rfl
  rw [frame .now (by decide), ← run] at waits
  exact waits

theorem startTold_lines {l : Fin 48} {f : FaultCode × Fin 16} (fault : lineFault l s = some f) :
    .faultConditionStart f.1 f.2 ∈ (startTold s).inFlight := by
  have frame := started_frame s
  have present : lineFault l (started s) = some f := by
    rw [lineFault, lineInForce, frame .lines (by decide), frame .lineTable (by decide)]
    exact fault
  have arrivals : (startBase s).inFlight <+: (startTold s).inFlight := (startTold_touches s).1 .arrivals (by decide)
  exact arrivals.subset (runBase_lines present)

/-- The warning unit: legal, and every loaded entry evaluated afresh. -/
theorem startTold_entries (config : s.opState = .config) (legal : WarningsLegal s) : WarningsLegal (startTold s)
    ∧ ∀ (i : Fin 96) (e : WarnEntry), warnEntry i s = some e →
      ((∀ k, (e.kind ≠ .faultClass ∧ k = e.source) ∨ (∃ g, e.gate = some g ∧ k = g.slot) → FromOutside k s) →
        TruthFormed e none s (warnRun i (startTold s)))
      ∧ (e.enabled = true → EntersAfresh e s (warnRun i (startTold s))) := by
  obtain ⟨u, before, after⟩ := startTold_warnings s
  have base := startBase_frame s
  have wrn : u.wrn = s.wrn := (before.1.wrn (by decide) (by decide) (by decide) (by decide)).trans
    (base.wrn (by decide) (by decide) (by decide) (by decide))
  have wrnT : (startTold s).wrn = (wrnEnterRun false u).wrn :=
    after.1.wrn (by decide) (by decide) (by decide) (by decide)
  have run : u.opState = .run := (before.1 .opState (by decide)).trans (startBase_opState s)
  have runs (i : Fin 96) : warnRun i u = warnRun i s := warnRun_eq (by rw [wrn]) i
  have legalU : WarningsLegal u :=
    legal.run_of_config config run wrn ((before.2 _ (by decide)).trans (startBase_slot s _))
  have legalW := wrnEnterRun_warningsLegal run legalU
  refine ⟨legalW.of_same (after.1 .opState (by decide)) wrnT (after.2 _ (by decide)) (after.1 .signalTable (by decide))
    (after.1 .lineTable (by decide)), fun i e entry => ?_⟩
  obtain ⟨off, none, -⟩ := legal
  obtain ⟨state, timer⟩ := off i (.inr config)
  obtain ⟨truth, cond⟩ := none config i
  have runT : warnRun i (startTold s) = warnRun i (wrnEnterRun false u) := warnRun_eq (by rw [wrnT]) i
  rw [runT]
  have entryU : warnEntry i u = some e := by rw [warnEntry_eq (s := s) (by rw [wrn]), entry]
  refine wrnEnterRun_entry entryU (by rw [runs, state]) (by rw [runs, timer])
    (by rw [runs, truth]) (by rw [runs, cond]) ((before.1 .now (by decide)).trans (base .now (by decide)))
    ((before.1 .records (by decide)).trans (base .records (by decide)))
    ((before.1 .signalTable (by decide)).trans (base .signalTable (by decide))) fun k outside => ?_
  rw [before.2 k fun member => outside_kept outside (by simp only [List.mem_cons] at member ⊢; tauto), startBase_slot]

end

end Sys2Proof.Machine
end

section
/-! PROOFS. START: the doors behind it, and the record as a whole (R145, R177, R178). -/

namespace Sys2Proof.Machine

section
variable {s : State} {l : Fin 8} {p : Fin 4}

/-! ### The doors behind START -/

/-- A state between START and the end of the first derivation: in RUN, with the door table and the slots from outside as
they stood. -/
structure AtDoors (s u : State) : Prop where
  opState : u.opState = .run
  table : u.drm.table = s.drm.table
  signals : u.sst.table = s.sst.table
  slots : ∀ k : Slot, k = ignition ∨ 12 ≤ k.val → u.slot k = s.slot k

theorem AtDoors.read {u : State} (h : AtDoors s u) (config : s.opState = .config) {i : Slot} (from_ : FromOutside i s) :
    readInput i u = readInput i s :=
  readInput_outside from_ h.signals h.slots (by rw [config]; decide) (by rw [h.opState]; decide)

theorem AtDoors.trans {u v : State} {ps : List Piece} (h : AtDoors s u) (frame : ChangesOnly ps u v)
    (op : Piece.opState ∉ ps) (table : Piece.doorTable ∉ ps) (signals : Piece.signalTable ∉ ps)
    (slots : ∀ k : Slot, k = ignition ∨ 12 ≤ k.val → v.slot k = u.slot k) : AtDoors s v :=
  ⟨(frame .opState op).trans h.opState, (frame .doorTable table).trans h.table,
    (frame .signalTable signals).trans h.signals, fun k outside => (slots k outside).trans (h.slots k outside)⟩

theorem startBase_atDoors (s : State) : AtDoors s (startBase s) :=
  have base := startBase_frame s
  ⟨startBase_opState s, base .doorTable (by decide), base .signalTable (by decide), fun k _ => startBase_slot s k⟩

theorem startTold_atDoors (s : State) : AtDoors s (startTold s) := by
  obtain ⟨frame, slots⟩ := startTold_touches s
  exact (startBase_atDoors s).trans frame (by decide) (by decide) (by decide) fun k outside => slots k (outside_kept outside)

/-- The state in which the door monitor is told. -/
theorem startTold_doorStart (s : State) : ∃ u, AtDoors s u ∧ u.drm.leaves = s.drm.leaves ∧ u.now = s.now
    ∧ Touches (measuring ++ warning) [vehicleSpeed, driveCycle, activeWarnings] (drmEnterRun false u) (startTold s) := by
  obtain ⟨u, before, after⟩ := startTold_doors s
  have base := startBase_frame s
  refine ⟨u, (startBase_atDoors s).trans before.1 (by decide) (by decide) (by decide) fun k outside => before.2 k ?_,
    (before.1 .leaves (by decide)).trans (base .leaves (by decide)),
    (before.1 .now (by decide)).trans (base .now (by decide)), after⟩
  exact fun member => outside_kept outside (by simp only [List.mem_cons] at member ⊢; tauto)

/-- An input that is not present, or not used, counts as inactive. -/
theorem getD_false (o : Option Bool) : o.getD false = decide (o = some true) := by
  cases o with
  | none => rfl
  | some b => cases b <;> rfl

/-- A fitted leaf behind START. -/
theorem startTold_leaf (config : s.opState = .config) (fitted : leafFitted l s = true) :
    ((∀ i ∈ leafInputs l s, FromOutside i s) → LeafDerived l .notEvaluated (leafRun l (startTold s)).state s)
    ∧ (FromOutside (doorEntry l s).edgeSlot s →
      (leafRun l (startTold s)).edge = decide (readInput (doorEntry l s).edgeSlot s = some true))
    ∧ (leafRun l (startTold s)).inconsistent = decide ((leafRun l (startTold s)).state = .fault)
    ∧ (leafRun l (startTold s)).obstructions = (leafRun l s).obstructions
    ∧ (leafRun l (startTold s)).cycles = (leafRun l s).cycles := by
  obtain ⟨u, start, leaves, -, after⟩ := startTold_doorStart s
  obtain ⟨w, between, same, reached⟩ := drmEnterRun_leaf u l
  have at_w : AtDoors s w :=
    start.trans between (by decide) (by decide) (by decide) fun k _ => between.slot (by decide) k
  have kept : (startTold s).drm.leaves = (drmEnterRun false u).drm.leaves := after.1 .leaves (by decide)
  have run : leafRun l (startTold s) = leafRun l (firstLeaf w l) :=
    Eq.trans (by rw [leafRun, leafRun, kept]) reached
  have before : leafRun l w = leafRun l s := same.trans (by rw [leafRun, leafRun, leaves])
  have here : leafFitted l w = true := (leafFitted_eq at_w.table l).trans fitted
  obtain ⟨state, edge, inconsistent, obstructions, cycles⟩ := firstLeaf_run here
  rw [← run] at state edge inconsistent obstructions cycles
  rw [before] at obstructions cycles
  refine ⟨fun inputs => ?_, fun from_ => ?_, inconsistent, obstructions, cycles⟩
  · rw [state, deriveState_same at_w.table fun i member => at_w.read config (inputs i member)]
    exact deriveState_derived l .notEvaluated s
  · rw [edge, doorEntry_eq at_w.table, at_w.read config from_, getD_false]

/-- A portal behind START. -/
theorem startTold_portal (config : s.opState = .config) (exists_ : portalExists p s = true) :
    PortalFormed p (FromOutside · s) (startTold s)
    ∧ ∀ i, (leader p s).requestSlot = some i → FromOutside i s →
      (portalRun p (startTold s)).reading = decide (readInput i s = some true) := by
  obtain ⟨u, start, -, -, after⟩ := startTold_doorStart s
  obtain ⟨w, between, reached⟩ := drmEnterRun_portal u p
  have leaves := leavesDerived_frame u
  have at_w : AtDoors s w := (start.trans leaves (by decide) (by decide) (by decide)
    fun k _ => leaves.slot (by decide) k).trans between (by decide) (by decide) (by decide)
    fun k _ => between.slot (by decide) k
  have at_t := startTold_atDoors s
  have kept : (startTold s).drm.portals = (drmEnterRun false u).drm.portals := after.1 .portals (by decide)
  have run : portalRun p (startTold s) = portalRun p (firstPortal w p) :=
    Eq.trans (by rw [portalRun, portalRun, kept]) reached
  have here : portalExists p w = true := (congrArg DoorEntry.fitted (leader_eq at_w.table p)).trans exists_
  have formed := firstPortal_run here
  have table : (startTold s).drm.table = w.drm.table := at_t.table.trans at_w.table.symm
  have derived : (drmEnterRun false u).drm.leaves = w.drm.leaves := by
    have written := writeDoorSlots_frame (portalsDerived u) .leaves (by decide)
    have portals := portalsDerived_frame u .leaves (by decide)
    rw [drmEnterRun_eq]
    exact (written.trans portals).trans (between .leaves (by decide)).symm
  have same : (startTold s).drm.leaves = w.drm.leaves := (after.1 .leaves (by decide)).trans derived
  rw [run, formed]
  refine ⟨portalFormed_of (u := w) ?_ ?_ table fun i from_ => ?_, fun i here from_ => ?_⟩
  · rw [run, formed, formPortal_eq table same]
  · rw [run, formed]
  · rw [at_t.read config from_, at_w.read config from_]
  · show (readOptional (leader p w).requestSlot w).getD false = _
    rw [leader_eq at_w.table, here, readOptional, Option.bind_some, at_w.read config from_, getD_false]

theorem startTold_doorSlots (s : State) : DoorSlotsFormed s (startTold s) := by
  obtain ⟨u, -, -, now, after⟩ := startTold_doorStart s
  have earlier : (portalsDerived u).now = s.now :=
    ((portalsDerived_frame u .now (by decide)).trans (leavesDerived_frame u .now (by decide))).trans now
  rw [drmEnterRun_eq] at after
  exact (writeDoorSlots_formed (portalsDerived u)).of_outer earlier (after.1 .portals (by decide))
    (after.1 .doorTable (by decide)) (after.2 _ (by decide)) (after.2 _ (by decide))

/-- The latch and STOP_REQUEST stay. -/
theorem startTold_latch (s : State) :
    (startTold s).drm.latch = s.drm.latch ∧ (startTold s).slot stopRequest = s.slot stopRequest := by
  obtain ⟨frame, slots⟩ := startTold_touches s
  exact ⟨(frame .latch (by decide)).trans (startBase_frame s .latch (by decide)),
    (slots _ (by decide)).trans (startBase_slot s _)⟩

/-! ### A park delay of 0 (R180) -/

theorem startTold_opState (s : State) : (startTold s).opState = .run := (startTold_atDoors s).opState

theorem startTold_parkDue (s : State) : (startTold s).cli.parkDue
    = if ignitionIs 0 s then some (s.now + 1000 * (1000 * (linkOf s).parkDelay)) else none :=
  ((startTold_touches s).1 .parkDelay (by decide)).trans (startBase_parkDue s)

theorem startTold_delay (s : State) : (linkOf (startTold s)).parkDelay = (linkOf s).parkDelay := by
  have link : (startTold s).cli.link = s.cli.link :=
    ((startTold_touches s).1 .link (by decide)).trans (startBase_frame s .link (by decide))
  rw [linkOf, linkOf, link]

theorem takeZeroDelay_started (waits : ignitionIs 0 s = false ∨ (linkOf s).parkDelay ≠ 0) :
    takeZeroDelay (startTold s) = startTold s := by
  refine takeZeroDelay_eq (waits.imp (fun on => ?_) fun delay => ?_)
  · rw [startTold_parkDue, on, if_neg (by decide)]
  · rwa [startTold_delay]

theorem takeZeroDelay_parks (off : ignitionIs 0 s = true) (zero : (linkOf s).parkDelay = 0) :
    (takeZeroDelay (startTold s)).opState = .parked := by
  have live : (startTold s).opState.live = true := by rw [startTold_opState]; rfl
  have now : (startTold s).now = s.now :=
    ((startTold_touches s).1 .now (by decide)).trans (startBase_frame s .now (by decide))
  have due : isDue (startTold s).cli.parkDue (startTold s) = true := by
    rw [isDue_iff, startTold_parkDue, if_pos off, zero, now]
    exact ⟨_, rfl, le_refl _⟩
  have parks : takeZeroDelay (startTold s) = enterParked .parkDelay (startTold s) := by
    have expires : ((startTold s).opState.live && isDue (startTold s).cli.parkDue (startTold s)
        && decide ((linkOf (startTold s)).parkDelay = 0)) = true := by
      rw [live, due, startTold_delay, zero]
      rfl
    rw [takeZeroDelay, if_pos expires]
  rw [parks]
  exact (enterParked_parks .parkDelay (startTold s)).1

/-! ### The record -/

theorem exec_start {a : Answer} (ready : LinkReady s) (homed : s.gdr.homingDone = true) (config : s.opState = .config)
    (answer : (startFault s).elim (accepted [] startPart) (fun f => ⟨.inconsistent, e8 f.1 ++ e8 f.2, id⟩) = a) :
    exec (.start []) s = .next (a.after (respond 0x05 a.result a.data s)) := by
  refine exec_answer (r := ⟨0x05, []⟩) rfl ready (by rw [heldRecord, homed]; rfl) ?_
  show withLength 0 [] (whenState inConfig s _) = _
  rw [withLength, if_pos List.length_nil, whenState, if_pos (by rw [config]; rfl), ← answer]
  cases startFault s <;> rfl

theorem exec_start_ok (ready : LinkReady s) (homed : s.gdr.homingDone = true) (config : s.opState = .config) (fits : startFault s = none) :
    exec (.start []) s = .next (enterRun .start false (started s)) := by
  have done := exec_start ready homed config (a := accepted [] startPart) (by rw [fits]; rfl)
  rw [← startPart_eq]
  exact done

/-- The response makes no event, and STATE is the first behind it. -/
theorem exec_start_queued (s : State) :
    ∃ more, Queued (.state .run .start :: more) s (enterRun .start false (started s)) := by
  have marked := started_marked s
  obtain ⟨events, overrun⟩ := marked .events (by decide)
  have answered := (respond_queued 0x05 .ok [] s).of_same events overrun
  obtain ⟨more, queued⟩ := enterRun_queued (cause := .start)
    ((marked .queues (by decide)).held (respond_held 0x05 .ok [] s))
  exact ⟨more, answered.append queued⟩

end

/-- Settles O18: the first table and index at fault, or RUN. -/
theorem startEntersRun : Obligations.StartEntersRun := by
  intro s ready homed config
  refine ⟨fun table index fault => exec_start ready homed config (by rw [fault, Option.elim_some]), ⟨startFault_unloaded, fun loaded => ?_⟩,
    fun fits => ?_⟩
  · have tables := startFault_loaded loaded
    refine ⟨fun i unfit first => ?_, fun signals => ?_⟩
    · rw [tables, firstUnfit_at 1 (mt (signalFits_iff i).1 unfit) fun j before => (signalFits_iff j).2 (first j before)]
      rfl
    rw [firstUnfit_none 1 fun i => (signalFits_iff i).2 (signals i)] at tables
    refine ⟨fun k l below first second only => ?_, fun one => ?_⟩
    · rw [tables, secondPulseSense_at below first second only]
      rfl
    rw [secondPulseSense_none one] at tables
    refine ⟨fun l unfit first => ?_, fun doors => ?_⟩
    · rw [tables, firstUnfit_at 6 (mt (doorFits_iff l).1 unfit) fun j before => (doorFits_iff j).2 (first j before)]
      rfl
    rw [firstUnfit_none 6 fun l => (doorFits_iff l).2 (doors l)] at tables
    refine ⟨fun c unfit first => ?_, fun gauges => ?_⟩
    · rw [tables, firstUnfit_at 7 (mt (gaugeFits_iff c).1 unfit) fun j before => (gaugeFits_iff j).2 (first j before)]
      rfl
    rw [firstUnfit_none 7 fun c => (gaugeFits_iff c).2 (gauges c)] at tables
    refine ⟨fun i unfit first => ?_, fun warnings => ?_⟩
    · rw [tables, firstUnfit_at 8 (mt (warningFits_iff i).1 unfit) fun j before => (warningFits_iff j).2 (first j before)]
      rfl
    · rw [tables, firstUnfit_none 8 fun i => (warningFits_iff i).2 (warnings i)]
      rfl
  · have entered := enterRun_frame .start false (started s)
    have frame : ChangesOnly (.firstStart :: runEntry ++ parkEntering) (respond 0x05 .ok [] s)
        (enterRun .start false (started s)) := ((started_marked s).mono (by decide)).trans (entered.mono (by decide))
    have marked : (enterRun .start false (started s)).flt.firstStart = true := entered .firstStart (by decide)
    obtain ⟨more, queued⟩ := exec_start_queued s
    refine ⟨enterRun .start false (started s), more, exec_start_ok ready homed config fits,
      (answered_after frame (by decide)).1, marked, queued, takeZeroDelay_parks, fun waits => ?_, 
      (answered_frame frame).mono (by decide)⟩
    have stays : enterRun .start false (started s) = startTold s := takeZeroDelay_started waits
    rw [stays]
    obtain ⟨latch, request⟩ := startTold_latch s
    exact ⟨startTold_opState s, startTold_parkDue s, fun i e entry enabled => startTold_frames entry enabled,
      fun l f fault => startTold_lines fault, startTold_measurement s, startTold_filters s, startTold_entries config,
      fun l fitted => startTold_leaf config fitted, fun p exists_ => startTold_portal config exists_,
      startTold_doorSlots s, latch, request⟩

end Sys2Proof.Machine
end

section
/-! PROOFS. The slots that an operation of a block may write, and all the others, which it leaves. -/

namespace Sys2Proof.Machine

/-! ### Slots left as they are -/

/-- Every slot outside the list keeps its record. -/
def Spares (ks : List Slot) (s t : State) : Prop := ∀ k, k ∉ ks → t.slot k = s.slot k

/-- The slots of the speed unit that follow the pulses (R65, R71, R78). -/
def speedSlots : List Slot := [pulseSpeed, vehicleSpeed, driveCycle]

/-- The slots of the door monitor (R140, R143). -/
def doorSlots : List Slot := [doorsAllClosed, stopRequest, openPortals]

namespace Spares

variable {ks js : List Slot} {ps : List Piece} {s t u : State}

theorem refl (ks : List Slot) (s : State) : Spares ks s s := fun _ _ => rfl

theorem trans (h : Spares ks s t) (k : Spares ks t u) : Spares ks s u := fun i other => (k i other).trans (h i other)

theorem mono (h : Spares ks s t) (sub : ks ⊆ js) : Spares js s t := fun i other => h i fun member => other (sub member)

theorem of_frame (h : ChangesOnly ps s t) (quiet : Piece.slots ∉ ps) : Spares ks s t := fun i _ => h.slot quiet i

theorem foldl {α : Type} {f : State → α → State} (h : ∀ s a, Spares ks s (f s a)) (l : List α) (s : State) :
    Spares ks s (l.foldl f s) := by
  induction l generalizing s with
  | nil => exact .refl ks s
  | cons a l ih => exact (h s a).trans (ih _)

theorem ite {c : Prop} [Decidable c] (h : c → Spares ks s t) (k : ¬c → Spares ks s u) :
    Spares ks s (if c then t else u) := by
  split
  · exact h ‹_›
  · exact k ‹_›

theorem elim {α : Type} {f : α → State} (o : Option α) (h : Spares ks s t) (k : ∀ a, Spares ks s (f a)) :
    Spares ks s (o.elim t f) := by
  cases o
  · exact h
  · exact k _

end Spares

theorem valueWrite_spares {ks : List Slot} {i : Slot} (member : i ∈ ks) (v : Int) (q : Quality) (s : State) :
    Spares ks s (valueWrite i v q s) := fun _ other => valueWrite_other (ne_of_mem_of_not_mem member other).symm v q s

theorem qualityWrite_spares {ks : List Slot} {i : Slot} (member : i ∈ ks) (q : Quality) (s : State) :
    Spares ks s (qualityWrite i q s) := fun _ other =>
  qualityWrite_other (ne_of_mem_of_not_mem member other).symm q s

/-! ### Speed and distance unit -/

theorem reform_spares (s : State) : Spares [vehicleSpeed, driveCycle] s (reform s) := fun k other => by
  simp only [List.mem_cons, List.not_mem_nil, or_false, not_or] at other
  rw [reform_slot, if_neg other.1, if_neg fun h => other.2 h.1]

theorem restWrites_spares (s : State) : Spares [pulseSpeed] s (restWrites s) := fun _ other =>
  restWrites_slot_other (by simpa using other) s

theorem bringToRest_spares (s : State) : Spares speedSlots s (bringToRest s) := by
  unfold bringToRest
  split
  · exact .refl _ s
  · exact ((restWrites_spares s).mono (by decide)).trans ((reform_spares _).mono (by decide))

theorem setImplausible_spares (b : Bool) (s : State) : Spares [vehicleSpeed, driveCycle] s (setImplausible b s) :=
  fun k other => by
    simp only [List.mem_cons, List.not_mem_nil, or_false, not_or] at other
    exact setImplausible_slot b s other

theorem setSenderFault_spares (b : Bool) (s : State) : Spares speedSlots s (setSenderFault b s) := by
  have rest {u : State} (h : Spares speedSlots s u) : Spares speedSlots s (bringToRest u) := h.trans (bringToRest_spares u)
  unfold setSenderFault
  split
  · exact .refl _ s
  · simp only
    have told : Spares speedSlots s { s with lsc := { s.lsc with senderFault := b } } := fun _ _ => rfl
    split
    · split
      · exact rest (told.trans (.of_frame (stopMeasurement_frame _) (by decide)))
      · exact .ite (fun _ => rest told) fun _ => told
    · split
      · exact rest (told.trans (.of_frame (awaitEdge_frame _) (by decide)))
      · exact rest told

theorem dropWindow_spares (ks : List Slot) (s : State) : Spares ks s (dropWindow s) := by
  obtain ⟨meas, due, eq⟩ := dropWindow_eq s
  rw [eq]
  exact fun _ _ => rfl

theorem takeStandstill_spares (s : State) : Spares speedSlots s (takeStandstill s) := by
  rw [takeStandstill_eq]
  exact Spares.trans (t := standstillStart s) (dropWindow_spares _ _) (bringToRest_spares _)

theorem checkBound_spares (s : State) : Spares speedSlots s (checkBound s) := by
  unfold checkBound
  exact .ite (fun _ => (valueWrite_spares (by decide) _ _ s).trans ((reform_spares _).mono (by decide)))
    fun _ => .refl _ s

theorem writeWindow_spares (v : Nat) (s : State) : Spares [pulseSpeed] s (writeWindow v s) := by
  unfold writeWindow
  exact .ite (fun _ => valueWrite_spares (by decide) _ _ s) fun _ => valueWrite_spares (by decide) _ _ s

theorem measureEdge_spares (s : State) : Spares speedSlots s (measureEdge s) := by
  unfold measureEdge
  split
  · exact .refl _ s
  · exact fun _ _ => rfl
  · refine .ite (fun _ _ _ => rfl) fun _ => ?_
    exact Spares.trans (t := { s with sdu := { s.sdu with meas := .opened s.now 0 } }) (fun _ _ => rfl)
      (((writeWindow_spares _ _).mono (by decide)).trans ((reform_spares _).mono (by decide)))

theorem distanceStep_spares (s : State) : Spares [odometer, tripA, tripB] s (distanceStep s) := by
  refine Spares.trans (t := if s.sdu.loadUsed then
    if (s.slot odometer).value < 999999999 then valueWrite odometer ((s.slot odometer).value + 1) .valid s else s
    else { s with sdu := { s.sdu with preload := satSucc 999999999 s.sdu.preload } }) ?_
    ((valueWrite_spares (by decide) _ _ _).trans (valueWrite_spares (by decide) _ _ _))
  exact .ite (fun _ => .ite (fun _ => valueWrite_spares (by decide) _ _ s) fun _ => .refl _ s) fun _ _ _ => rfl

theorem addDistance_spares (s : State) : Spares [odometer, tripA, tripB] s (addDistance s) := by
  unfold addDistance
  exact .ite (fun _ => Spares.trans (fun _ _ => rfl) (distanceStep_spares _)) fun _ _ _ => rfl

/-- The slots that an edge may write. -/
def edgeSlots : List Slot := [odometer, tripA, tripB] ++ speedSlots

theorem acceptEdge_spares (s : State) : Spares edgeSlots s (acceptEdge s) := by
  refine Spares.trans (t := { s with sdu := { s.sdu with filterRef := some s.now } }) (fun _ _ => rfl) ?_
  refine Spares.trans ((addDistance_spares _).mono (by decide)) ?_
  exact Spares.trans ((measureEdge_spares _).mono (by decide)) fun _ _ => rfl

theorem actOnWrite_spares (groups : List CalGroup) (loaded : Bool) (s : State) :
    Spares speedSlots s (actOnWrite groups loaded s) := by
  have measured : Spares speedSlots s (if groups.contains .measuring then abandonWindow s else s) :=
    .ite (fun _ => .of_frame (abandonWindow_frame s) (by decide)) fun _ => .refl _ s
  unfold actOnWrite
  simp only
  generalize (if groups.contains .measuring then abandonWindow s else s) = s1 at measured ⊢
  have stood : Spares speedSlots s (if groups.contains .standstill && standstillDue s1 then takeStandstill s1 else s1) :=
    .ite (fun _ => measured.trans (takeStandstill_spares s1)) fun _ => measured
  generalize (if groups.contains .standstill && standstillDue s1 then takeStandstill s1 else s1) = s2 at stood ⊢
  have checked : Spares speedSlots s
      (if groups.contains .plausibility then { s2 with sdu := { s2.sdu with plausFrom := none } } else s2) :=
    .ite (fun _ => stood.trans fun _ _ => rfl) fun _ => stood
  generalize (if groups.contains .plausibility then { s2 with sdu := { s2.sdu with plausFrom := none } } else s2) = s3
    at checked ⊢
  refine Spares.trans (t := if loaded then s3 else restWrites s3) (.ite (fun _ => checked) fun _ => ?_)
    ((reform_spares _).mono (by decide))
  exact checked.trans ((restWrites_spares _).mono (by decide))

theorem writeCalibration_spares (e : CalEntry) (code : Nat) (o : Origin) (gs : List CalGroup) (s : State) :
    Spares speedSlots s (writeCalibration e code o gs s) := by
  refine Spares.trans (t := { s with sdu := { s.sdu with cal := some e } }) (fun _ _ => rfl) ?_
  exact Spares.trans (.of_frame (queueEvent_frame _ _) (by decide)) (actOnWrite_spares _ _ _)

theorem sduEnterRun_spares (s : State) : Spares [vehicleSpeed, driveCycle] s (sduEnterRun s) :=
  (sduEnterRun_touches s).2

/-! ### Door monitor -/

theorem writeDoorSlots_spares (s : State) : Spares doorSlots s (writeDoorSlots s) :=
  (valueWrite_spares (by decide) _ _ s).trans (valueWrite_spares (by decide) _ _ _)

theorem doorEvent_spares (ks : List Slot) (e : Event) (s : State) : Spares ks s (doorEvent e s) :=
  .of_frame (doorEvent_frame e s) (by decide)

theorem clearLatch_spares (source : Option (Fin 4)) (s : State) : Spares doorSlots s (clearLatch source s) := by
  have told (u : State) : Spares doorSlots u (doorEvent (.stopRequest false source)
      { u with drm := { u.drm with
          latch := false, portals := mapTable (fun r => { r with requested := false }) u.drm.portals } }) :=
    fun k other => doorEvent_spares doorSlots _ _ k other
  unfold clearLatch
  split
  · exact Spares.trans (valueWrite_spares (by decide) 0 .valid s) (told _)
  · exact .refl _ s

theorem press_spares (p : Fin 4) (s : State) : Spares doorSlots s (press p s) := by
  have told (u : State) : Spares doorSlots u (doorEvent (.stopRequest true (some p))
      { u with drm := { u.drm with latch := true } }) := fun k other => doorEvent_spares doorSlots _ _ k other
  have marked : Spares doorSlots s (setPortalRun p { portalRun p s with requested := true } s) :=
    .of_frame (setPortalRun_frame _ _ s) (by decide)
  unfold press
  split
  · exact .refl _ s
  · exact marked.trans (Spares.trans (valueWrite_spares (by decide) 1 .valid _) (told _))

theorem takeRequestReading_spares (p : Fin 4) (s : State) : Spares doorSlots s (takeRequestReading p s) := by
  unfold takeRequestReading
  split
  · exact .refl _ s
  · have read (r : PortalRun) : Spares doorSlots s (setPortalRun p r s) := fun _ _ => rfl
    exact .ite (fun _ => (read _).trans (press_spares _ _)) fun _ => read _

theorem putPortal_spares (ks : List Slot) (p : Fin 4) (st : PortalState) (b : Bool) (s : State) :
    Spares ks s (putPortal p st b s) := by
  unfold putPortal
  exact .ite (fun _ => .refl _ s) fun _ => Spares.trans (fun _ _ => rfl) (doorEvent_spares _ _ _)

theorem reformPortal_spares (p : Fin 4) (s : State) : Spares doorSlots s (reformPortal p s) := by
  have last {u : State} (h : Spares doorSlots s u) : Spares doorSlots s (writeDoorSlots (withdrawChime p u)) :=
    h.trans (Spares.trans (.of_frame (withdrawChime_frame p u) (by decide)) (writeDoorSlots_spares _))
  have put := putPortal_spares doorSlots p (formPortal p s) (formReleased p s) s
  unfold reformPortal
  refine .ite (fun _ => last ?_) fun _ => .refl _ s
  exact .ite (fun _ => put.trans (clearLatch_spares _ _)) fun _ => put

theorem changeLeaf_spares (ks : List Slot) (l : Fin 8) (new : LeafState) (s : State) :
    Spares ks s (changeLeaf l new s) :=
  (doorEvent_spares ks _ s).trans fun _ _ => rfl

theorem deriveLeaf_spares (l : Fin 8) (s : State) : Spares doorSlots s (deriveLeaf l s) := by
  unfold deriveLeaf
  exact .ite (fun _ => .refl _ s) fun _ => (changeLeaf_spares _ _ _ s).trans (reformPortal_spares _ _)

theorem takeEdge_spares (ks : List Slot) (l : Fin 8) (s : State) : Spares ks s (takeEdge l s) := by
  unfold takeEdge
  simp only
  split
  · exact .refl _ s
  · exact fun _ _ => rfl
  · exact .ite (fun _ => .refl _ s) fun _ => Spares.trans (fun _ _ => rfl) (doorEvent_spares _ _ _)

theorem notifyDoors_spares (i : Slot) (s : State) : Spares doorSlots s (notifyDoors i s) := by
  have leaf (s : State) (l : Fin 8) : Spares doorSlots s (notifyLeaf i s l) := by
    unfold notifyLeaf
    refine .ite (fun _ => ?_) fun _ => .refl _ s
    exact Spares.trans (.ite (fun _ => takeEdge_spares _ _ s) fun _ => .refl _ s) (deriveLeaf_spares _ _)
  have portal (s : State) (p : Fin 4) : Spares doorSlots s (notifyPortal i s p) := by
    have release : Spares doorSlots s (if (leader p s).releaseSlot = some i then reformPortal p s else s) :=
      .ite (fun _ => reformPortal_spares _ s) fun _ => .refl _ s
    unfold notifyPortal
    refine .ite (fun _ => ?_) fun _ => .refl _ s
    exact .ite (fun _ => release.trans (takeRequestReading_spares _ _)) fun _ => release
  unfold notifyDoors
  exact .ite (fun _ => .refl _ s) fun _ => (Spares.foldl leaf _ s).trans (.foldl portal _ _)

theorem expireTransit_spares (l : Fin 8) (s : State) : Spares doorSlots s (expireTransit l s) := by
  have flagged (cs : List Instr) (r : LeafRun) (u : State) : Spares doorSlots u (post cs (setLeafRun l r u)) :=
    fun _ _ => rfl
  unfold expireTransit
  exact (changeLeaf_spares _ l .ajar s).trans ((flagged _ _ _).trans (reformPortal_spares _ _))

theorem drmEnterRun_spares (b : Bool) (s : State) : Spares doorSlots s (drmEnterRun b s) := by
  have leaf (s : State) (l : Fin 8) : Spares doorSlots s (if leafFitted l s then deriveLeaf l s else s) :=
    .ite (fun _ => deriveLeaf_spares l s) fun _ => .refl _ s
  cases b
  case false =>
    obtain ⟨-, spares⟩ := drmEnterRun_touches s
    exact Spares.mono (ks := [doorsAllClosed, openPortals]) spares (by decide)
  case true =>
    rw [drmEnterRun, if_pos rfl]
    unfold rederive
    exact Spares.trans (Spares.foldl leaf _ s) (Spares.foldl (fun s p => reformPortal_spares p s) _ _)

/-! ### Frame path and line scanner -/

theorem takeFrame_inner {i : Fin 64} {e : FrameEntry} {data : List Byte} {s : State} {k : Slot}
    (inner : isInternal k = true) : (takeFrame i e data s).slot k = s.slot k := by
  have unproduced (u : State) : k ∉ frameSlots i u := fun member => by
    simp [isInternal_of_mem_frameSlots member] at inner
  have accepted (u : State) : (acceptFrame i e data u).slot k = u.slot k := by
    unfold acceptFrame
    rw [extract_eq, (takeSlots_other (unproduced _) _).1, (putTimeoutFlag_frame i false _).slot (by decide)]
    rfl
  have length (b : Bool) : (putLengthFlag i b s).slot k = s.slot k := (putLengthFlag_frame i b s).slot (by decide) k
  have alive (u : State) : (aliveCheck i e data u).2.slot k = u.slot k := (aliveCheck_frame i e data u).slot (by decide) k
  unfold takeFrame
  simp only
  split
  · exact length true
  · split
    · exact ((wakeFrame_frame _).slot (by decide) k).trans (length false)
    · split
      · exact (accepted _).trans ((alive _).trans (length false))
      · exact (alive _).trans (length false)

theorem lapse_inner {i : Fin 64} {s : State} {k : Slot} (inner : isInternal k = true) :
    (lapse i s).slot k = s.slot k := by
  have unproduced : k ∉ frameSlots i s := fun member => by simp [isInternal_of_mem_frameSlots member] at inner
  unfold lapse
  simp only
  rw [(putTimeoutFlag_frame i true _).slot (by decide)]
  split
  · rw [(setFrameRun_frame i _ _).slot (by decide), staleAtTimeout_eq, staleSlots_slot,
      if_neg fun h => unproduced h.1]
  all_goals rfl

/-- The slots a line may write with what follows from its sender fault: those it produces, and the speed unit's. -/
theorem lineSlots_outer {line : Fin 48} {s : State} {k : Slot} (inner : isInternal k = true) (other : k ≠ ignition) :
    k ∉ lineSlots line s := by
  intro member
  rw [lineSlots, List.mem_append] at member
  rcases member with member | member
  · split at member
    · exact other (by simpa using member)
    · simp at member
  · simp [((mem_slotsWith _ _ _).1 member).1] at inner

theorem writeSlots_other {l : List Slot} {k : Slot} (absent : k ∉ l) (v : Int) (q : Quality) (s : State) :
    (writeSlots l v q s).slot k = s.slot k :=
  have written (m : List Slot) (sub : m ⊆ l) (u : State) : (writeSlots m v q u).slot k = u.slot k := by
    induction m generalizing u with
    | nil => rfl
    | cons i m ih =>
      exact (ih (List.subset_of_cons_subset sub) _).trans
        (valueWrite_other (ne_of_mem_of_not_mem (sub List.mem_cons_self) absent).symm v q u)
  written l (List.Subset.refl l) s

theorem markSlots_other {l : List Slot} {k : Slot} (absent : k ∉ l) (q : Quality) (s : State) :
    (markSlots l q s).slot k = s.slot k :=
  have marked (m : List Slot) (sub : m ⊆ l) (u : State) : (markSlots m q u).slot k = u.slot k := by
    induction m generalizing u with
    | nil => rfl
    | cons i m ih =>
      exact (ih (List.subset_of_cons_subset sub) _).trans
        (qualityWrite_other (ne_of_mem_of_not_mem (sub List.mem_cons_self) absent).symm q u)
  marked l (List.Subset.refl l) s

section
variable {line : Fin 48} {s : State} {k : Slot} (inner : isInternal k = true) (other : k ≠ ignition)
include inner other

theorem actOnReading_inner (e : LineEntry) (x : Reading) (code : Nat) :
    (actOnReading line e x code s).slot k = s.slot k := by
  have absent (u : State) : k ∉ lineSlots line u := lineSlots_outer inner other
  cases x
  case active => exact writeSlots_other (absent _) _ _ _
  case inactive => exact writeSlots_other (absent _) _ _ _
  case value => exact writeSlots_other (absent _) _ _ _
  case senderOk => exact writeSlots_other (absent _) _ _ _
  all_goals exact markSlots_other (absent _) _ _

theorem accept_inner (apart : k ∉ speedSlots) (e : LineEntry) (x : Reading) (code : Nat) :
    (accept line e x code s).slot k = s.slot k := by
  unfold accept
  simp only
  split
  · exact (setSenderFault_spares _ _ k apart).trans (actOnReading_inner inner other e x code)
  · exact actOnReading_inner inner other e x code

theorem takeReading_inner (apart : k ∉ speedSlots) (e : LineEntry) (x : Reading) (code : Nat) :
    (takeReading line e x code s).slot k = s.slot k := by
  unfold takeReading
  simp only
  split
  · split
    · exact writeSlots_other (lineSlots_outer inner other) _ _ _
    · rfl
  · split
    · exact accept_inner inner other apart e x code
    · split
      · exact accept_inner inner other apart e x code
      · rfl

theorem sampleLine_inner (apart : k ∉ speedSlots) (code : BitVec 10) :
    (sampleLine line code s).slot k = s.slot k := by
  unfold sampleLine
  simp only
  split
  · rfl
  · exact takeReading_inner inner other apart _ _ _

end

theorem writeLine_spares (line : Fin 48) (e : LineEntry) (s : State) : Spares speedSlots s (writeLine line e s) :=
  have load (u : State) : Spares speedSlots u
      (reformIndication { u with lsc := { u.lsc with table := u.lsc.table.set line (some e) } }) :=
    Spares.trans (t := { u with lsc := { u.lsc with table := u.lsc.table.set line (some e) } }) (fun _ _ => rfl)
      (setSenderFault_spares _ _)
  have ended (cs : List Instr) (r : LineRun) : Spares speedSlots s (setLine line r (post cs s)) := fun _ _ => rfl
  (ended _ _).trans (load _)

end Sys2Proof.Machine
end

section
/-! PROOFS. The part right after reset satisfies the six invariants. -/

namespace Sys2Proof.Machine

/-! ### The active list where no entry is in it, and where its entries keep their keys (R112) -/

section
variable {s t : State}

theorem not_inActiveList_of_off {i : Fin 96} (off : (warnRun i s).state = .off) : inActiveList s i = false := by
  simp [inActiveList, off, WarnState.inList]

theorem activeList_eq_nil (none : ∀ i, inActiveList s i = false) : activeList s = [] := by
  rw [activeList, List.filter_eq_nil_iff.2 fun i _ => by simp [none i]]
  rfl

theorem insertByKey_congr {i : Fin 96} {l : List (Fin 96)} (own : listKey t i = listKey s i)
    (keys : ∀ j ∈ l, listKey t j = listKey s j) : insertByKey t i l = insertByKey s i l := by
  induction l with
  | nil => rfl
  | cons j l ih =>
    rw [insertByKey, insertByKey, own, keys j List.mem_cons_self, ih fun k hk => keys k (List.mem_cons_of_mem _ hk)]

theorem insertionSort_congr {l : List (Fin 96)} (keys : ∀ j ∈ l, listKey t j = listKey s j) :
    l.foldr (insertByKey t) [] = l.foldr (insertByKey s) [] := by
  have member (m : List (Fin 96)) (k : Fin 96) : k ∈ m.foldr (insertByKey s) [] → k ∈ m := by
    induction m with
    | nil => exact id
    | cons i m ih =>
      intro h
      rcases List.mem_cons.1 ((insertByKey_perm s i _).mem_iff.1 h) with rfl | h
      · exact List.mem_cons_self
      · exact List.mem_cons_of_mem _ (ih h)
  induction l with
  | nil => rfl
  | cons i l ih =>
    rw [List.foldr_cons, List.foldr_cons, ih fun j hj => keys j (List.mem_cons_of_mem _ hj)]
    exact insertByKey_congr (keys i List.mem_cons_self) fun j hj => keys j (List.mem_cons_of_mem _ (member l j hj))

/-- The list depends on who is in it and on their keys alone. -/
theorem activeList_congr (listed : ∀ i, inActiveList t i = inActiveList s i)
    (keys : ∀ i, inActiveList s i = true → listKey t i = listKey s i) : activeList t = activeList s := by
  rw [activeList, activeList, funext listed]
  exact insertionSort_congr fun i hi => keys i (List.mem_filter.1 hi).2

end

/-! ### The warning unit in CONFIG -/

/-- In CONFIG the warning unit is legal when every entry is OFF and without truth, and the list is told empty. -/
theorem warningsLegal_of_config {t : State} (config : t.opState = .config)
    (runs : ∀ i, (warnRun i t).state = .off ∧ (warnRun i t).timer = none ∧ (warnRun i t).truth = none
      ∧ (warnRun i t).cond = false)
    (value : (t.slot activeWarnings).value = 0) (quality : (t.slot activeWarnings).quality = .valid)
    (top : t.wrn.reportedTop = none) : WarningsLegal t := by
  have nobody : activeList t = [] := activeList_eq_nil fun i => not_inActiveList_of_off (runs i).1
  refine ⟨fun i _ => ?_, fun _ i => ?_, fun parked => ?_, ?_, quality, ?_⟩
  · obtain ⟨state, timer, -⟩ := runs i
    exact ⟨state, timer⟩
  · obtain ⟨-, -, truth, cond⟩ := runs i
    exact ⟨truth, cond⟩
  · rw [config] at parked
    cases parked
  · rw [nobody, value]
    rfl
  · rw [topWarning, nobody, top]
    rfl

/-! ### The six invariants at reset -/

theorem reset_faultMemoryLegal : FaultMemoryLegal State.reset := by
  simp [FaultMemoryLegal, State.reset, Flt.reset]

theorem reset_chimeLegal : ChimeLegal State.reset := by
  simp [ChimeLegal, State.reset, Chg.reset]

theorem reset_linkLegal : LinkLegal State.reset := by
  simp [LinkLegal, State.reset, Cli.reset, Wsp.reset, placesHeld]

theorem reset_warningsLegal : WarningsLegal State.reset := by
  have run (i : Fin 96) : warnRun i State.reset = .reset := by simp [warnRun, State.reset, Wrn.reset]
  have slot : State.reset.slot activeWarnings = ⟨0, .valid, some 0⟩ := State.slot_reset activeWarnings
  refine warningsLegal_of_config rfl (fun i => ?_) (by rw [slot]) (by rw [slot]) rfl
  rw [run]
  exact ⟨rfl, rfl, rfl, rfl⟩

theorem reset_gaugesLegal : GaugesLegal State.reset := by
  intro c
  have entry : gaugeEntry c State.reset = .unloaded := by simp [gaugeEntry, State.reset, Gdr.reset]
  have run : gaugeRun c State.reset = ⟨0, 0, 0, 0, none⟩ := by simp [gaugeRun, State.reset, Gdr.reset]
  refine ⟨?_, ?_, ?_, ?_, fun position test => ?_⟩
  · rw [entry]
    decide
  · simp [run]
  · simp [run]
  · simp [run]
  · simp [gaugeTest, State.reset, Wsp.reset] at test

theorem reset_distanceLegal : DistanceLegal State.reset := by
  refine ⟨by decide, by decide, by decide, fun i slot => ?_⟩
  simp [frameSpeedSlot, State.reset, Sdu.reset] at slot

/-- Settles O55, invariant by invariant. -/
theorem resetIsLegal : Obligations.ResetIsLegal :=
  ⟨reset_faultMemoryLegal, reset_chimeLegal, reset_linkLegal, reset_warningsLegal, reset_gaugesLegal,
    reset_distanceLegal⟩

end Sys2Proof.Machine
end

section
/-! PROOFS. One gauge channel at its interval: its target, filter and pointer as numbers (R86 to R89), and the run-time
state that the interval leaves in it (R85). -/

namespace Sys2Proof.Machine

/-! ### Target, filter and pointer (R86 to R89) -/

theorem clampInt_mem {lo hi v : Int} (h : lo ≤ hi) : lo ≤ clampInt lo hi v ∧ clampInt lo hi v ≤ hi := by
  unfold clampInt
  split
  · omega
  · split <;> omega

/-- The target as the quotient of R86, rounded to the nearest step of the span. -/
theorem targetOf_eq {e : GaugeEntry} (ordered : e.vmin < e.vmax) (v : Int) : (targetOf e v : Int)
    = ((clampInt e.vmin e.vmax v - e.vmin) * e.span + (e.vmax - e.vmin) / 2) / (e.vmax - e.vmin) := by
  obtain ⟨above, -⟩ := clampInt_mem (v := v) ordered.le
  refine Int.toNat_of_nonneg (Int.ediv_nonneg ?_ (by omega))
  have product : 0 ≤ (clampInt e.vmin e.vmax v - e.vmin) * e.span := Int.mul_nonneg (by omega) (by omega)
  omega

theorem targetOf_le {e : GaugeEntry} (ordered : e.vmin < e.vmax) (v : Int) : targetOf e v ≤ e.span := by
  obtain ⟨-, below⟩ := clampInt_mem (v := v) ordered.le
  have product : (clampInt e.vmin e.vmax v - e.vmin) * e.span ≤ (e.vmax - e.vmin) * e.span :=
    Int.mul_le_mul_of_nonneg_right (by omega) (by omega)
  have quotient : (targetOf e v : Int) < e.span + 1 := by
    rw [targetOf_eq ordered]
    refine Int.ediv_lt_of_lt_mul (by omega) ?_
    have room : (e.span + 1 : Int) * (e.vmax - e.vmin) = (e.vmax - e.vmin) * e.span + (e.vmax - e.vmin) := by ring
    omega
  omega

theorem filterStep_le {k f target span : Nat} (hf : f ≤ 256 * span) (ht : target ≤ span) :
    filterStep k f target ≤ 256 * span := by
  have up : (256 * target - f) / 2 ^ k ≤ 256 * target - f := Nat.div_le_self _ _
  have down : f - (f - 256 * target) / 2 ^ k ≤ f := Nat.sub_le _ _
  unfold filterStep
  simp only
  split
  · split <;> omega
  · split
    · split
      · omega
      · exact down.trans hf
    · exact hf

/-- The filter as R88 gives it: a step of the distance over 2 to the damping, and to the target where that step is 0. -/
theorem filterStep_eq (k f target : Nat) : filterStep k f target
    = if f ≤ 256 * target then
        (if (256 * target - f) / 2 ^ k = 0 then 256 * target else f + (256 * target - f) / 2 ^ k)
      else if (f - 256 * target) / 2 ^ k = 0 then 256 * target else f - (f - 256 * target) / 2 ^ k := by
  unfold filterStep
  rcases Nat.lt_trichotomy f (256 * target) with below | same | above
  · simp only [if_pos below, if_pos below.le]
  · simp [← same]
  · simp only [if_neg (Nat.lt_asymm above), if_pos above, if_neg (Nat.not_le.2 above)]

theorem stepPointer_le {rate p command span : Nat} (hp : p ≤ span) (hc : command ≤ span) :
    stepPointer rate p command ≤ span := by
  unfold stepPointer
  split
  · split <;> omega
  · split <;> omega

/-! ### One channel (R85) -/

/-- Pointer, filter and last target within the span of the entry (R83, R84, R86, R89). -/
structure WithinSpan (e : GaugeEntry) (r : GaugeRun) : Prop where
  pointer : r.p ≤ e.span
  filter : r.f ≤ 256 * e.span
  lastTarget : r.prevTarget ≤ e.span

/-- The run-time state of a channel behind its interval. -/
def steppedRun (c : Fin 6) (s : State) : GaugeRun :=
  let e := gaugeEntry c s
  let r := gaugeRun c s
  let toward (r : GaugeRun) (command : Nat) : GaugeRun := { r with p := stepPointer e.rate r.p command }
  match gaugeMode c s with
  | .homing => r
  | .test position => toward (if e.enabled then formTarget e r s else r) position
  | .sweep => toward r (sweepTarget e s)
  | .track =>
    let formed := formTarget e r s
    let f := filterStep e.damping formed.f formed.target
    toward { formed with f } ((f + 128) / 256)
  | .rest => toward r 0

section
variable {s t : State} {c : Fin 6}

theorem setGaugeRun_self (c : Fin 6) (s : State) : setGaugeRun c (gaugeRun c s) s = s := by
  simp [setGaugeRun, gaugeRun]

theorem stepChannel_eq (s : State) (c : Fin 6) : stepChannel s c = setGaugeRun c (steppedRun c s) s := by
  unfold stepChannel steppedRun
  cases gaugeMode c s with
  | homing => exact (setGaugeRun_self c s).symm
  | test | sweep | track | rest => rfl

theorem gaugeRun_stepChannel (s : State) (c d : Fin 6) :
    gaugeRun d (stepChannel s c) = if d = c then steppedRun c s else gaugeRun d s := by
  rw [stepChannel_eq, gaugeRun_setGaugeRun]

theorem steppedRun_test {position : Nat} (homed : s.gdr.homingDone = true) (test : gaugeTest c s = some position) :
    steppedRun c s
      = let r := if (gaugeEntry c s).enabled then formTarget (gaugeEntry c s) (gaugeRun c s) s else gaugeRun c s
        { r with p := stepPointer (gaugeEntry c s).rate r.p position } := by
  have mode : gaugeMode c s = .test position := by simp [gaugeMode, homed, test]
  rw [steppedRun, mode]

theorem steppedRun_sweep (homed : s.gdr.homingDone = true) (test : gaugeTest c s = none)
    (enabled : (gaugeEntry c s).enabled = true) (sweep : s.opState = .sweep) : steppedRun c s
      = { gaugeRun c s with
          p := stepPointer (gaugeEntry c s).rate (gaugeRun c s).p (sweepTarget (gaugeEntry c s) s) } := by
  have mode : gaugeMode c s = .sweep := by simp [gaugeMode, homed, test, enabled, sweep]
  rw [steppedRun, mode]

theorem steppedRun_track (homed : s.gdr.homingDone = true) (test : gaugeTest c s = none)
    (enabled : (gaugeEntry c s).enabled = true) (run : s.opState = .run) : steppedRun c s
      = let r := formTarget (gaugeEntry c s) (gaugeRun c s) s
        let f := filterStep (gaugeEntry c s).damping r.f r.target
        { r with f := f, p := stepPointer (gaugeEntry c s).rate r.p ((f + 128) / 256) } := by
  have mode : gaugeMode c s = .track := by simp [gaugeMode, homed, test, enabled, run]
  rw [steppedRun, mode]

theorem steppedRun_rest (homed : s.gdr.homingDone = true) (test : gaugeTest c s = none)
    (rest : (gaugeEntry c s).enabled = false ∨ s.opState = .config ∨ s.opState = .parked) : steppedRun c s
      = { gaugeRun c s with p := stepPointer (gaugeEntry c s).rate (gaugeRun c s).p 0 } := by
  have mode : gaugeMode c s = .rest := by
    rcases rest with h | h | h <;> simp [gaugeMode, homed, test, h]
  rw [steppedRun, mode]

theorem formTarget_target_le {e : GaugeEntry} {r : GaugeRun} (ordered : e.vmin < e.vmax) (within : WithinSpan e r)
    (s : State) : (formTarget e r s).target ≤ e.span := by
  have last := within.lastTarget
  unfold formTarget
  simp only
  split
  · exact targetOf_le ordered _
  · split
    · exact last
    · exact Nat.zero_le _

theorem formTarget_within {e : GaugeEntry} {r : GaugeRun} (ordered : e.vmin < e.vmax) (within : WithinSpan e r)
    (s : State) : WithinSpan e (formTarget e r s) := by
  obtain ⟨pointer, filter, lastTarget⟩ := within
  unfold formTarget
  simp only
  split
  · exact ⟨pointer, filter, targetOf_le ordered _⟩
  · exact ⟨pointer, filter, lastTarget⟩

/-- The pointer moves toward a command within the span. -/
theorem WithinSpan.toward {e : GaugeEntry} {r : GaugeRun} {command : Nat} (h : WithinSpan e r)
    (inside : command ≤ e.span) : WithinSpan e { r with p := stepPointer e.rate r.p command } :=
  ⟨stepPointer_le h.pointer inside, h.filter, h.lastTarget⟩

theorem sweepTarget_le (e : GaugeEntry) (s : State) : sweepTarget e s ≤ e.span := by
  unfold sweepTarget
  split <;> omega

/-- An interval takes no pointer, filter or target out of the span, whatever the mode (R85 to R89). -/
theorem steppedRun_within (ordered : (gaugeEntry c s).vmin < (gaugeEntry c s).vmax)
    (within : WithinSpan (gaugeEntry c s) (gaugeRun c s))
    (test : ∀ position, gaugeTest c s = some position → position ≤ (gaugeEntry c s).span) :
    WithinSpan (gaugeEntry c s) (steppedRun c s) := by
  have formed := formTarget_within ordered within s
  unfold steppedRun
  simp only
  split
  case h_1 => exact within
  case h_2 position mode =>
    have inside : position ≤ (gaugeEntry c s).span := by
      refine test position ?_
      revert mode
      unfold gaugeMode
      split
      · simp
      · split
        · simp_all
        · split
          · split <;> simp
          · simp
    split
    · exact formed.toward inside
    · exact within.toward inside
  case h_3 => exact within.toward (sweepTarget_le _ s)
  case h_4 =>
    have filter := filterStep_le (k := (gaugeEntry c s).damping) formed.filter (formTarget_target_le ordered within s)
    have command : (filterStep (gaugeEntry c s).damping (formTarget (gaugeEntry c s) (gaugeRun c s) s).f
        (formTarget (gaugeEntry c s) (gaugeRun c s) s).target + 128) / 256 ≤ (gaugeEntry c s).span := by omega
    exact ⟨stepPointer_le formed.pointer command, filter, formed.lastTarget⟩
  case h_5 => exact within.toward (Nat.zero_le _)

end

end Sys2Proof.Machine
end

section
/-! PROOFS. The invariant of the gauges (R83, R84, R86, R89, R95): what leaves it standing, and that every operation which
moves a pointer, writes a gauge entry, or begins or ends an output test keeps it. -/

namespace Sys2Proof.Machine

/- One proof after the other: together they need more threads than the memory of a check has room for. -/
set_option Elab.async false

/-! ### The invariant, channel by channel -/

section
variable {s t : State} {ps : List Piece}

theorem gaugesLegal_iff (s : State) : GaugesLegal s ↔ ∀ c : Fin 6,
    (gaugeEntry c s).vmin < (gaugeEntry c s).vmax ∧ WithinSpan (gaugeEntry c s) (gaugeRun c s)
      ∧ ∀ position, gaugeTest c s = some position → position ≤ (gaugeEntry c s).span :=
  forall_congr' fun _ => ⟨fun ⟨ordered, p, f, last, test⟩ => ⟨ordered, ⟨p, f, last⟩, test⟩,
    fun ⟨ordered, ⟨p, f, last⟩, test⟩ => ⟨ordered, p, f, last, test⟩⟩

theorem gaugeTest_eq (test : t.wsp.test = s.wsp.test) (c : Fin 6) : gaugeTest c t = gaugeTest c s := by
  rw [gaugeTest, gaugeTest, test]

theorem gaugeTest_none (test : t.wsp.test = none) (c : Fin 6) : gaugeTest c t = none := by rw [gaugeTest, test]

theorem gaugeTest_iff (c : Fin 6) (position : Nat) (s : State) :
    gaugeTest c s = some position ↔ s.wsp.test = some (.gauge c position) := by
  unfold gaugeTest
  split
  · rename_i k p running
    rw [running]
    by_cases same : k = c <;> simp [same]
  all_goals simp_all

/-- A gauge test of one channel is none of another. -/
theorem gaugeTest_other {c d : Fin 6} {position : Nat} (test : s.wsp.test = some (.gauge c position)) (other : c ≠ d) :
    gaugeTest d s = none := by
  rw [gaugeTest, test]
  exact if_neg other

/-- Channels that stay within their spans, under the same entries, and no test at a new position. -/
theorem GaugesLegal.of_runs (h : GaugesLegal s) (table : t.gdr.table = s.gdr.table)
    (test : t.wsp.test = s.wsp.test ∨ t.wsp.test = none)
    (runs : ∀ c, WithinSpan (gaugeEntry c s) (gaugeRun c s) → WithinSpan (gaugeEntry c s) (gaugeRun c t)) :
    GaugesLegal t := by
  rw [gaugesLegal_iff] at h ⊢
  intro c
  obtain ⟨ordered, within, inside⟩ := h c
  rw [gaugeEntry_eq table]
  refine ⟨ordered, runs c within, fun position at_ => ?_⟩
  rcases test with same | ended
  · exact inside position (gaugeTest_eq same c ▸ at_)
  · rw [gaugeTest_none ended] at at_
    exact absurd at_ nofun

/-- The registers that the invariant is about. -/
def gaugePieces : List Piece := [.gaugeTable, .gaugeRuns, .wsTest]

/-- What leaves those registers keeps the invariant. -/
theorem GaugesLegal.of_frame (h : GaugesLegal s) (frame : ChangesOnly ps s t)
    (apart : ∀ p ∈ gaugePieces, p ∉ ps := by decide) : GaugesLegal t := by
  have runs := frame .gaugeRuns (apart _ (by decide))
  refine h.of_runs (frame .gaugeTable (apart _ (by decide))) (.inl (frame .wsTest (apart _ (by decide))).1)
    fun c within => ?_
  rw [gaugeRun, runs]
  exact within

/-! ### Run-time states made of the pointer -/

theorem WithinSpan.restartFilter {e : GaugeEntry} {r : GaugeRun} (h : WithinSpan e r) :
    WithinSpan e (restartFilter r) := ⟨h.pointer, Nat.mul_le_mul_left 256 h.pointer, h.lastTarget⟩

theorem WithinSpan.restartHold {e : GaugeEntry} {r : GaugeRun} (h : WithinSpan e r) :
    WithinSpan e (restartHold r) := ⟨h.pointer, h.filter, h.pointer⟩

/-- One channel replaced by a run-time state within its span. -/
theorem GaugesLegal.of_setGaugeRun (h : GaugesLegal s) (c : Fin 6) {r : GaugeRun}
    (within : WithinSpan (gaugeEntry c s) (gaugeRun c s) → WithinSpan (gaugeEntry c s) r) :
    GaugesLegal (setGaugeRun c r s) := by
  refine h.of_runs rfl (.inl rfl) fun d before => ?_
  rw [gaugeRun_setGaugeRun]
  split
  · rename_i same
    subst same
    exact within before
  · exact before

theorem GaugesLegal.foldl {α : Type} {f : State → α → State} (keeps : ∀ u a, GaugesLegal u → GaugesLegal (f u a))
    (l : List α) (h : GaugesLegal s) : GaugesLegal (l.foldl f s) :=
  List.foldlRecOn l f h fun u hu a _ => keeps u a hu

/-! ### The interval and the end of homing (R85, R91) -/

theorem stepChannel_keepsGauges (c : Fin 6) (h : GaugesLegal s) : GaugesLegal (stepChannel s c) := by
  rw [stepChannel_eq]
  obtain ⟨ordered, -, inside⟩ := (gaugesLegal_iff s).1 h c
  exact h.of_setGaugeRun c fun within => steppedRun_within ordered within inside

theorem runInterval_keepsGauges (h : GaugesLegal s) : GaugesLegal (runInterval s) := by
  unfold runInterval
  split
  · exact (GaugesLegal.foldl (fun _ c => stepChannel_keepsGauges c) _ h).of_frame (advanceSweep_frame _)
  · exact h.of_frame (homingInterval_frame s)

theorem gaugeRun_endHoming (c : Fin 6) (s : State) : gaugeRun c (endHoming s) = ⟨0, 0, 0, 0, none⟩ := by
  simp [gaugeRun]

theorem endHoming_keepsGauges (h : GaugesLegal s) : GaugesLegal (endHoming s) :=
  h.of_runs rfl (.inl rfl) fun c _ => by
    rw [gaugeRun_endHoming]
    exact ⟨Nat.zero_le _, Nat.zero_le _, Nat.zero_le _⟩

/-! ### Writes of a gauge entry (R84, R95) -/

theorem vmin_lt_vmax_of_readGaugeEntry {b : List Byte} {e : GaugeEntry} (read : readGaugeEntry b = some e) :
    e.vmin < e.vmax := by
  unfold readGaugeEntry at read
  split at read
  · rename_i fits
    obtain rfl := Option.some.inj read
    simp only [Bool.and_eq_true, decide_eq_true_eq] at fits
    obtain ⟨⟨⟨⟨⟨⟨ordered, -⟩, -⟩, -⟩, -⟩, -⟩, -⟩ := fits
    exact ordered
  · exact absurd read nofun

/-- The run-time state of a channel behind a write of its entry (R84). -/
def rewrittenRun (e : GaugeEntry) (r : GaugeRun) : GaugeRun :=
  { r with p := min r.p e.span, f := 256 * min r.p e.span, prevTarget := min r.p e.span, holdTimer := none }

theorem writeGauge_table (c : Fin 6) (e : GaugeEntry) (s : State) :
    (writeGauge c e s).gdr.table = s.gdr.table.set c (some e) := by
  unfold writeGauge
  simp only
  split <;> rfl

theorem gaugeEntry_writeGauge (c d : Fin 6) (e : GaugeEntry) (s : State) :
    gaugeEntry d (writeGauge c e s) = if d = c then e else gaugeEntry d s := by
  rw [gaugeEntry, writeGauge_table]
  simp only [gaugeEntry, Fin.getElem_fin, Vector.getElem_set, Fin.ext_iff, eq_comm]
  split <;> rfl

theorem gaugeRun_writeGauge (c d : Fin 6) (e : GaugeEntry) (s : State) :
    gaugeRun d (writeGauge c e s) = if d = c then rewrittenRun e (gaugeRun c s) else gaugeRun d s := by
  have run : gaugeRun d (writeGauge c e s) = gaugeRun d (setGaugeRun c (rewrittenRun e (gaugeRun c s)) s) := by
    unfold writeGauge
    simp only
    split <;> rfl
  rw [run, gaugeRun_setGaugeRun]

theorem writeGauge_test (c : Fin 6) (e : GaugeEntry) (s : State) : (writeGauge c e s).wsp.test
    = (gaugeTest c s).elim s.wsp.test fun position => some (.gauge c (min position e.span)) := by
  unfold writeGauge
  simp only
  split
  · rename_i running
    rw [running]
    rfl
  · rename_i running
    rw [running]
    rfl

theorem gaugeTest_writeGauge (c : Fin 6) (e : GaugeEntry) (s : State) :
    gaugeTest c (writeGauge c e s) = (gaugeTest c s).map fun position => min position e.span := by
  have test := writeGauge_test c e s
  cases running : gaugeTest c s with
  | none => rw [running] at test; exact (gaugeTest_eq test c).trans running
  | some position => rw [running] at test; exact (gaugeTest_iff c _ _).2 test

theorem gaugeTest_writeGauge_other {c d : Fin 6} (other : d ≠ c) (e : GaugeEntry) (s : State) :
    gaugeTest d (writeGauge c e s) = gaugeTest d s := by
  have test := writeGauge_test c e s
  cases running : gaugeTest c s with
  | none => rw [running] at test; exact gaugeTest_eq test d
  | some position =>
    rw [running] at test
    have here := (gaugeTest_iff c position s).1 running
    rw [gaugeTest_other test other.symm, gaugeTest_other here other.symm]

theorem writeGauge_keepsGauges (c : Fin 6) {e : GaugeEntry} (ordered : e.vmin < e.vmax) (h : GaugesLegal s) :
    GaugesLegal (writeGauge c e s) := by
  rw [gaugesLegal_iff] at h ⊢
  intro d
  rw [gaugeEntry_writeGauge, gaugeRun_writeGauge]
  by_cases same : d = c
  · subst same
    rw [if_pos rfl, if_pos rfl, gaugeTest_writeGauge]
    refine ⟨ordered, ⟨Nat.min_le_right _ _, Nat.mul_le_mul_left 256 (Nat.min_le_right _ _), Nat.min_le_right _ _⟩,
      fun position clamped => ?_⟩
    obtain ⟨before, -, rfl⟩ := Option.map_eq_some_iff.1 clamped
    exact Nat.min_le_right _ _
  · rw [if_neg same, if_neg same, gaugeTest_writeGauge_other same]
    exact h d

/-! ### Output tests (R95, R193) -/

theorem gdrEndTest_keepsGauges (c : Fin 6) (h : GaugesLegal s) : GaugesLegal (gdrEndTest c s) := by
  unfold gdrEndTest
  split
  · exact h.of_setGaugeRun c WithinSpan.restartFilter
  · exact h

theorem endTest_keepsGauges (h : GaugesLegal s) : GaugesLegal (endTest s) := by
  have stopped : GaugesLegal { s with wsp := { s.wsp with test := none, testDue := none } } :=
    h.of_runs rfl (.inr rfl) fun _ within => within
  unfold endTest
  simp only
  split
  · exact h
  · exact stopped
  · exact gdrEndTest_keepsGauges _ stopped
  · exact stopped.of_frame (withdraw_frame _ _)

/-- A test that is no gauge test begins, or one at a position within the span. -/
theorem startTest_keepsGauges {test : OutputTest} (h : GaugesLegal s)
    (inside : ∀ c position, test = .gauge c position → position ≤ (gaugeEntry c s).span) :
    GaugesLegal (startTest test s) := by
  rw [gaugesLegal_iff] at h ⊢
  intro c
  obtain ⟨ordered, within, -⟩ := h c
  exact ⟨ordered, within, fun position at_ => inside c position (Option.some.inj ((gaugeTest_iff c position _).1 at_))⟩

/-! ### The operating states (R87, R90, R94, R96) -/

theorem gdrEnterRun_keepsGauges (h : GaugesLegal s) : GaugesLegal (gdrEnterRun s) := by
  refine GaugesLegal.foldl (fun u c hu => ?_) _ (h.of_frame (setPhase_frame none s))
  refine hu.of_setGaugeRun c fun within => ?_
  split
  · exact within.restartHold.restartFilter
  · exact within.restartHold

theorem gdrReset_keepsGauges (h : GaugesLegal s) : GaugesLegal (gdrReset s) :=
  h.of_runs rfl (.inl rfl) fun c within => by
    have run : gaugeRun c (gdrReset s) = ⟨(gaugeRun c s).p, 0, 0, 0, none⟩ :=
      mapTable_getElem (fun r : GaugeRun => (⟨r.p, 0, 0, 0, none⟩ : GaugeRun)) s.gdr.run c
    rw [run]
    exact ⟨within.pointer, Nat.zero_le _, Nat.zero_le _⟩

theorem enterParked_keepsGauges (cause : StateCause) (h : GaugesLegal s) : GaugesLegal (enterParked cause s) := by
  have warned := (h.of_frame (parkedSpeed_frame cause s)).of_frame (parkedWarnings_frame cause s)
  rw [enterParked_eq]
  exact endTest_keepsGauges ((warned.of_frame (clearRequests_frame _)).of_frame (drmEnterParked_frame _))

theorem takeZeroDelay_keepsGauges (h : GaugesLegal s) : GaugesLegal (takeZeroDelay s) := by
  unfold takeZeroDelay
  split
  · exact enterParked_keepsGauges _ h
  · exact h

theorem enterRun_keepsGauges (cause : StateCause) (fromParked : Bool) (h : GaugesLegal s) :
    GaugesLegal (enterRun cause fromParked s) := by
  have opened := (h.of_frame (setOpState_frame .run cause s)).of_frame (parkDelayAtRun_frame _)
  refine takeZeroDelay_keepsGauges (GaugesLegal.of_frame (gdrEnterRun_keepsGauges
    (((opened.of_frame (bumpFree_frame _)).of_frame (frpEnterRun_frame _)).of_frame (lscEnterRun_frame fromParked _)))
    (threeInOrder_frame (ps := measuring ++ warning ++ doors) (fun u => (sduEnterRun_frame u).mono (by decide))
      (fun u => (evaluateWhere_frame _ _ u).mono (by decide))
      (fun u => (drmEnterRun_frame fromParked u).mono (by decide)) _ _))

theorem enterSweep_keepsGauges (h : GaugesLegal s) : GaugesLegal (enterSweep s) :=
  endTest_keepsGauges ((h.of_frame (setOpState_frame .sweep .sweepRequest s)).of_frame (setPhase_frame _ _))

theorem leaveSweep_keepsGauges (cause : StateCause) (h : GaugesLegal s) : GaugesLegal (leaveSweep cause s) :=
  takeZeroDelay_keepsGauges (gdrEnterRun_keepsGauges
    (((h.of_frame (dropSweepReport_frame s)).of_frame (setOpState_frame .run cause _)).of_frame
      (parkDelayAtRun_frame _)))

theorem resetBlocks_keepsGauges (wasParked : Bool) (h : GaugesLegal s) : GaugesLegal (resetBlocks wasParked s) := by
  have speed := h.of_frame (throughSpeed_frame wasParked s)
  have warnings : GaugesLegal (throughWarnings wasParked s) := (gdrReset_keepsGauges speed).of_frame (wrnReset_frame _)
  have faults : GaugesLegal (throughFaults wasParked s) :=
    (warnings.of_frame (throughDoors_from_warnings wasParked s)).of_frame (fltReset_frame _)
  rw [resetBlocks_eq]
  exact endTest_keepsGauges (faults.of_frame (abandonResponse_frame _))

theorem commandedReset_keepsGauges (h : GaugesLegal s) : GaugesLegal (commandedReset s) :=
  resetBlocks_keepsGauges _ ((h.of_frame (emptyQueues_frame s)).of_frame (setOpState_frame .config .reset _))

theorem powerOn_keepsGauges (s : State) : GaugesLegal (powerOn s) :=
  GaugesLegal.of_frame (s := { State.reset with
    freeCount := s.freeCount, pending := s.pending, cli := { Cli.reset with lrdy := s.cli.lrdy } })
    reset_gaugesLegal (transmit_frame _)

theorem takeIgnition_keepsGauges (h : GaugesLegal s) : GaugesLegal (takeIgnition s) := by
  unfold takeIgnition
  split
  · exact h
  · split
    · exact enterRun_keepsGauges _ _ h
    · exact h
  all_goals
    split
    · split
      · exact h
      · exact takeZeroDelay_keepsGauges (h.of_frame (startParkDelay_frame s))
    · exact h

theorem takeNotification_keepsGauges (i : Slot) (h : GaugesLegal s) : GaugesLegal (takeNotification i s) := by
  have speed : GaugesLegal (takeSpeed s) := by
    unfold takeSpeed
    split
    · exact leaveSweep_keepsGauges _ h
    · exact h
  have told {u : State} (hu : GaugesLegal u) : GaugesLegal (reportChange i u) := by
    unfold reportChange
    split
    · exact hu.of_frame (joinUpdates_frame _ _)
    · exact hu
  unfold takeNotification
  refine told ?_
  split
  · exact takeIgnition_keepsGauges h
  · split
    · exact speed
    · exact h

end

end Sys2Proof.Machine
end

section
/-! PROOFS. Invariants through the links: an invariant that every record keeps is kept by the inbound buffer and the
receiver, one that every request keeps by the workshop port, and so by a step (R167, R168, R186). -/

namespace Sys2Proof.Machine

/-! ### Answers whose effect keeps an invariant -/

section
variable {P : State → Prop} {s : State} {a : Answer} {α ε : Type}

/-- Carrying the answer out keeps the invariant, from whatever state it is carried out. -/
def Answer.Keeps (P : State → Prop) (a : Answer) : Prop := ∀ u, P u → P (a.after u)

theorem Answer.keeps_refuse (r : Result) : (refuse r).Keeps P := fun _ h => h

theorem Answer.keeps_read (data : List Byte) : (answerRead data).Keeps P := fun _ h => h

theorem Answer.keeps_accepted {data : List Byte} {f : State → State} (h : ∀ u, P u → P (f u)) :
    (accepted data f).Keeps P := h

theorem Answer.keeps_withLength (n : Nat) (body : List Byte) (h : a.Keeps P) : (withLength n body a).Keeps P := by
  unfold withLength
  split
  · exact h
  · exact keeps_refuse _

theorem Answer.keeps_whenState (ok : OpState → Bool) (h : a.Keeps P) : (whenState ok s a).Keeps P := by
  unfold whenState
  split
  · exact h
  · exact keeps_refuse _

theorem Answer.keeps_elim (o : Option α) (r : Result) {f : α → Answer} (h : ∀ x, o = some x → (f x).Keeps P) :
    (o.elim (refuse r) f).Keeps P := by
  cases o with
  | none => exact keeps_refuse r
  | some x => exact h x rfl

theorem Answer.keeps_ite {c : Prop} [Decidable c] {b : Answer} (ha : a.Keeps P) (hb : b.Keeps P) :
    (if c then a else b).Keeps P := by
  split
  · exact ha
  · exact hb

/-- A table write keeps what the writes of the entries it reads keep (R169, R176). -/
theorem Answer.keeps_tableWrite (len n : Nat) (ok : OpState → Bool) {read : Fin n → List Byte → Option ε}
    {write : Fin n → ε → State → State} (rest : List Byte)
    (h : ∀ i e, read i (rest.drop 1) = some e → ∀ u, P u → P (write i e u)) :
    (tableWrite len n ok read write rest s).Keeps P :=
  keeps_withLength _ _ (keeps_whenState _ (keeps_elim _ _ fun i _ => keeps_elim _ _ fun e read => h i e read))

/-! ### Records (R168) -/

/-- Records that keep the invariant, taken into a buffer it says nothing of, keep it one behind the other. -/
theorem drainInbound_keeps (record : ∀ r u, P u → P (executeRecord r u))
    (buffer : ∀ u l, P u → P { u with cli := { u.cli with inbound := l } }) (n : Nat) (h : P s) :
    P (drainInbound n s) := by
  induction n generalizing s with
  | zero => exact h
  | succ n ih =>
    unfold drainInbound
    split
    · exact h
    · split
      · exact h
      · exact ih (record _ _ (buffer s _ h))

theorem takeRecord_keeps (record : ∀ r u, P u → P (executeRecord r u))
    (buffer : ∀ u l, P u → P { u with cli := { u.cli with inbound := l } })
    (discard : ∀ k u, P u → P (respondDiscard k u)) (kind : Byte) (body : List Byte) (h : P s) :
    P (takeRecord kind body s) := by
  unfold takeRecord
  split
  · exact drainInbound_keeps record buffer _ (buffer s _ h)
  · exact discard kind s h

end

/-! ### Outcomes -/

/-- The next state, where the outcome is one, satisfies the predicate. -/
def Leads (P : State → Prop) : Host.Outcome State Fault Refusal → Prop
  | .next t => P t
  | .fault _ => True
  | .refused _ => True

theorem Leads.next {P : State → Prop} {o : Host.Outcome State Fault Refusal} {t : State} (h : Leads P o)
    (next : o = .next t) : P t := by
  subst next
  exact h

theorem Leads.ite {P : State → Prop} {c : Prop} [Decidable c] {s t : State} (h : c → P t) (k : P s) :
    Leads P (if c then .next t else .next s) := by
  split
  · exact h ‹_›
  · exact k

end Sys2Proof.Machine
end

section
/-! PROOFS. What the records do (R169, R175 to R182): most change no pointer and no operating state, so an invariant that
those leave standing is kept by every record which the few others keep it through. -/

namespace Sys2Proof.Machine

/- One proof after the other: together they need more threads than the memory of a check has room for. -/
set_option Elab.async false

/-- What the records change apart from gauge writes and changes of operating state, with the responses to them. -/
def plainRecord : List Piece :=
  .freeCount :: .firstStart :: .frameTable :: .signalTable :: .lineTable :: .curves :: .scanTable :: .scanPlay
    :: .doorTable :: .warnTable :: .patternTable :: .classTable :: .link :: .calibration :: .residue :: .odometerLoad
    :: .queues :: .wsResponse :: answering ++ framing ++ recording ++ doors ++ sampling ++ chiming

/-- An invariant that the records keep: it says nothing of what most of them change, and is kept by the others. -/
structure RecordsKeep (P : State → Prop) : Prop where
  plain : ∀ u v, ChangesOnly plainRecord u v → P u → P v
  gauge : ∀ c e u, GaugeEntry.vmin e < e.vmax → P u → P (writeGauge c e u)
  start : ∀ u, P u → P (enterRun .start false u)
  sweep : ∀ u, P u → P (enterSweep u)
  park : ∀ u, P u → P (enterParked .parkRequest u)
  reset : ∀ u, P u → P (commandedReset u)

/-! ### Frames of single records -/

theorem tellChanged_frame (table index : Nat) (s : State) : ChangesOnly sending s (tellChanged table index s) :=
  .ite (fun _ => queueEvent_frame _ s) fun _ => .refl _ s

theorem restartReporting_frame (i : Slot) (report : Bool) (s : State) :
    ChangesOnly (.queues :: sending) s (restartReporting i report s) := by
  unfold restartReporting
  split
  · refine ChangesOnly.trans (ChangesOnly.trans ?_ ((joinUpdates_frame i _).mono (by decide)))
      ((transmit_frame _).mono (by decide))
    intro p hp
    cases p <;> simp [Piece.kept, sending] at hp ⊢
  · intro p hp
    cases p <;> simp [Piece.kept, sending] at hp ⊢
    exact fun distinct => distinct.erase i

theorem writeLink_frame (e : LinkEntry) (s : State) : ChangesOnly [.link, .wsResponse, .freeCount] s (writeLink e s) := by
  refine ChangesOnly.trans ?_ ((abandonResponse_frame _).mono (by decide))
  intro p hp
  cases p <;> first | exact OnlyQueues.of_same rfl rfl rfl rfl rfl | simp [Piece.kept] at hp ⊢

theorem writeDoor_frame (l : Fin 8) (e : DoorEntry) (s : State) : ChangesOnly [.doorTable] s (writeDoor l e s) := by
  intro p hp
  cases p <;> first | exact OnlyQueues.of_same rfl rfl rfl rfl rfl | simp [Piece.kept, writeDoor] at hp ⊢

theorem writeClass_frame (c : Fin 16) (e : ClassEntry) (s : State) : ChangesOnly [.classTable] s (writeClass c e s) := by
  intro p hp
  cases p <;> first | exact OnlyQueues.of_same rfl rfl rfl rfl rfl | simp [Piece.kept, writeClass] at hp ⊢

theorem acknowledgeNamed_frame (entry : Option (Fin 96)) (s : State) : ChangesOnly warning s (acknowledgeNamed entry s) := by
  unfold acknowledgeNamed
  split
  · exact acknowledge_frame _ s
  · exact .foldl (fun u i => acknowledge_frame i u) _ s

theorem clearObserved_frame (first count : Nat) (s : State) : ChangesOnly [.warnRuns] s (clearObserved first count s) :=
  .foldl (fun u _ => .ite (fun _ => setWarnRun_frame _ _ u) fun _ => .refl _ u) _ s

/-! ### The records, kind by kind -/

section
variable {P : State → Prop} (keep : RecordsKeep P)
include keep

theorem RecordsKeep.framed {ps : List Piece} {u v : State} (frame : ChangesOnly ps u v) (h : P u)
    (sub : ps ⊆ plainRecord := by decide) : P v := keep.plain u v (frame.mono sub) h

/-- An accepted record with the frame of a plain one. -/
theorem RecordsKeep.accepted {ps : List Piece} {f : State → State} {data : List Byte}
    (frame : ∀ u, ChangesOnly ps u (f u)) (sub : ps ⊆ plainRecord := by decide) :
    (Machine.accepted data f).Keeps P := fun u h => keep.framed (frame u) h sub

theorem answerTableWrite_keeps (body : List Byte) (s : State) : (answerTableWrite body s).Keeps P := by
  unfold answerTableWrite
  split
  · exact Answer.keeps_refuse _
  split
  · exact Answer.keeps_tableWrite _ _ _ _ fun i e _ u h => keep.framed (writeFrame_frame i e u) h
  · exact Answer.keeps_tableWrite _ _ _ _ fun i e _ u h =>
      keep.framed (restartReporting_frame i e.report _) (keep.framed (takeEntry_frame i e u) h)
  · exact Answer.keeps_tableWrite _ _ _ _ fun _ e _ u h => keep.framed (writeLink_frame e u) h
  · exact Answer.keeps_tableWrite _ _ _ _ fun l e _ u h => keep.framed (writeLine_frame l e u) h
  · exact Answer.keeps_tableWrite _ _ _ _ fun i e _ u h => keep.framed (writeCurve_frame i e u) h
  · exact Answer.keeps_tableWrite _ _ _ _ fun _ e _ u h => keep.framed (writeScan_frame e u) h
  · exact Answer.keeps_tableWrite _ _ _ _ fun l e _ u h => keep.framed (writeDoor_frame l e u) h
  · exact Answer.keeps_tableWrite _ _ _ _ fun c e read u h =>
      keep.framed (tellChanged_frame 7 c _) (keep.gauge c e u (vmin_lt_vmax_of_readGaugeEntry read) h)
  · exact Answer.keeps_tableWrite _ _ _ _ fun i e _ u h => keep.framed (writeWarning_frame i e _ u) h
  · exact Answer.keeps_tableWrite _ _ _ _ fun p e _ u h =>
      keep.framed (tellChanged_frame 9 p _) (keep.framed (writePattern_frame p e u) h)
  · exact Answer.keeps_tableWrite _ _ _ _ fun c e _ u h =>
      keep.framed (tellChanged_frame 10 c _) (keep.framed (writeClass_frame c e u) h)
  · exact Answer.keeps_withLength _ _ (Answer.keeps_ite (Answer.keeps_ite (Answer.keeps_elim _ _ fun e _ =>
      keep.accepted (writeCalibration_frame e _ _ _)) (Answer.keeps_refuse _)) (Answer.keeps_refuse _))
  · exact Answer.keeps_refuse _

omit keep in
theorem answerTableRead_keeps (body : List Byte) (s : State) : (answerTableRead body s).Keeps P := by
  unfold answerTableRead
  split
  · exact Answer.keeps_refuse _
  · exact Answer.keeps_elim _ _ fun _ _ => Answer.keeps_withLength _ _ (Answer.keeps_elim _ _ fun _ _ =>
      Answer.keeps_read _)

omit keep in
theorem answerFaultRecord_keeps (body : List Byte) (s : State) : (answerFaultRecord body s).Keeps P :=
  Answer.keeps_elim _ _ fun _ _ => Answer.keeps_read _

theorem answerStart_keeps (body : List Byte) (s : State) : (answerStart body s).Keeps P := by
  refine Answer.keeps_withLength _ _ (Answer.keeps_whenState _ ?_)
  split
  · exact fun _ h => h
  · have marked (u : State) : ChangesOnly [.firstStart] u { u with flt := { u.flt with firstStart := true } } := by
      intro p hp
      cases p <;> first | exact OnlyQueues.of_same rfl rfl rfl rfl rfl | simp [Piece.kept] at hp ⊢
    exact fun u h => keep.start _ (keep.framed (marked u) h)

theorem answerObserved_keeps (body : List Byte) (s : State) : (answerObserved body s).Keeps P := by
  unfold answerObserved
  simp only
  exact Answer.keeps_withLength _ _ (Answer.keeps_ite (keep.accepted (clearObserved_frame _ _)) (Answer.keeps_refuse _))

/-- What carrying a record out does keeps the invariant. -/
theorem answerRecord_keeps (r : ClRecord) (s : State) : (answerRecord r s).Keeps P := by
  unfold answerRecord
  split
  · exact answerTableWrite_keeps keep _ s
  · exact answerTableRead_keeps _ s
  · exact Answer.keeps_withLength _ _ (Answer.keeps_read _)
  · exact Answer.keeps_withLength _ _ (Answer.keeps_whenState _ (Answer.keeps_ite (Answer.keeps_read _)
      (Answer.keeps_refuse _)))
  · exact answerStart_keeps keep _ s
  · exact Answer.keeps_withLength _ _ (Answer.keeps_whenState _ (Answer.keeps_ite (Answer.keeps_accepted keep.sweep)
      (Answer.keeps_refuse _)))
  · exact Answer.keeps_withLength _ _ (Answer.keeps_whenState _ (Answer.keeps_accepted keep.park))
  · exact Answer.keeps_withLength _ _ (Answer.keeps_accepted keep.reset)
  · exact Answer.keeps_withLength _ _ (Answer.keeps_whenState _ (Answer.keeps_elim _ _ fun entry _ =>
      keep.accepted (acknowledgeNamed_frame entry)))
  · exact answerObserved_keeps keep _ s
  · exact Answer.keeps_withLength _ _ (Answer.keeps_whenState _ (Answer.keeps_elim _ _ fun p _ =>
      keep.accepted (place_frame _ p)))
  · exact Answer.keeps_withLength _ _ (Answer.keeps_whenState _ (keep.accepted (withdraw_frame _)))
  · exact Answer.keeps_withLength _ _ (Answer.keeps_ite (keep.accepted (valueWrite_frame _ _ _))
      (Answer.keeps_ite (keep.accepted (valueWrite_frame _ _ _)) (Answer.keeps_refuse _)))
  · exact Answer.keeps_withLength _ _ (Answer.keeps_ite (Answer.keeps_refuse _) (Answer.keeps_ite
      (keep.accepted (loadOdometer_frame _)) (Answer.keeps_refuse _)))
  · exact Answer.keeps_withLength _ _ (keep.accepted closeWindow_frame)
  · exact Answer.keeps_withLength _ _ (Answer.keeps_ite (Answer.keeps_elim _ _ fun r _ => Answer.keeps_ite
      (Answer.keeps_refuse _) (Answer.keeps_ite (keep.accepted (restoreRecord_frame r))
        (Answer.keeps_refuse _))) (Answer.keeps_refuse _))
  · exact Answer.keeps_withLength _ _ (answerFaultRecord_keeps _ s)
  · exact Answer.keeps_withLength _ _ (Answer.keeps_whenState _ (keep.accepted (clearLatch_frame _)))
  · exact Answer.keeps_withLength _ _ (Answer.keeps_read _)
  · exact Answer.keeps_refuse _

theorem executeRecord_keeps (r : ClRecord) (s : State) (h : P s) : P (executeRecord r s) :=
  answerRecord_keeps keep r s _ (keep.framed (respond_frame _ _ _ s) h)

end

end Sys2Proof.Machine
end

section
/-! PROOFS. Every step keeps the gauges within their spans (R83, R84, R86, R89, R95): the records, the requests, and the
other commands. -/

namespace Sys2Proof.Machine

/- One proof after the other: together they need more threads than the memory of a check has room for. -/
set_option Elab.async false

section
variable {s : State}

theorem GaugesLegal.of_registers {t : State} (h : GaugesLegal s) (gdr : t.gdr = s.gdr) (test : t.wsp.test = s.wsp.test) :
    GaugesLegal t :=
  h.of_runs (by rw [gdr]) (.inl test) fun c within => by
    rw [gaugeRun, gdr]
    exact within

/-! ### Records -/

theorem records_keepGauges : RecordsKeep GaugesLegal where
  plain _ _ frame h := h.of_frame frame
  gauge c _ _ ordered h := writeGauge_keepsGauges c ordered h
  start _ h := enterRun_keepsGauges _ _ h
  sweep _ h := enterSweep_keepsGauges h
  park _ h := enterParked_keepsGauges _ h
  reset _ h := commandedReset_keepsGauges h

theorem executeRecord_keepsGauges (r : ClRecord) (s : State) (h : GaugesLegal s) : GaugesLegal (executeRecord r s) :=
  executeRecord_keeps records_keepGauges r s h

theorem inbound_keepsGauges (s : State) (l : List ClRecord) (h : GaugesLegal s) :
    GaugesLegal { s with cli := { s.cli with inbound := l } } := h.of_registers rfl rfl

theorem runInbound_keepsGauges (h : GaugesLegal s) : GaugesLegal (runInbound s) :=
  drainInbound_keeps executeRecord_keepsGauges inbound_keepsGauges _ h

theorem takeRecord_keepsGauges (kind : Byte) (body : List Byte) (h : GaugesLegal s) :
    GaugesLegal (takeRecord kind body s) :=
  takeRecord_keeps executeRecord_keepsGauges inbound_keepsGauges (fun k u hu => hu.of_frame (respondDiscard_frame k u))
    kind body h

theorem discardRecord_keepsGauges (h : GaugesLegal s) : GaugesLegal (discardRecord s) :=
  (h.of_frame (setRx_frame .hunt s)).of_frame (respondDiscard_frame 0 _)

theorem takeByte_keepsGauges (byte : Byte) (framingError : Bool) (h : GaugesLegal s) :
    GaugesLegal (takeByte byte framingError s) := by
  have inside (rx : Receiver) : GaugesLegal (takeInside rx s) := h.of_registers rfl rfl
  have discarded := discardRecord_keepsGauges h
  unfold takeByte
  split
  · split
    · exact inside _
    · exact h
  · split
    · exact discarded
    · split
      · exact inside _
      · exact discarded
  · split
    · exact discarded
    · exact inside _
  · split
    · exact discarded
    · unfold takeCheck
      split
      · exact takeRecord_keepsGauges _ _ (h.of_frame (setRx_frame .hunt s))
      · exact discarded

/-! ### Requests -/

/-- A test that is begun keeps the gauges: the position of a gauge test is clamped to the span (R95, R192). -/
theorem answerTest_keepsGauges {test : Option OutputTest} {begin : State → State} (h : GaugesLegal s)
    (inside : ∀ c position, test = some (.gauge c position) → position ≤ (gaugeEntry c s).span)
    (begun : ∀ u, GaugesLegal u → GaugesLegal (begin u)) : GaugesLegal ((answerTest test begin s).after s) := by
  unfold answerTest
  split
  · cases test with
    | none => exact h
    | some t =>
      rw [Option.elim_some]
      split
      · exact begun _ (startTest_keepsGauges h fun c position same => inside c position (by rw [same]))
      · exact h
  · exact h

theorem answerTestTelltale_keepsGauges (b : List Byte) (h : GaugesLegal s) :
    GaugesLegal ((answerTestTelltale b s).after s) := by
  refine answerTest_keepsGauges h (fun c position gauge => ?_) fun _ hu => hu
  obtain ⟨o, -, lit⟩ := Option.bind_eq_some_iff.1 gauge
  split at lit <;> exact absurd lit nofun

theorem answerTestGauge_keepsGauges (b : List Byte) (h : GaugesLegal s) :
    GaugesLegal ((answerTestGauge b s).after s) := by
  refine answerTest_keepsGauges h (fun c position gauge => ?_) fun _ hu => hu
  obtain ⟨k, -, same⟩ := Option.map_eq_some_iff.1 gauge
  injection same with channel clamped
  subst channel clamped
  exact Nat.min_le_right _ _

theorem answerTestChime_keepsGauges (b : List Byte) (h : GaugesLegal s) :
    GaugesLegal ((answerTestChime b s).after s) := by
  refine answerTest_keepsGauges h (fun c position gauge => ?_) fun u hu => ?_
  · obtain ⟨p, -, same⟩ := Option.map_eq_some_iff.1 gauge
    exact absurd same nofun
  · cases toFin? 8 (u8 b 0) with
    | none => exact hu
    | some p => exact hu.of_frame (place_frame _ p u)

/-- What each service does keeps the gauges within their spans. -/
theorem answerRequest_keepsGauges (service : Byte) (params : List Byte) (h : GaugesLegal s) :
    GaugesLegal ((answerRequest service params s).after s) := by
  have moved {P : Prop} [Decidable P] {f : State → State} (kept : GaugesLegal (f s)) :
      GaugesLegal ((if P then accepted [] f else refuse .moving).after s) := by
    split
    · exact kept
    · exact h
  unfold answerRequest
  split
  · exact h
  · rename_i n a answer
    split
    · exact h
    · unfold serviceOf at answer
      split at answer
      case h_15 => exact absurd answer nofun
      all_goals obtain ⟨rfl, rfl⟩ := Prod.mk.inj (Option.some.inj answer)
      case h_1 | h_2 | h_5 | h_9 | h_14 => exact h
      case h_3 => exact answerFaultRecord_keeps _ s s h
      case h_4 => exact moved (h.of_frame (clearFaults_frame s))
      case h_6 => exact Answer.keeps_elim _ _ (fun _ _ => Answer.keeps_read _) s h
      case h_7 => exact Answer.keeps_elim _ _ (fun _ _ => Answer.keeps_read _) s h
      case h_8 => exact Answer.keeps_elim _ _ (fun p _ => Answer.keeps_ite
        (fun u hu => hu.of_frame (clearDoorCounters_frame p u)) (Answer.keeps_refuse _)) s h
      case h_10 => exact Answer.keeps_elim _ _ (fun _ _ => Answer.keeps_ite (Answer.keeps_elim _ _ fun e _ u hu =>
        hu.of_frame (writeCalibration_frame e _ _ _ u)) (Answer.keeps_refuse _)) s h
      case h_11 => exact answerTestTelltale_keepsGauges params h
      case h_12 => exact answerTestGauge_keepsGauges params h
      case h_13 => exact answerTestChime_keepsGauges params h

theorem takeRequest_keepsGauges (head : FrameHead) (data : List Byte) (h : GaugesLegal s) :
    GaugesLegal (takeRequest head data s) := by
  unfold takeRequest
  split
  · have idle := (endTest_keepsGauges h).of_frame (abandonResponse_frame _)
    unfold serve
    split
    · exact idle.of_frame (startResponse_frame _ _ _ _)
    · exact (answerRequest_keepsGauges _ _ idle).of_frame (startResponse_frame _ _ _ _)
  · exact h

end

end Sys2Proof.Machine
end

section
/-! PROOFS. Every step keeps the gauges within their spans, settled. -/

namespace Sys2Proof.Machine

/- One proof after the other: together they need more threads than the memory of a check has room for. -/
set_option Elab.async false

section
variable {s : State}

/-! ### The commands that are neither records nor requests -/

theorem execFrameReceived_keepsGauges (port : VehiclePort) (extended : Bool) (ident : BitVec 29) (dlc : BitVec 4)
    (data : List Byte) (h : GaugesLegal s) :
    Leads GaugesLegal (execFrameReceived port extended ident dlc data s) := by
  unfold execFrameReceived
  split
  · exact h
  · split
    · exact h
    · exact h.of_frame (takeFrame_frame _ _ _ s)

theorem execScanSlotExpiry_keepsGauges (code : BitVec 10) (h : GaugesLegal s) :
    Leads GaugesLegal (execScanSlotExpiry code s) := by
  unfold execScanSlotExpiry
  split
  · exact h
  · split
    · refine GaugesLegal.of_frame ?_ (nextScanSlot_frame _ _)
      split
      · exact h.of_frame (sampleLine_frame _ _ s)
      · exact h
    · exact h

theorem execParkedPassStart_keepsGauges (h : GaugesLegal s) : Leads GaugesLegal (execParkedPassStart s) := by
  unfold execParkedPassStart
  split
  · exact h
  · exact .ite (fun _ => h.of_frame (startPass_frame _ s)) h

theorem execWspSpeedNotification_keepsGauges (h : GaugesLegal s) :
    Leads GaugesLegal (execWspSpeedNotification s) := by
  have taken := h.of_frame (takeArrival_frame .wspSpeedNotification s)
  unfold execWspSpeedNotification
  simp only
  split
  · exact endTest_keepsGauges taken
  · exact taken

theorem execBoundCheck_keepsGauges (h : GaugesLegal s) : Leads GaugesLegal (execBoundCheck s) := by
  unfold execBoundCheck
  split
  · refine .ite (fun _ => GaugesLegal.of_frame ?_ (checkBound_frame _)) h
    exact h.of_registers rfl rfl
  · exact h

theorem execGaugeInterval_keepsGauges (h : GaugesLegal s) : Leads GaugesLegal (execGaugeInterval s) := by
  refine .ite (fun _ => runInterval_keepsGauges ?_) h
  exact h.of_runs rfl (.inl rfl) fun _ within => within

theorem execHomingEnd_keepsGauges (h : GaugesLegal s) : Leads GaugesLegal (execHomingEnd s) := by
  have taken := h.of_frame (takeArrival_frame .homingEnd s)
  exact .ite (fun _ => runInbound_keepsGauges (endHoming_keepsGauges taken)) taken

theorem execSweepComplete_keepsGauges (h : GaugesLegal s) : Leads GaugesLegal (execSweepComplete s) := by
  have taken := h.of_frame (takeArrival_frame .sweepComplete s)
  exact .ite (fun _ => leaveSweep_keepsGauges _ taken) taken

theorem execWarningTimerExpiry_keepsGauges (i : Fin 96) (h : GaugesLegal s) :
    Leads GaugesLegal (execWarningTimerExpiry i s) := by
  unfold execWarningTimerExpiry
  split
  · exact h
  · exact .ite (fun _ => h.of_frame (changeState_frame _ _ _ s)) h

theorem execBurst_keepsGauges (h : GaugesLegal s) :
    Leads GaugesLegal (execOnTimeEnd s) ∧ Leads GaugesLegal (execBurstEnd s) := by
  unfold execOnTimeEnd execBurstEnd
  constructor
  · split
    · exact .ite (fun _ => h.of_registers rfl rfl) h
    · exact h
  · split
    · exact .ite (fun _ => h.of_frame (endBurst_frame _ s)) h
    · exact h

theorem execPortRateTakesEffect_keepsGauges (port : CanPort) (h : GaugesLegal s) :
    Leads GaugesLegal (execPortRateTakesEffect port s) := by
  unfold execPortRateTakesEffect
  split
  · exact h.of_registers rfl rfl
  · exact h.of_registers rfl rfl
  · split
    · exact h
    · exact h.of_frame (applyWsSettings_frame s)

theorem execSegments_keepsGauges (h : GaugesLegal s) :
    Leads GaugesLegal (execSegmentSent s) ∧ Leads GaugesLegal (execSegmentFailed s) := by
  unfold execSegmentSent execSegmentFailed
  constructor
  · split
    · exact h
    · split
      · exact h.of_registers rfl rfl
      · split
        · exact h.of_registers rfl rfl
        · exact h.of_registers rfl rfl
        · exact h
  · split
    · exact h
    · simp only
      split
      · exact h.of_registers rfl rfl
      · exact h.of_registers rfl rfl

theorem execPacingExpiry_keepsGauges (h : GaugesLegal s) : Leads GaugesLegal (execPacingExpiry s) := by
  unfold execPacingExpiry
  split
  · exact .ite (fun _ => h.of_registers rfl rfl) h
  · exact h

theorem execBusOffRecovery_keepsGauges (h : GaugesLegal s) : Leads GaugesLegal (execBusOffRecovery s) :=
  .ite (fun _ => h.of_registers rfl rfl) h

/-- What a command does that is neither a record nor a request keeps the gauges within their spans. -/
theorem exec_other_keepsGauges {c : Instr} (record : managementRecord c = none) (request : requestData c = none)
    (h : GaugesLegal s) : Leads GaugesLegal (exec c s) := by
  cases c
  case powerOnReset => exact powerOn_keepsGauges s
  case clRecordDiscard => exact discardRecord_keepsGauges h
  case receiveGapExpiry => exact .ite (fun _ => discardRecord_keepsGauges h) h
  case lrdyAsserted =>
    exact (h.of_registers (t := { s with cli := { s.cli with lrdy := true } }) rfl rfl).of_frame (transmit_frame _)
  case lrdyDeasserted => exact h.of_registers rfl rfl
  case recordTransmitEnd =>
    exact .ite (fun _ => (h.of_registers (t := { s with cli := { s.cli with tx := none } }) rfl rfl).of_frame
      (transmit_frame _)) h
  case heartbeat i => exact .ite (fun _ => h.of_frame (joinUpdates_frame i s)) h
  case minimumIntervalReached i => exact .ite (fun _ => h.of_frame (transmit_frame s)) h
  case portRateTakesEffect port => exact execPortRateTakesEffect_keepsGauges port h
  case frameReceived port extended ident dlc data => exact execFrameReceived_keepsGauges port extended ident dlc data h
  case frameTimerExpiry i => exact .ite (fun _ => h.of_frame (lapse_frame i s)) h
  case scanSlotExpiry code => exact execScanSlotExpiry_keepsGauges code h
  case parkedPassStart => exact execParkedPassStart_keepsGauges h
  case piEdge => exact .ite (fun _ => h.of_frame (acceptEdge_frame s)) h
  case boundCheck => exact execBoundCheck_keepsGauges h
  case standstillTimerExpiry => exact .ite (fun _ => h.of_frame (takeStandstill_frame s)) h
  case plausibilityTimerExpiry => exact .ite (fun _ => h.of_registers rfl rfl) h
  case frameSpeedNotification => exact (h.of_frame (takeArrival_frame _ s)).of_frame (reform_frame _)
  case gaugeInterval => exact execGaugeInterval_keepsGauges h
  case homingEnd => exact execHomingEnd_keepsGauges h
  case sweepComplete => exact execSweepComplete_keepsGauges h
  case evaluation i => exact (h.of_frame (takeArrival_frame _ s)).of_frame (evaluateWhere_frame _ _ _)
  case warningTimerExpiry i => exact execWarningTimerExpiry_keepsGauges i h
  case requestPlacing who p => exact (h.of_frame (takeArrival_frame _ s)).of_frame (place_frame who p _)
  case requestWithdrawal who =>
    exact ((h.of_frame (takeArrival_frame _ s)).of_frame (withdraw_frame who _)).of_frame (markHeld_frame who false _)
  case onTimeEnd => exact (execBurst_keepsGauges h).1
  case burstEnd => exact (execBurst_keepsGauges h).2
  case doorInputNotification i => exact (h.of_frame (takeArrival_frame _ s)).of_frame (notifyDoors_frame i _)
  case transitTimerExpiry l => exact .ite (fun _ => h.of_frame (expireTransit_frame l s)) h
  case faultConditionStart code cls =>
    exact (h.of_frame (takeArrival_frame _ s)).of_frame (startCondition_frame code cls _)
  case faultConditionEnd code cls => exact (h.of_frame (takeArrival_frame _ s)).of_frame (endCondition_frame code _)
  case agingPass => exact (h.of_frame (takeArrival_frame _ s)).of_frame (ageRecords_frame _)
  case cliNotification i => exact takeNotification_keepsGauges i (h.of_frame (takeArrival_frame _ s))
  case parkDelayExpiry => exact .ite (fun _ => enterParked_keepsGauges _ h) h
  case wspSpeedNotification => exact execWspSpeedNotification_keepsGauges h
  case testTimerExpiry => exact .ite (fun _ => endTest_keepsGauges h) h
  case pacingExpiry => exact execPacingExpiry_keepsGauges h
  case segmentSent => exact (execSegments_keepsGauges h).1
  case segmentFailed => exact (execSegments_keepsGauges h).2
  case busOffRecovery => exact execBusOffRecovery_keepsGauges h
  case receivedByte byte framingError => exact takeByte_keepsGauges byte framingError h
  case flashClock => exact .ite (fun _ => h.of_registers rfl rfl) h
  all_goals simp [managementRecord, requestData] at record request

/-! ### Every command and every step -/

theorem exec_keepsGauges (c : Instr) (h : GaugesLegal s) : Leads GaugesLegal (exec c s) := by
  cases record : managementRecord c with
  | some r =>
    rw [exec_record record]
    exact takeRecord_keepsGauges _ _ h
  | none =>
    cases request : requestData c with
    | some d =>
      rw [exec_request (head := d.1) (data := d.2) request]
      exact takeRequest_keepsGauges _ _ h
    | none => exact exec_other_keepsGauges record request h

theorem idle_keepsGauges (h : GaugesLegal s) : GaugesLegal (idle s) := by
  unfold idle
  split
  · exact h.of_frame (putInFront_frame _ s)
  · exact h.of_frame (tick_frame s)

end

/-- Settles O59: a command on the queue keeps the gauges, and so does the part by itself. -/
theorem stepKeepsGauges : Obligations.StepKeepsGauges := by
  intro s t legal next
  refine Leads.next (o := step s) ?_ next
  unfold step
  split
  · rename_i c rest _
    exact exec_keepsGauges c (legal.of_registers (t := { s with pending := rest }) rfl rfl)
  · exact idle_keepsGauges legal

end Sys2Proof.Machine
end

section
/-! PROOFS. A record discarded, held in its place, or executed (R92, R168, R170). -/

namespace Sys2Proof.Machine

theorem heldRecord_iff (r : ClRecord) (s : State) :
    heldRecord r s = true ↔ r.kind = 0x05 ∧ s.gdr.homingDone = false := by
  simp [heldRecord]

/-- Where the first record of the buffer is held, none is executed (R92, R168). -/
theorem runInbound_held {s : State} (held : s.cli.inbound.head?.any (fun r => heldRecord r s) = true) :
    runInbound s = s := by
  cases waiting : s.cli.inbound with
  | nil => rw [runInbound, waiting]; rfl
  | cons r rest =>
    rw [waiting] at held
    rw [runInbound, waiting, List.length_cons]
    unfold drainInbound
    rw [waiting]
    exact if_pos held

/-- A record that finds a place, with a held one at the front of the buffer behind it, waits (R168). -/
theorem takeRecord_waits {kind : Byte} {body : List Byte} {s : State} (free : prdy s = true)
    (held : (s.cli.inbound ++ [ClRecord.mk kind body]).head?.any (fun r => heldRecord r s) = true) :
    takeRecord kind body s = { s with cli := { s.cli with inbound := s.cli.inbound ++ [⟨kind, body⟩] } } := by
  rw [takeRecord, if_pos free]
  exact runInbound_held held

/-- Settles O5, by what `takeRecord` does where no place is free, where the first record is held, and where none waits. -/
theorem recordIsExecutedHeldOrDiscarded : Obligations.RecordIsExecutedHeldOrDiscarded := by
  intro c r s record
  rw [exec_record record]
  exact ⟨fun x => heldRecord_iff x s, fun full => by rw [takeRecord_full full],
    fun free held => congrArg Host.Outcome.next (takeRecord_waits (kind := r.kind) (body := r.body) free held),
    fun ready passes => by rw [takeRecord_ready ready passes]⟩

end Sys2Proof.Machine
end

section
/-! PROOFS. GAUGE_INTERVAL (R85 to R93): the homing drive's travel, the channels at one interval, and the phases of the
sweep. -/

namespace Sys2Proof.Machine

section
variable {s t : State} {c : Fin 6}

/-! ### The pointer and the target in the words of R86, R87 and R89 -/

theorem stepPointer_toward (rate p command : Nat) : if p ≤ command then
      stepPointer rate p command = (if command - p ≤ rate then command else p + rate)
    else stepPointer rate p command = if p - command ≤ rate then command else p - rate := by
  unfold stepPointer
  split
  · rfl
  · rfl

theorem formTarget_usable {e : GaugeEntry} {r : GaugeRun} (usable : (effRead e.source s).2.usable = true) :
    formTarget e r s = { r with
      target := targetOf e (effRead e.source s).1, prevTarget := targetOf e (effRead e.source s).1, holdTimer := none } :=
  if_pos usable

theorem formTarget_unusable {e : GaugeEntry} {r : GaugeRun} (unusable : (effRead e.source s).2.usable = false) :
    formTarget e r s = { r with
      target := if holdAfter r < 10 * e.hold then r.prevTarget else 0, holdTimer := some (holdAfter r) } :=
  if_neg (by rw [unusable]; exact Bool.false_ne_true)

/-- A target formed at an interval leaves pointer and filter to the steps behind it. -/
theorem formTarget_same (e : GaugeEntry) (r : GaugeRun) (s : State) :
    (formTarget e r s).p = r.p ∧ (formTarget e r s).f = r.f := by
  unfold formTarget
  simp only
  split
  · exact ⟨rfl, rfl⟩
  · exact ⟨rfl, rfl⟩

/-! ### The channels, each from where it stands before the interval (R85) -/

theorem gaugeMode_eq (homing : t.gdr.homingDone = s.gdr.homingDone) (test : t.wsp.test = s.wsp.test)
    (table : t.gdr.table = s.gdr.table) (op : t.opState = s.opState) : gaugeMode c t = gaugeMode c s := by
  rw [gaugeMode, gaugeMode, homing, gaugeTest_eq test, gaugeEntry_eq table, op]

theorem formTarget_eq (sst : t.sst = s.sst) (e : GaugeEntry) (r : GaugeRun) : formTarget e r t = formTarget e r s := by
  rw [formTarget, formTarget, effRead_eq sst]

/-- What a channel does at its interval is told by these registers and its own run-time state. -/
theorem steppedRun_eq (own : gaugeRun c t = gaugeRun c s) (homing : t.gdr.homingDone = s.gdr.homingDone)
    (phase : t.gdr.sweepPhase = s.gdr.sweepPhase) (table : t.gdr.table = s.gdr.table)
    (test : t.wsp.test = s.wsp.test) (op : t.opState = s.opState) (sst : t.sst = s.sst) :
    steppedRun c t = steppedRun c s := by
  have sweep : sweepTarget (gaugeEntry c s) t = sweepTarget (gaugeEntry c s) s := by
    rw [sweepTarget, sweepTarget, phase]
  simp only [steppedRun, gaugeMode_eq homing test table op, gaugeEntry_eq table, own, formTarget_eq sst, sweep]

/-- The channels at one interval. -/
def channelsStepped (s : State) : State := (indices 6).foldl stepChannel s

theorem channelsStepped_frame (s : State) : ChangesOnly [.gaugeRuns] s (channelsStepped s) :=
  .foldl stepChannel_frame _ s

theorem gaugeRun_channelsStepped (s : State) (c : Fin 6) : gaugeRun c (channelsStepped s) = steppedRun c s := by
  have other (u : State) (k j : Fin 6) (apart : j ≠ k) : gaugeRun j (stepChannel u k) = gaugeRun j u := by
    rw [gaugeRun_stepChannel, if_neg apart]
  obtain ⟨u, between, own, reached⟩ := visited (run := gaugeRun) stepChannel_frame other (indices 6) (indices_nodup 6)
    (mem_indices 6 c) s
  have sst : u.sst = s.sst := by
    have slots : u.sst.slots = s.sst.slots := between .slots (by decide)
    have signals : u.sst.table = s.sst.table := between .signalTable (by decide)
    exact congrArg₂ Sst.mk slots signals
  rw [channelsStepped, reached, gaugeRun_stepChannel, if_pos rfl]
  exact steppedRun_eq own (between .homing (by decide)).2 (between .sweepPhase (by decide))
    (between .gaugeTable (by decide)) (between .wsTest (by decide)).1 (between .opState (by decide)) sst

/-! ### The phases of the sweep (R93) -/

theorem enabledAt_iff (place : GaugeEntry → Nat) (s : State) : enabledAt place s = true ↔
    ∀ c, (gaugeEntry c s).enabled = true → (gaugeRun c s).p = place (gaugeEntry c s) := by
  simp only [enabledAt, List.all_eq_true, indices, List.mem_finRange, true_imp_iff, Bool.or_eq_true,
    Bool.not_eq_true', decide_eq_true_eq]
  refine forall_congr' fun c => ?_
  cases (gaugeEntry c s).enabled <;> simp

theorem advanceSweep_quiet (quiet : s.opState ≠ .sweep ∨ s.gdr.sweepPhase = none ∨ s.gdr.sweepPhase = some .complete) :
    advanceSweep s = s := by
  unfold advanceSweep
  split
  · rename_i sweep
    rcases quiet with apart | gone | complete
    · exact absurd sweep apart
    · rw [gone]
    · rw [complete]
  · rfl

theorem advanceSweep_rise (sweep : s.opState = .sweep) (rise : s.gdr.sweepPhase = some .rise) :
    advanceSweep s = if enabledAt GaugeEntry.span s then setPhase (some (.hold 0)) s else s := by
  rw [advanceSweep, if_pos sweep, rise]

theorem advanceSweep_hold {n : Nat} (sweep : s.opState = .sweep) (hold : s.gdr.sweepPhase = some (.hold n)) :
    advanceSweep s = setPhase (some (if n + 1 < 50 then .hold (n + 1) else .fall)) s := by
  rw [advanceSweep, if_pos sweep, hold]

theorem advanceSweep_fall (sweep : s.opState = .sweep) (fall : s.gdr.sweepPhase = some .fall) :
    advanceSweep s
      = if enabledAt (fun _ => 0) s then post [.sweepComplete] (setPhase (some .complete) s) else s := by
  rw [advanceSweep, if_pos sweep, fall]

/-! ### An interval after homing -/

/-- The part behind a GAUGE_INTERVAL after homing; the next one is 10 ms away. -/
def intervalRun (s : State) : State :=
  advanceSweep (channelsStepped { s with gdr := { s.gdr with intervalDue := s.gdr.intervalDue + 10000 } })

/-- The part before the phase test: the channels have stepped. -/
def intervalStepped (s : State) : State :=
  channelsStepped { s with gdr := { s.gdr with intervalDue := s.gdr.intervalDue + 10000 } }

theorem exec_gaugeInterval_homed (due : s.gdr.intervalDue ≤ s.now) (homed : s.gdr.homingDone = true) :
    exec .gaugeInterval s = .next (intervalRun s) := by
  show execGaugeInterval s = _
  rw [execGaugeInterval, if_pos due, runInterval, if_pos homed]
  rfl

theorem clocked_frame (s : State) (due : Nat) :
    ChangesOnly [.gaugeClock] s { s with gdr := { s.gdr with intervalDue := due } } := by
  intro p hp
  cases p <;> first | exact OnlyQueues.of_same rfl rfl rfl rfl rfl | simp [Piece.kept] at hp ⊢

theorem intervalStepped_frame (s : State) : ChangesOnly [.gaugeClock, .gaugeRuns] s (intervalStepped s) :=
  (clocked_frame s _).comp (channelsStepped_frame _) (by decide) (by decide)

theorem intervalRun_frame (s : State) :
    ChangesOnly [.gaugeClock, .gaugeRuns, .sweepPhase, .inFlight] s (intervalRun s) :=
  (intervalStepped_frame s).comp (advanceSweep_frame _) (by decide) (by decide)

theorem intervalRun_due (s : State) : (intervalRun s).gdr.intervalDue = s.gdr.intervalDue + 10000 :=
  (advanceSweep_frame _ .gaugeClock (by decide)).trans (channelsStepped_frame _ .gaugeClock (by decide))

theorem gaugeRun_intervalStepped (s : State) (c : Fin 6) : gaugeRun c (intervalStepped s) = steppedRun c s := by
  rw [intervalStepped, gaugeRun_channelsStepped]
  exact steppedRun_eq rfl rfl rfl rfl rfl rfl rfl

theorem gaugeRun_intervalRun (s : State) (c : Fin 6) : gaugeRun c (intervalRun s) = steppedRun c s := by
  have runs : (intervalRun s).gdr.run = (intervalStepped s).gdr.run := advanceSweep_frame _ .gaugeRuns (by decide)
  rw [gaugeRun, runs]
  exact gaugeRun_intervalStepped s c

/-- The phase test looks at the pointers as the interval leaves them (R93). -/
theorem enabledAt_intervalStepped (place : GaugeEntry → Nat) (s : State) : enabledAt place (intervalStepped s) = true ↔
    ∀ c, (gaugeEntry c s).enabled = true → (gaugeRun c (intervalRun s)).p = place (gaugeEntry c s) := by
  simp only [enabledAt_iff, gaugeEntry_eq (intervalStepped_frame s .gaugeTable (by decide)), gaugeRun_intervalStepped,
    gaugeRun_intervalRun]

end

/-! ### One channel, as R85 to R89 give its step -/

/-- The pointer moves from `r` to `r'` toward the command by at most the rate (R89). -/
def Toward (rate : Nat) (r r' : GaugeRun) (command : Nat) : Prop :=
  if r.p ≤ command then r'.p = (if command - r.p ≤ rate then command else r.p + rate)
  else r'.p = if r.p - command ≤ rate then command else r.p - rate

/-- The target, the last target and the hold timer of `r'` are those that the read at an interval forms (R86, R87). -/
def TargetFormed (e : GaugeEntry) (s : State) (r r' : GaugeRun) : Prop :=
  ((effRead e.source s).2.usable = true → r'.holdTimer = none ∧ r'.prevTarget = r'.target
    ∧ (e.vmin < e.vmax → (r'.target : Int) = ((clampInt e.vmin e.vmax (effRead e.source s).1 - e.vmin) * e.span
        + (e.vmax - e.vmin) / 2) / (e.vmax - e.vmin)))
  ∧ ((effRead e.source s).2.usable = false →
    r'.holdTimer = some (r.holdTimer.elim 0 (· + 10)) ∧ r'.prevTarget = r.prevTarget
      ∧ r'.target = if r.holdTimer.elim 0 (· + 10) < 10 * e.hold then r.prevTarget else 0)

section
variable {s : State} {c : Fin 6}

theorem formTarget_formed (e : GaugeEntry) (r : GaugeRun) (s : State) (p f : Nat) :
    TargetFormed e s r { formTarget e r s with p := p, f := f } := by
  constructor
  · intro usable
    rw [formTarget_usable usable]
    exact ⟨rfl, rfl, fun ordered => targetOf_eq ordered _⟩
  · intro unusable
    rw [formTarget_unusable unusable]
    exact ⟨rfl, rfl, rfl⟩

/-- A tested channel goes toward its position; while enabled it forms its target too, and filters nothing (R85, R95). -/
theorem steppedRun_test_moves {position : Nat} (homed : s.gdr.homingDone = true) (test : gaugeTest c s = some position) :
    let e := gaugeEntry c s
    let r := gaugeRun c s
    let r' := steppedRun c s
    Toward e.rate r r' position ∧ r'.f = r.f ∧ (e.enabled = true → TargetFormed e s r r')
      ∧ (e.enabled = false → r' = { r with p := r'.p }) := by
  obtain ⟨pointer, filter⟩ := formTarget_same (gaugeEntry c s) (gaugeRun c s) s
  simp only [steppedRun_test homed test]
  cases (gaugeEntry c s).enabled with
  | false => exact ⟨stepPointer_toward _ _ _, rfl, nofun, fun _ => rfl⟩
  | true =>
    simp only [if_true, pointer]
    exact ⟨stepPointer_toward _ _ _, filter, fun _ => formTarget_formed _ _ _ _ _, nofun⟩

/-- A channel that tracks forms its target, filters toward it and goes toward the filtered position (R85 to R89). -/
theorem steppedRun_track_moves (homed : s.gdr.homingDone = true) (test : gaugeTest c s = none)
    (enabled : (gaugeEntry c s).enabled = true) (run : s.opState = .run) :
    let e := gaugeEntry c s
    let r := gaugeRun c s
    let r' := steppedRun c s
    let goal := 256 * r'.target
    TargetFormed e s r r'
      ∧ r'.f = (if r.f ≤ goal then
          (if (goal - r.f) / 2 ^ e.damping = 0 then goal else r.f + (goal - r.f) / 2 ^ e.damping)
        else if (r.f - goal) / 2 ^ e.damping = 0 then goal else r.f - (r.f - goal) / 2 ^ e.damping)
      ∧ Toward e.rate r r' ((r'.f + 128) / 256) := by
  obtain ⟨pointer, filter⟩ := formTarget_same (gaugeEntry c s) (gaugeRun c s) s
  simp only [steppedRun_track homed test enabled run, pointer, filter]
  exact ⟨formTarget_formed _ _ _ _ _, filterStep_eq _ _ _, stepPointer_toward _ _ _⟩

end

/-! ### The homing drive (R91) -/

theorem travelAfter_succ (n : Nat) :
    travelAfter (n + 1) = travelAfter n + (if n < 64 then 64 else if n = 64 then 4 else 0) := rfl

/-- The drive's travel through the interval that is counted; behind the 65th none is, and it drives no more. -/
theorem homingInterval_travel (s : State) : homingTravel (homingInterval s)
    = homingTravel s + (if s.gdr.homingIntervals < 64 then 64 else if s.gdr.homingIntervals = 64 then 4 else 0) := by
  unfold homingInterval
  simp only
  split
  · split
    · exact travelAfter_succ _
    · exact travelAfter_succ _
  · rename_i ended
    rw [if_neg (by omega), if_neg (by omega), Nat.add_zero]

theorem homingInterval_eq (s : State) : homingInterval s = if s.gdr.homingIntervals < 65 then
      { s with
        gdr := { s.gdr with homingIntervals := s.gdr.homingIntervals + 1 }
        inFlight := s.inFlight ++ if s.gdr.homingIntervals = 64 then [.homingEnd] else [] }
    else s := by
  unfold homingInterval
  simp only
  split
  · by_cases last : s.gdr.homingIntervals = 64
    · simp [last, post]
    · simp [last]
  · rfl

theorem homingInterval_done (s : State) : (homingInterval s).gdr.homingDone = s.gdr.homingDone := by
  rw [homingInterval_eq]
  split
  · rfl
  · rfl

theorem exec_gaugeInterval_homing {s : State} (due : s.gdr.intervalDue ≤ s.now) (homing : s.gdr.homingDone = false) :
    exec .gaugeInterval s
      = .next (homingInterval { s with gdr := { s.gdr with intervalDue := s.gdr.intervalDue + 10000 } }) := by
  show execGaugeInterval s = _
  rw [execGaugeInterval, if_pos due, runInterval, if_neg (by simp [homing])]

/-- Settles O39: the drive before homing has ended; behind it each channel by its mode, and the sweep by its phase. -/
theorem gaugeIntervalStepsPointers : Obligations.GaugeIntervalStepsPointers := by
  intro s
  refine ⟨fun early => if_neg (Nat.not_le.2 early), fun due homing => ?_, fun due homing => ?_, fun due homed => ?_⟩
  · rw [exec_gaugeInterval_homing due homing, homingInterval_eq]
  · refine ⟨_, exec_gaugeInterval_homing due homing, homingInterval_travel _, fun first => ?_, fun ended => ?_, fun c => ?_⟩
    · rw [homingTravel, first]
      rfl
    · rw [homingTravel, ended]
      rfl
    · rw [phaseOutputs, homingInterval_done, if_neg (by simp [homing])]
  have phase : (intervalStepped s).gdr.sweepPhase = s.gdr.sweepPhase :=
    intervalStepped_frame s .sweepPhase (by decide)
  have op : (intervalStepped s).opState = s.opState := intervalStepped_frame s .opState (by decide)
  have arrivals : (intervalStepped s).inFlight = s.inFlight := intervalStepped_frame s .inFlight (by decide)
  have advanced : intervalRun s = advanceSweep (intervalStepped s) := rfl
  refine ⟨intervalRun s, exec_gaugeInterval_homed due homed, intervalRun_due s, fun c => ?_, fun quiet => ?_,
    fun sweep => ?_, intervalRun_frame s⟩
  · rw [gaugeRun_intervalRun s c]
    refine ⟨fun position test => steppedRun_test_moves homed test, fun test enabled sweep => ?_,
      fun test enabled track => steppedRun_track_moves homed test enabled track, fun test rest => ?_⟩
    · rw [steppedRun_sweep homed test enabled sweep]
      exact ⟨stepPointer_toward _ _ _, rfl⟩
    · rw [steppedRun_rest homed test rest]
      exact ⟨stepPointer_toward _ _ _, rfl⟩
  · rw [advanced, advanceSweep_quiet (by rw [op, phase]; exact quiet)]
    exact ⟨phase, arrivals⟩
  · refine ⟨fun rise => ⟨fun all => ?_, fun notAll => ?_⟩, fun n hold => ?_, fun fall => ⟨fun all => ?_, fun notAll => ?_⟩⟩
    · rw [advanced, advanceSweep_rise (op.trans sweep) (phase.trans rise), if_pos ((enabledAt_intervalStepped _ s).2 all)]
      rfl
    · rw [advanced, advanceSweep_rise (op.trans sweep) (phase.trans rise),
        if_neg (mt (enabledAt_intervalStepped _ s).1 notAll), phase, rise]
    · rw [advanced, advanceSweep_hold (op.trans sweep) (phase.trans hold)]
      rfl
    · rw [advanced, advanceSweep_fall (op.trans sweep) (phase.trans fall), if_pos ((enabledAt_intervalStepped _ s).2 all),
        ← arrivals]
      exact ⟨rfl, rfl⟩
    · rw [advanced, advanceSweep_fall (op.trans sweep) (phase.trans fall),
        if_neg (mt (enabledAt_intervalStepped _ s).1 notAll), phase, arrivals]
      exact ⟨fall, rfl⟩

end Sys2Proof.Machine
end

section
/-! PROOFS. SWEEP (R93, R179): its checks, and the part in SWEEP. -/

namespace Sys2Proof.Machine

section
variable {s : State}

theorem exec_sweep {a : Answer} (ready : LinkReady s)
    (answer : whenState (fun st => decide (st = .run)) s (if standstill s then accepted [] enterSweep else refuse .moving)
      = a) : exec (.sweep []) s = .next (a.after (respond 0x06 a.result a.data s)) :=
  exec_answer (r := ⟨0x06, []⟩) rfl ready (heldRecord_of_kind (by decide) [] s) answer

theorem enterSweep_told (u : State) : ChangesOnly [.sweepPhase, .wsTest, .gaugeRuns, .requests, .playing]
    (setOpState .sweep .sweepRequest u) (enterSweep u) :=
  (setPhase_frame (some .rise) _).comp (endTest_frame _) (by decide) (by decide)

theorem enterSweep_phase (u : State) : (enterSweep u).gdr.sweepPhase = some .rise :=
  endTest_frame (gdrEnterSweep (setOpState .sweep .sweepRequest u)) .sweepPhase (by decide)

theorem enterSweep_queued {u : State} (held : sendingHeld u = true) :
    Queued [.state .sweep .sweepRequest] u (enterSweep u) := by
  obtain ⟨events, overrun⟩ := enterSweep_told u .events (by decide)
  exact (setOpState_queued .sweepRequest held .sweep).of_same events overrun

end

/-- Settles O19, check by check. -/
theorem sweepEntersSweep : Obligations.SweepEntersSweep := by
  intro s ready
  refine ⟨fun other => exec_sweep (a := refuse .state) ready ?_, fun run moving => exec_sweep (a := refuse .moving) ready ?_,
    fun run usable slow => ?_⟩
  · rw [whenState, if_neg (by simpa using other)]
  · rw [whenState, if_pos (by simpa using run), if_neg (mt (standstill_iff s).1 moving)]
  · have entered := exec_sweep (a := accepted [] enterSweep) ready
      (by rw [whenState, if_pos (by simpa using run), if_pos ((standstill_iff s).2 ⟨usable, slow⟩)])
    have frame := enterSweep_frame (respond 0x06 .ok [] s)
    refine ⟨_, entered, (answered_after frame (by decide)).1, ?_, enterSweep_phase _, endTest_test _, ?_, ?_,
      answered_frame frame⟩
    · exact (enterSweep_told _ .opState (by decide)).trans (setOpState_opState _ _ _)
    · exact (enterSweep_told _ .parkDelay (by decide)).trans (setOpState_parkDue _ _ _)
    · exact (respond_queued 0x06 .ok [] s).append (enterSweep_queued (respond_held 0x06 .ok [] s))

end Sys2Proof.Machine
end

section
/-! PROOFS. HOMING_END and SWEEP_COMPLETE (R91 to R93, R168, R180): the records behind a held START, and the return to
RUN. -/

namespace Sys2Proof.Machine

/-! ### The records that waited (R168) -/

/-- What a record changes, whichever it is. -/
def executing : List Piece :=
  .gaugeTable :: .opState :: .parkDelay :: plainRecord ++ runEntry ++ parkEntering ++ resetting

theorem records_change (s : State) : RecordsKeep (ChangesOnly executing s) where
  plain _ _ frame h := h.trans (frame.mono (by decide))
  gauge c e u _ h := h.trans ((writeGauge_frame c e u).mono (by decide))
  start u h := h.trans ((enterRun_frame .start false u).mono (by decide))
  sweep u h := h.trans ((enterSweep_frame u).mono (by decide))
  park u h := h.trans ((enterParked_frame .parkRequest u).mono (by decide))
  reset u h := h.trans ((commandedReset_frame u).mono (by decide))

theorem executeRecord_frame (r : ClRecord) (s : State) : ChangesOnly executing s (executeRecord r s) :=
  executeRecord_keeps (records_change s) r s (.refl _ s)

/-- After homing no record is held, and the records waiting are executed in their order. -/
theorem drainInbound_homed (l : List ClRecord) {s : State} (homed : s.gdr.homingDone = true) (waiting : s.cli.inbound = l) :
    drainInbound l.length s = executeAll l s := by
  induction l generalizing s with
  | nil => rfl
  | cons r rest ih =>
    have passes : ¬heldRecord r s = true := by rw [heldRecord_iff, homed]; exact fun h => absurd h.2 nofun
    have frame := executeRecord_frame r { s with cli := { s.cli with inbound := rest } }
    rw [List.length_cons, drainInbound, waiting]
    simp only [if_neg passes]
    exact ih ((frame .homing (by decide)).2.trans homed) (frame .inbound (by decide))

section
variable {s : State}

/-! ### HOMING_END (R91, R92) -/

/-- The part behind the end of homing, the records still waiting. -/
def homed (s : State) : State := endHoming (takeArrival .homingEnd s)

theorem homed_frame (s : State) : ChangesOnly [.gaugeRuns, .homing, .inFlight, .arrivals] s (homed s) :=
  (takeArrival_frame .homingEnd s).comp (endHoming_frame _) (by decide) (by decide)

theorem exec_homingEnd (driven : s.gdr.homingIntervals = 65) (homing : s.gdr.homingDone = false) :
    exec .homingEnd s = .next (executeAll s.cli.inbound (homed s)) := by
  show execHomingEnd s = _
  rw [execHomingEnd, if_pos ⟨driven, homing⟩]
  exact congrArg Host.Outcome.next (drainInbound_homed s.cli.inbound (s := homed s) rfl rfl)

theorem exec_homingEnd_discarded (other : s.gdr.homingIntervals ≠ 65 ∨ s.gdr.homingDone = true) :
    exec .homingEnd s = .next { s with inFlight := s.inFlight.erase .homingEnd } := by
  refine if_neg fun ⟨driven, homing⟩ => ?_
  rcases other with early | done
  · exact early driven
  · rw [homing] at done
    exact absurd done nofun

theorem emptied_frame (u : State) : ChangesOnly [.inbound] u { u with cli := { u.cli with inbound := [] } } := by
  intro p hp
  cases p <;> first | exact OnlyQueues.of_same rfl rfl rfl rfl rfl | simp [Piece.kept] at hp ⊢

/-! ### SWEEP_COMPLETE (R93, R180) -/

/-- The part back in RUN, before a park delay of 0 is looked at. -/
def sweepLeft (cause : StateCause) (s : State) : State :=
  gdrEnterRun (parkDelayAtRun (setOpState .run cause (dropSweepReport s)))

theorem leaveSweep_eq (cause : StateCause) (s : State) : leaveSweep cause s = takeZeroDelay (sweepLeft cause s) := rfl

theorem exec_sweepComplete (sweep : s.opState = .sweep) (fallen : s.gdr.sweepPhase = some .complete) :
    exec .sweepComplete s = .next (takeZeroDelay (sweepLeft .sweepComplete (takeArrival .sweepComplete s))) :=
  if_pos ⟨sweep, fallen⟩

theorem exec_sweepComplete_discarded (other : s.opState ≠ .sweep ∨ s.gdr.sweepPhase ≠ some .complete) :
    exec .sweepComplete s = .next { s with inFlight := s.inFlight.erase .sweepComplete } :=
  if_neg fun ⟨sweep, fallen⟩ => other.elim (fun apart => apart sweep) fun apart => apart fallen

variable (cause : StateCause)

theorem sweepLeft_told (s : State) : ChangesOnly [.parkDelay, .sweepPhase, .gaugeRuns] (setOpState .run cause (dropSweepReport s))
    (sweepLeft cause s) := (parkDelayAtRun_frame _).comp (gdrEnterRun_frame _) (by decide) (by decide)

theorem sweepLeft_frame (s : State) : ChangesOnly ([.opState, .parkDelay, .sweepPhase, .gaugeRuns, .inFlight, .arrivals] ++ sending) s
    (sweepLeft cause s) :=
  ((dropSweepReport_frame s).mono (by decide)).trans (((setOpState_frame .run cause _).mono (by decide)).trans
    ((sweepLeft_told cause s).mono (by decide)))

theorem sweepLeft_opState (s : State) : (sweepLeft cause s).opState = .run :=
  (sweepLeft_told cause s .opState (by decide)).trans (setOpState_opState _ _ _)

theorem sweepLeft_parkDue (s : State) : (sweepLeft cause s).cli.parkDue
    = if ignitionIs 0 s then some (s.now + 1000 * (1000 * (linkOf s).parkDelay)) else none := by
  have entered := setOpState_frame .run cause (dropSweepReport s)
  have ignition : ignitionIs 0 (setOpState .run cause (dropSweepReport s)) = ignitionIs 0 s := by
    rw [ignitionIs, ignitionIs, entered.slot (by decide)]
    rfl
  have link : linkOf (setOpState .run cause (dropSweepReport s)) = linkOf s := by
    rw [linkOf, linkOf, entered .link (by decide)]
    rfl
  have kept : (sweepLeft cause s).cli.parkDue
      = (parkDelayAtRun (setOpState .run cause (dropSweepReport s))).cli.parkDue :=
    gdrEnterRun_frame _ .parkDelay (by decide)
  rw [kept, parkDelayAtRun, ignition]
  split
  · show some (dueIn _ _) = _
    rw [dueIn, link, entered .now (by decide)]
    rfl
  · exact setOpState_parkDue _ _ .run

theorem sweepLeft_filters (s : State) : FiltersRestart s (sweepLeft cause s) := by
  have early : ChangesOnly (.opState :: .parkDelay :: .inFlight :: .arrivals :: sending) s
      (parkDelayAtRun (setOpState .run cause (dropSweepReport s))) :=
    ((dropSweepReport_frame s).mono (by decide)).trans (((setOpState_frame .run cause _).mono (by decide)).trans
      ((parkDelayAtRun_frame _).mono (by decide)))
  exact (gdrEnterRun_filters _).of_outer (early .gaugeRuns (by decide)) (early .gaugeTable (by decide)) rfl rfl

theorem sweepLeft_delay (s : State) : (linkOf (sweepLeft cause s)).parkDelay = (linkOf s).parkDelay := by
  rw [linkOf, linkOf, sweepLeft_frame cause s .link (by decide)]

theorem sweepLeft_queued (held : sendingHeld s = true) : Queued [.state .run cause] s (sweepLeft cause s) := by
  obtain ⟨events, overrun⟩ := sweepLeft_told cause s .events (by decide)
  exact (setOpState_queued (s := dropSweepReport s) cause held .run).of_same events overrun

/-- The park delay of a part whose IGNITION is not 0 has not started, and one that is not 0 has not ended (R180). -/
theorem takeZeroDelay_sweepLeft (waits : ignitionIs 0 s = false ∨ (linkOf s).parkDelay ≠ 0) :
    takeZeroDelay (sweepLeft cause s) = sweepLeft cause s := by
  refine takeZeroDelay_eq (waits.imp (fun on => ?_) fun delay => ?_)
  · rw [sweepLeft_parkDue, on, if_neg Bool.false_ne_true]
  · rwa [sweepLeft_delay]

theorem takeZeroDelay_sweepLeft_parks (off : ignitionIs 0 s = true) (zero : (linkOf s).parkDelay = 0) :
    takeZeroDelay (sweepLeft cause s) = enterParked .parkDelay (sweepLeft cause s) := by
  have live : (sweepLeft cause s).opState.live = true := by rw [sweepLeft_opState]; rfl
  have due : isDue (sweepLeft cause s).cli.parkDue (sweepLeft cause s) = true := by
    rw [isDue_iff, sweepLeft_parkDue, if_pos off, zero, sweepLeft_frame cause s .now (by decide)]
    exact ⟨_, rfl, le_refl _⟩
  refine if_pos ?_
  rw [live, due, sweepLeft_delay, zero]
  rfl

end

/-- Settles O40: the two reports taken, each from the state that made it, and discarded in any other. -/
theorem gaugeReportsAreTaken : Obligations.GaugeReportsAreTaken := by
  intro s
  have stands := gaugeRun_endHoming (s := takeArrival .homingEnd s)
  refine ⟨fun driven homing empty => ?_, fun r driven homing alone => ?_, fun driven homing => ?_, exec_homingEnd_discarded,
    fun sweep fallen waits => ?_, fun sweep fallen off zero => ?_, exec_sweepComplete_discarded⟩
  · refine ⟨homed s, ?_, rfl, stands, rfl, empty, (homed_frame s).mono (by decide)⟩
    rw [exec_homingEnd driven homing, empty]
    rfl
  · refine ⟨{ homed s with cli := { (homed s).cli with inbound := [] } }, ⟨rfl, stands, rfl, rfl,
      (homed_frame s).comp (emptied_frame _) (by decide) (by decide)⟩, ?_⟩
    rw [exec_homingEnd driven homing, alone]
    rfl
  · exact ⟨homed s, ⟨rfl, stands, rfl, homed_frame s⟩, exec_homingEnd driven homing⟩
  · set u := takeArrival .sweepComplete s with hu
    have taken : ChangesOnly [.inFlight, .arrivals] s u := takeArrival_frame .sweepComplete s
    have ignition : ignitionIs 0 u = ignitionIs 0 s := rfl
    have link : linkOf u = linkOf s := rfl
    have due := sweepLeft_parkDue .sweepComplete u
    rw [ignition, link, taken .now (by decide)] at due
    refine ⟨sweepLeft .sweepComplete u, ?_, sweepLeft_opState _ u,
      (sweepLeft_filters .sweepComplete u).of_outer rfl rfl rfl rfl, due, fun held => ?_,
      (taken.mono (by decide)).trans (sweepLeft_frame _ u)⟩
    · rw [exec_sweepComplete sweep fallen, takeZeroDelay_sweepLeft .sweepComplete (by rw [ignition, link]; exact waits)]
    · exact sweepLeft_queued (s := u) .sweepComplete held
  · set u := takeArrival .sweepComplete s with hu
    set left := sweepLeft .sweepComplete u with hleft
    have parks : takeZeroDelay left = enterParked .parkDelay left :=
      takeZeroDelay_sweepLeft_parks (s := u) .sweepComplete off zero
    obtain ⟨op, delay, timers, -, -, meas, -, -, -, -, -, -, -, -, -, phase, requests, -⟩ :=
      enterParked_parks .parkDelay left
    refine ⟨enterParked .parkDelay left, ?_, op, phase, delay, timers, meas, requests, fun held => ?_⟩
    · rw [exec_sweepComplete sweep fallen, ← hu, ← hleft, parks]
    have running : Queued [.state .run .sweepComplete] s left := sweepLeft_queued (s := u) .sweepComplete held
    have heldLeft : sendingHeld left = true := (sweepLeft_frame .sweepComplete u .queues (by decide)).held held
    obtain ⟨more, parked, -⟩ := enterParked_queued (cause := .parkDelay) heldLeft
    exact ⟨more, running.append parked⟩

end Sys2Proof.Machine
end

section
/-! PROOFS. The chime generator (R121 to R126): the request that leads in the order of the stamps wins, an arbitration
lets it play, and the removals and the placing before an arbitration keep the list of requests legal. -/

namespace Sys2Proof.Machine

/-! ### The winner (R124) -/

section
variable {s t : State}

/-- A request wins among those of a list, at the priorities of the part's patterns. -/
def WinsAmong (s : State) (w : ChimeRequest) (l : List ChimeRequest) : Prop :=
  w ∈ l ∧ ∀ x ∈ l, (patternOf x.pattern s).priority ≤ (patternOf w.pattern s).priority
    ∧ ((patternOf x.pattern s).priority = (patternOf w.pattern s).priority → w.stamp ≤ x.stamp)

theorem wins_iff (w : ChimeRequest) (s : State) : Wins w s ↔ WinsAmong s w s.chg.requests := Iff.rfl

theorem WinsAmong.snoc {w r : ChimeRequest} {l : List ChimeRequest} (wins : WinsAmong s w l)
    (later : ∀ x ∈ l, x.stamp < r.stamp) :
    WinsAmong s (if (patternOf w.pattern s).priority < (patternOf r.pattern s).priority then r else w) (l ++ [r]) := by
  obtain ⟨member, best⟩ := wins
  have first := later w member
  refine ⟨by split <;> simp [member], fun x among => ?_⟩
  rcases List.mem_append.1 among with old | new
  · have beaten := best x old
    split <;> omega
  · obtain rfl := List.mem_singleton.1 new
    split <;> omega

/-- The leader behind all requests of a list, taken in the order of their stamps. -/
theorem leader_wins (s : State) (l : List ChimeRequest) (ordered : l.Pairwise fun a b => a.stamp < b.stamp)
    (some_request : l ≠ []) : ∃ w, l.foldl (betterRequest s) none = some w ∧ WinsAmong s w l := by
  induction l using List.reverseRecOn with
  | nil => exact absurd rfl some_request
  | append_singleton l r ih =>
    obtain ⟨before, -, later⟩ := List.pairwise_append.1 ordered
    rw [List.foldl_append]
    by_cases alone : l = []
    · subst alone
      exact ⟨r, rfl, by simp [WinsAmong]⟩
    · obtain ⟨w, leads, wins⟩ := ih before alone
      refine ⟨_, ?_, wins.snoc fun x among => later x among r (List.mem_singleton.2 rfl)⟩
      rw [leads]
      exact (apply_ite some _ _ _).symm

/-- What the requests of a legal chime generator keep, whatever plays (R122). -/
structure RequestsLegal (s : State) : Prop where
  distinct : (s.chg.requests.map ChimeRequest.who).Nodup
  ordered : s.chg.requests.Pairwise fun a b => a.stamp < b.stamp
  stamped : ∀ r ∈ s.chg.requests, r.stamp ≤ s.chg.seq
  config : s.opState = .config → s.chg.requests = []

theorem ChimeLegal.requestsLegal (h : ChimeLegal s) : RequestsLegal s := by
  obtain ⟨distinct, ordered, stamped, config, -, -⟩ := h
  exact ⟨distinct, ordered, stamped, config⟩

theorem RequestsLegal.stamp_injective (h : RequestsLegal s) {a b : ChimeRequest} (ha : a ∈ s.chg.requests)
    (hb : b ∈ s.chg.requests) (same : a.stamp = b.stamp) : a = b :=
  List.inj_on_of_nodup_map (List.pairwise_map.2 (h.ordered.imp Nat.ne_of_lt)) ha hb same

/-- One request of a requester. -/
theorem RequestsLegal.who_injective (h : RequestsLegal s) {a b : ChimeRequest} (ha : a ∈ s.chg.requests)
    (hb : b ∈ s.chg.requests) (same : a.who = b.who) : a = b := List.inj_on_of_nodup_map h.distinct ha hb same

theorem RequestsLegal.winner_unique (h : RequestsLegal s) {a b : ChimeRequest} (ha : Wins a s) (hb : Wins b s) :
    a = b := by
  obtain ⟨memberA, bestA⟩ := (wins_iff a s).1 ha
  obtain ⟨memberB, bestB⟩ := (wins_iff b s).1 hb
  have ab := bestA b memberB
  have ba := bestB a memberA
  exact h.stamp_injective memberA memberB (by omega)

theorem RequestsLegal.winner_eq (h : RequestsLegal s) {w : ChimeRequest} (wins : Wins w s) : winner s = some w := by
  have member : w ∈ s.chg.requests := wins.1
  obtain ⟨leader, leads, best⟩ := leader_wins s s.chg.requests h.ordered (List.ne_nil_of_mem member)
  rw [winner, leads, h.winner_unique wins best]

/-! ### What an arbitration lets play (R121, R125) -/

/-- What plays behind an arbitration: the burst that plays already goes on where it is the winner's. -/
def arbitrated (s : State) : Option Playing :=
  (winner s).bind fun w =>
    if playingWho s = some w.who then s.chg.playing
    else some ⟨w.who, true, s.now + 10000 * (patternOf w.pattern s).onTime⟩

theorem arbitrate_eq (s : State) : arbitrate s = { s with chg := { s.chg with playing := arbitrated s } } := by
  unfold arbitrate arbitrated
  cases winner s with
  | none => rfl
  | some w =>
    by_cases plays : playingWho s = some w.who
    · simp only [Option.bind_some, if_pos plays]
    · simp only [Option.bind_some, if_neg plays]
      rfl

theorem arbitrate_requests (s : State) : (arbitrate s).chg.requests = s.chg.requests := by rw [arbitrate_eq]

theorem wins_arbitrate (w : ChimeRequest) (s : State) : Wins w (arbitrate s) ↔ Wins w s := by
  rw [arbitrate_eq]
  exact Iff.rfl

theorem playingWho_eq {b : Playing} (plays : s.chg.playing = some b) (w : ChimeRequest) :
    playingWho s = some w.who ↔ b.who = w.who := by
  rw [playingWho, plays, Option.map_some, Option.some.injEq]

theorem arbitrate_winnerPlays (h : RequestsLegal s) : WinnerPlays s.chg.playing (arbitrate s) := by
  simp only [WinnerPlays, wins_arbitrate, arbitrate_requests]
  refine ⟨fun none => ?_, fun some_request => ?_, fun w wins => ⟨fun b plays own => ?_, fun others => ?_⟩⟩
  · rw [arbitrate_eq, arbitrated, winner, none]
    rfl
  · obtain ⟨w, -, wins⟩ := leader_wins s _ h.ordered some_request
    exact ⟨w, wins⟩
  · rw [arbitrate_eq, arbitrated, h.winner_eq wins]
    exact (if_pos ((playingWho_eq plays w).2 own)).trans plays
  · have silent : playingWho s ≠ some w.who := fun plays => by
      obtain ⟨b, playing, own⟩ := Option.map_eq_some_iff.1 plays
      exact others b playing own
    rw [arbitrate_eq, arbitrated, h.winner_eq wins]
    exact if_neg silent

/-- What the winner plays depends on the chime generator and on the time alone. -/
theorem WinnerPlays.of_same {kept : Option Playing} (h : WinnerPlays kept s) (chg : t.chg = s.chg)
    (now : t.now = s.now) : WinnerPlays kept t := by
  simpa only [WinnerPlays, Wins, patternOf, chg, now] using h

theorem RequestsLegal.chimeLegal {kept : Option Playing} (h : RequestsLegal s) (plays : WinnerPlays kept s) :
    ChimeLegal s := by
  obtain ⟨silent, someWinner, winnerPlays⟩ := plays
  have winnerOf (w : ChimeRequest) (wins : Wins w s) : ∃ b, s.chg.playing = some b ∧ b.who = w.who := by
    obtain ⟨goesOn, startsAfresh⟩ := winnerPlays w wins
    by_cases own : ∃ b, kept = some b ∧ b.who = w.who
    · obtain ⟨b, was, same⟩ := own
      exact ⟨b, goesOn b was same, same⟩
    · exact ⟨_, startsAfresh fun b was same => own ⟨b, was, same⟩, rfl⟩
  refine ⟨h.distinct, h.ordered, h.stamped, h.config, ⟨fun nothing => ?_, silent⟩, fun b playing => ?_⟩
  · by_contra some_request
    obtain ⟨w, wins⟩ := someWinner some_request
    obtain ⟨b, playing, -⟩ := winnerOf w wins
    rw [nothing] at playing
    exact nomatch playing
  · have some_request : s.chg.requests ≠ [] := fun none => by
      rw [silent none] at playing
      exact nomatch playing
    obtain ⟨w, wins⟩ := someWinner some_request
    obtain ⟨b', playing', own⟩ := winnerOf w wins
    obtain rfl := Option.some.inj (playing.symm.trans playing')
    exact ⟨w, wins, own.symm⟩

/-! ### Lists of requests that stay legal -/

theorem RequestsLegal.sublist (h : RequestsLegal s) (requests : t.chg.requests.Sublist s.chg.requests)
    (seq : t.chg.seq = s.chg.seq) (opState : t.opState = s.opState) : RequestsLegal t where
  distinct := (requests.map ChimeRequest.who).nodup h.distinct
  ordered := h.ordered.sublist requests
  stamped r member := seq ▸ h.stamped r (requests.subset member)
  config conf := List.sublist_nil.1 (h.config (opState ▸ conf) ▸ requests)

theorem RequestsLegal.of_same (h : RequestsLegal s) (requests : t.chg.requests = s.chg.requests)
    (seq : t.chg.seq = s.chg.seq) (opState : t.opState = s.opState) : RequestsLegal t :=
  h.sublist (requests ▸ List.Sublist.refl _) seq opState

theorem RequestsLegal.arbitrate_chimeLegal (h : RequestsLegal s) : ChimeLegal (arbitrate s) :=
  RequestsLegal.chimeLegal (by rw [arbitrate_eq]; exact h.of_same rfl rfl rfl) (arbitrate_winnerPlays h)

/-- A frame that names no piece of the chime generator. -/
theorem ChangesOnly.chg {ps : List Piece} (h : ChangesOnly ps s t) (table : Piece.patternTable ∉ ps)
    (requests : Piece.requests ∉ ps) (playing : Piece.playing ∉ ps) : t.chg = s.chg := by
  have sameTable : t.chg.table = s.chg.table := h .patternTable table
  obtain ⟨sameRequests, sameSeq⟩ := h .requests requests
  have samePlaying : t.chg.playing = s.chg.playing := h .playing playing
  calc t.chg = ⟨t.chg.table, t.chg.requests, t.chg.seq, t.chg.playing⟩ := rfl
    _ = s.chg := by rw [sameTable, sameRequests, sameSeq, samePlaying]

/-- What the chime invariant says depends on the chime generator and on the operating state alone. -/
theorem ChimeLegal.of_same (h : ChimeLegal s) (chg : t.chg = s.chg) (opState : t.opState = s.opState) :
    ChimeLegal t := by
  simpa only [ChimeLegal, Wins, patternOf, chg, opState] using h

/-! ### The removal of a request (R121, R123) -/

theorem removeRequest_requests (who : Requester) (s : State) :
    (removeRequest who s).chg.requests = s.chg.requests.filter fun r => r.who ≠ who := by
  unfold removeRequest
  simp only
  split <;> rfl

theorem removeRequest_seq (who : Requester) (s : State) : (removeRequest who s).chg.seq = s.chg.seq := by
  unfold removeRequest
  simp only
  split <;> rfl

/-- A burst goes on unless it is the requester's own. -/
theorem removeRequest_playing (who : Requester) (s : State) :
    (removeRequest who s).chg.playing = s.chg.playing.filter fun b => b.who ≠ who := by
  unfold removeRequest
  simp only
  split
  · rename_i own
    obtain ⟨b, plays, rfl⟩ := Option.map_eq_some_iff.1 own
    simp [silence, plays, Option.filter]
  · rename_i other
    show s.chg.playing = s.chg.playing.filter _
    cases plays : s.chg.playing with
    | none => rfl
    | some b =>
      have stays : b.who ≠ who := fun own => other (by rw [playingWho, plays, Option.map_some, own])
      simp [stays, Option.filter]

theorem removeRequest_legal (who : Requester) (h : RequestsLegal s) : RequestsLegal (removeRequest who s) :=
  h.sublist (by rw [removeRequest_requests]; exact List.filter_sublist) (removeRequest_seq who s)
    (removeRequest_frame who s .opState (by decide))

theorem requestOf_isSome (who : Requester) (s : State) :
    (requestOf who s).isSome = true ↔ ∃ r ∈ s.chg.requests, r.who = who := by
  simp [requestOf]

/-- A withdrawal leaves the requests of all others, also where the requester holds none. -/
theorem withdraw_requests (who : Requester) (s : State) :
    (withdraw who s).chg.requests = s.chg.requests.filter fun r => r.who ≠ who := by
  unfold withdraw
  split
  · rw [arbitrate_requests, removeRequest_requests]
  · rename_i without
    have others : ∀ r ∈ s.chg.requests, decide (r.who ≠ who) = true := fun r member =>
      decide_eq_true fun own => without ((requestOf_isSome who s).2 ⟨r, member, own⟩)
    exact (List.filter_eq_self.2 others).symm

theorem withdraw_chimeLegal (who : Requester) (h : ChimeLegal s) : ChimeLegal (withdraw who s) := by
  unfold withdraw
  split
  · exact (removeRequest_legal who h.requestsLegal).arbitrate_chimeLegal
  · exact h

/-! ### The workshop test's request (R122, R127) -/

/-- The requests with a new one of the requester behind those of all others, before the arbitration. -/
def withRequest (who : Requester) (p : Fin 8) (s : State) : State :=
  { removeRequest who s with chg := { (removeRequest who s).chg with
      seq := s.chg.seq + 1
      requests := (s.chg.requests.filter fun r => r.who ≠ who) ++ [⟨who, p, s.chg.seq + 1, 0⟩] } }

theorem place_workshop (p : Fin 8) (takes : takesPlacing .workshop s = true) :
    place .workshop p s = arbitrate (withRequest .workshop p s) := by
  unfold place
  rw [if_pos takes]
  simp only [withRequest, removeRequest_seq, removeRequest_requests]
  rfl

theorem withRequest_legal (who : Requester) (p : Fin 8) (h : RequestsLegal s) (takes : s.opState ≠ .config) :
    RequestsLegal (withRequest who p s) := by
  have others := removeRequest_legal who h
  obtain ⟨distinct, ordered, stamped, -⟩ := others
  rw [removeRequest_requests] at distinct ordered stamped
  rw [removeRequest_seq] at stamped
  refine ⟨?_, List.pairwise_append.2 ⟨ordered, List.pairwise_singleton _ _, fun a old b new => ?_⟩, fun r member => ?_,
    fun config => absurd ((removeRequest_frame who s .opState (by decide)).symm.trans config) takes⟩
  · show (List.map ChimeRequest.who (_ ++ [_])).Nodup
    rw [List.map_append, List.nodup_append]
    refine ⟨distinct, List.nodup_singleton _, fun a old b new => ?_⟩
    obtain ⟨r, member, rfl⟩ := List.mem_map.1 old
    obtain rfl := List.mem_singleton.1 new
    exact of_decide_eq_true (List.mem_filter.1 member).2
  · obtain rfl := List.mem_singleton.1 new
    exact Nat.lt_succ_of_le (stamped a old)
  · rcases List.mem_append.1 member with old | new
    · exact Nat.le_succ_of_le (stamped r old)
    · obtain rfl := List.mem_singleton.1 new
      exact le_refl _

theorem withRequest_frame (who : Requester) (p : Fin 8) (s : State) :
    ChangesOnly [.requests, .playing] s (withRequest who p s) := by
  refine (removeRequest_frame who s).trans ?_
  intro q hq
  cases q <;> first | exact OnlyQueues.of_same rfl rfl rfl rfl rfl | simp [Piece.kept, withRequest] at hq ⊢

end

end Sys2Proof.Machine
end

section
/-! PROOFS. The output tests of the workshop (R95, R127, R192, R193): what a test's end leaves, the checks of the three
services that start one, and the rows that end one. -/

namespace Sys2Proof.Machine

/-! ### The end of a test (R95, R127, R193) -/

section
variable {s t u : State}

/-- What the end of the test that runs in `s` leaves: no test and no timer, no workshop request behind a chime test, and
the filter of a tested gauge restarted at its pointer. -/
def TestEnded (s t : State) : Prop :=
  t.wsp.test = none ∧ t.wsp.testDue = none
    ∧ t.chg.requests = (if s.wsp.test = some .chime then s.chg.requests.filter (fun r => r.who ≠ .workshop)
        else s.chg.requests)
    ∧ (ChimeLegal s → ChimeLegal t)
    ∧ ∀ c, gaugeRun c t =
      if (gaugeTest c s).isSome ∧ (gaugeEntry c s).enabled = true ∧ s.opState = .run then
        { gaugeRun c s with f := 256 * (gaugeRun c s).p } else gaugeRun c s

/-- The part with no test, before the block that drove the test takes its output back. -/
def testStopped (s : State) : State := { s with wsp := { s.wsp with test := none, testDue := none } }

theorem endTest_none (test : s.wsp.test = none) : endTest s = s := by
  unfold endTest
  rw [test]

theorem endTest_telltale {o : Fin 32} {lit : Bool} (test : s.wsp.test = some (.telltale o lit)) :
    endTest s = testStopped s := by
  unfold endTest
  rw [test]
  rfl

theorem endTest_gauge {c : Fin 6} {position : Nat} (test : s.wsp.test = some (.gauge c position)) :
    endTest s = gdrEndTest c (testStopped s) := by
  unfold endTest
  rw [test]
  rfl

theorem endTest_chime (test : s.wsp.test = some .chime) : endTest s = withdraw .workshop (testStopped s) := by
  unfold endTest
  rw [test]
  rfl

theorem gaugeRun_gdrEndTest (c d : Fin 6) (s : State) : gaugeRun d (gdrEndTest c s)
    = if d = c ∧ (gaugeEntry c s).enabled = true ∧ s.opState = .run then restartFilter (gaugeRun c s)
      else gaugeRun d s := by
  unfold gdrEndTest
  by_cases drives : (gaugeEntry c s).enabled = true ∧ s.opState = .run
  · rw [if_pos drives, gaugeRun_setGaugeRun]
    simp only [drives, and_true]
  · rw [if_neg drives, if_neg fun own => drives own.2]

/-- A test that is none of a gauge's leaves every gauge as it is. -/
theorem TestEnded.no_gauge (none : ∀ c, gaugeTest c s = none) (c : Fin 6) :
    gaugeRun c s = if (gaugeTest c s).isSome ∧ (gaugeEntry c s).enabled = true ∧ s.opState = .run then
      { gaugeRun c s with f := 256 * (gaugeRun c s).p } else gaugeRun c s := by
  rw [none c]
  exact (if_neg fun gauge => nomatch gauge.1).symm

theorem endTest_ended (running : s.wsp.test ≠ none) : TestEnded s (endTest s) := by
  cases test : s.wsp.test with
  | none => exact absurd test running
  | some kind =>
    cases kind with
    | telltale o lit =>
      have none (c : Fin 6) : gaugeTest c s = none := by rw [gaugeTest, test]
      rw [endTest_telltale test]
      exact ⟨rfl, rfl, (if_neg (by simp [test])).symm, fun legal => legal.of_same rfl rfl, TestEnded.no_gauge none⟩
    | gauge c position =>
      have frame := gdrEndTest_frame c (testStopped s)
      have chg := frame.chg (by decide) (by decide) (by decide)
      obtain ⟨noTest, noTimer⟩ := frame .wsTest (by decide)
      rw [endTest_gauge test]
      refine ⟨noTest, noTimer, ?_, fun legal => legal.of_same chg (frame .opState (by decide)), fun d => ?_⟩
      · rw [chg, if_neg (by simp [test])]
        rfl
      · have tested : (gaugeTest d s).isSome = true ↔ d = c := by
          rw [gaugeTest, test]
          by_cases same : c = d
          · simp [same]
          · simp [same, Ne.symm same]
        rw [gaugeRun_gdrEndTest]
        simp only [tested]
        by_cases same : d = c
        · subst same
          rfl
        · simp only [same, false_and, if_false]
          rfl
    | chime =>
      have frame := withdraw_frame .workshop (testStopped s)
      have none (c : Fin 6) : gaugeTest c s = none := by rw [gaugeTest, test]
      obtain ⟨noTest, noTimer⟩ := frame .wsTest (by decide)
      rw [endTest_chime test]
      refine ⟨noTest, noTimer, ?_, fun legal => withdraw_chimeLegal _ (legal.of_same rfl rfl), fun c => ?_⟩
      · rw [withdraw_requests, if_pos test]
        rfl
      · rw [← TestEnded.no_gauge none c, gaugeRun, frame .gaugeRuns (by decide)]
        rfl

/-- The end of a test stands behind what concerns the response alone. -/
theorem TestEnded.of_frame (h : TestEnded s t) (frame : ChangesOnly [.wsResponse, .freeCount] t u) : TestEnded s u := by
  have chg := frame.chg (by decide) (by decide) (by decide)
  obtain ⟨sameTest, sameTimer⟩ := frame .wsTest (by decide)
  obtain ⟨test, timer, requests, legal, runs⟩ := h
  refine ⟨sameTest.trans test, sameTimer.trans timer, by rw [chg, requests],
    fun before => (legal before).of_same chg (frame .opState (by decide)), fun c => ?_⟩
  rw [← runs c, gaugeRun, frame .gaugeRuns (by decide)]
  rfl

/-! ### Requests behind the end of a test and the abandonment (R184, R186, R188) -/

/-- The part as a request finds it: a running test ended and a response in flight abandoned. -/
def requestReady (s : State) : State := abandonResponse (endTest s)

theorem requestReady_frame (s : State) :
    ChangesOnly [.wsTest, .gaugeRuns, .requests, .playing, .wsResponse, .freeCount] s (requestReady s) :=
  (endTest_frame s).comp (abandonResponse_frame _) (by decide) (by decide)

theorem requestReady_test (s : State) : (requestReady s).wsp.test = none :=
  (abandonResponse_frame _ .wsTest (by decide)).1.trans (endTest_test s)

theorem requestReady_abandoned (s : State) : ResponseAbandoned s (requestReady s) :=
  (abandonResponse_abandons (endTest s)).of_frames (endTest_frame s) (.refl [] _) (by decide) (by decide) (by decide)
    (by decide)

theorem requestReady_ended (running : s.wsp.test ≠ none) : TestEnded s (requestReady s) :=
  (endTest_ended running).of_frame (abandonResponse_frame _)

/-- Nothing to end and nothing to abandon. -/
theorem requestReady_idle (test : s.wsp.test = none) (response : s.wsp.response = none) : requestReady s = s := by
  rw [requestReady, endTest_none test, abandonResponse, response]
  rfl

theorem Arrives.of_frame {head : FrameHead} {data : List Byte} (h : Arrives head data s)
    (frame : ChangesOnly [.wsTest, .gaugeRuns, .requests, .playing, .wsResponse, .freeCount] s t) :
    Arrives head data t := by
  have settings : t.wsp.settings = s.wsp.settings := frame .wsSettings (by decide)
  have busOff : t.wsp.busOffUntil = s.wsp.busOffUntil := (frame .wsErrors (by decide)).2
  simpa only [Arrives, wsRunning, settings, busOff] using h

theorem exec_arrived {c : Instr} {head : FrameHead} {data : List Byte} (row : requestData c = some (head, data))
    (arrives : Arrives head data s) : exec c s = .next (serve data (requestReady s)) := by
  rw [exec_request row, takeRequest_arrives arrives]
  rfl

/-- The request is served as one that finds nothing to end. -/
theorem exec_cleared {c : Instr} {head : FrameHead} {data : List Byte} (row : requestData c = some (head, data))
    (arrives : Arrives head data s) : exec c s = exec c (requestReady s) := by
  rw [exec_arrived row arrives, exec_arrived row (arrives.of_frame (requestReady_frame s)),
    requestReady_idle (requestReady_test s) (requestReady_abandoned s).1]

/-! ### The services that start a test (R192) -/

theorem answerTest_refuses {test : Option OutputTest} {begin : State → State} :
    (s.opState ≠ .run → answerTest test begin s = refuse .state)
      ∧ (s.opState = .run → test = none → answerTest test begin s = refuse .range)
      ∧ (s.opState = .run → test.isSome = true → ¬standstill s = true → answerTest test begin s = refuse .moving) := by
  refine ⟨fun other => if_neg other, fun run none => ?_, fun run known moves => ?_⟩
  · subst none
    exact if_pos run
  · obtain ⟨kind, rfl⟩ := Option.isSome_iff_exists.1 known
    exact (if_pos run).trans (if_neg moves)

theorem answerTest_starts {test : OutputTest} {begin : State → State} (run : s.opState = .run)
    (still : standstill s = true) : answerTest (some test) begin s = accepted [] fun s => begin (startTest test s) :=
  (if_pos run).trans (if_pos still)

theorem toFin?_isSome (n x : Nat) : (toFin? n x).isSome = true ↔ x < n := by
  unfold toFin?
  split <;> simp [*]

theorem toFin?_val {n : Nat} (x : Fin n) : toFin? n x.val = some x := dif_pos x.isLt

/-- The test that a request names; `none` out of range, and for a service that starts none. -/
def namedTest (code : Nat) (params : List Byte) (s : State) : Option OutputTest :=
  match code with
  | 11 => (toFin? 32 (u8 params 0)).bind fun o =>
      if u8 params 1 ≤ 1 then some (.telltale o (u8 params 1 == 1)) else none
  | 12 => (toFin? 6 (u8 params 0)).map fun c => .gauge c (min (u16 params 1) (gaugeEntry c s).span)
  | 13 => (toFin? 8 (u8 params 0)).map fun _ => .chime
  | _ => none

theorem serviceOf_test {code n : Nat} (starts : (code, n) ∈ [(11, 2), (12, 3), (13, 1)]) (params : List Byte)
    (s : State) : ∃ begin, serviceOf code params s = some (n, answerTest (namedTest code params s) begin s) := by
  simp only [List.mem_cons, Prod.mk.injEq, List.not_mem_nil, or_false] at starts
  obtain ⟨rfl, rfl⟩ | ⟨rfl, rfl⟩ | ⟨rfl, rfl⟩ := starts
  · exact ⟨_, rfl⟩
  · exact ⟨_, rfl⟩
  · exact ⟨_, rfl⟩

theorem namedTelltale_isSome (params : List Byte) (s : State) :
    (namedTest 11 params s).isSome = true ↔ u8 params 0 ≤ 31 ∧ u8 params 1 ≤ 1 := by
  rw [← Nat.lt_succ_iff, ← toFin?_isSome, namedTest]
  cases toFin? 32 (u8 params 0) with
  | none => simp
  | some o => by_cases bit : u8 params 1 ≤ 1 <;> simp [bit]

theorem namedGauge_isSome (params : List Byte) (s : State) :
    (namedTest 12 params s).isSome = true ↔ u8 params 0 ≤ 5 := by
  rw [← Nat.lt_succ_iff, ← toFin?_isSome, namedTest, Option.isSome_map]

theorem namedChime_isSome (params : List Byte) (s : State) :
    (namedTest 13 params s).isSome = true ↔ u8 params 0 ≤ 7 := by
  rw [← Nat.lt_succ_iff, ← toFin?_isSome, namedTest, Option.isSome_map]

/-- The parameters of the service are in their range. -/
theorem namedTest_isSome {code : Byte} {n : Nat} (starts : (code.toNat, n) ∈ [(11, 2), (12, 3), (13, 1)])
    (params : List Byte) (s : State) : (namedTest code.toNat params s).isSome = true ↔
      (code = 11 ∧ u8 params 0 ≤ 31 ∧ u8 params 1 ≤ 1) ∨ (code = 12 ∧ u8 params 0 ≤ 5)
        ∨ (code = 13 ∧ u8 params 0 ≤ 7) := by
  simp only [List.mem_cons, Prod.mk.injEq, List.not_mem_nil, or_false] at starts
  obtain ⟨is, -⟩ | ⟨is, -⟩ | ⟨is, -⟩ := starts
  · obtain rfl : code = 11 := BitVec.eq_of_toNat_eq is
    simpa using namedTelltale_isSome params s
  · obtain rfl : code = 12 := BitVec.eq_of_toNat_eq is
    simpa using namedGauge_isSome params s
  · obtain rfl : code = 13 := BitVec.eq_of_toNat_eq is
    simpa using namedChime_isSome params s

end

end Sys2Proof.Machine
end

section
/-! PROOFS. The output tests run and end (R95, R127, R192, R193). -/

namespace Sys2Proof.Machine

section
variable {s t : State} {head : FrameHead}

/-! ### The three services at the ready port (R192) -/

/-- The three refusals, in the order of the checks. -/
theorem exec_test_refused {c : Instr} {code : Byte} {params : List Byte} {n : Nat} (ready : WorkshopReady s)
    (row : requestData c = some (head, code :: params)) (arrives : Arrives head (code :: params) s)
    (starts : (code.toNat, n) ∈ [(11, 2), (12, 3), (13, 1)]) (long : n ≤ params.length) :
    (s.opState ≠ .run → exec c s = .next (startResponse code .state [] s))
      ∧ (s.opState = .run → namedTest code.toNat params s = none →
        exec c s = .next (startResponse code .range [] s))
      ∧ (s.opState = .run → (namedTest code.toNat params s).isSome = true → ¬standstill s = true →
        exec c s = .next (startResponse code .moving [] s)) := by
  obtain ⟨begin, service⟩ := serviceOf_test starts params s
  obtain ⟨idle, unknown, moving⟩ := answerTest_refuses (s := s) (test := namedTest code.toNat params s) (begin := begin)
  have served := exec_served ready arrives row service long
  refine ⟨fun other => ?_, fun run none => ?_, fun run known moves => ?_⟩
  · rw [served, idle other]
    rfl
  · rw [served, unknown run none]
    rfl
  · rw [served, moving run known moves]
    rfl

/-- A test that passes its checks starts, and its output is driven behind that. -/
theorem exec_test_started {c : Instr} {code : Byte} {params : List Byte} {n : Nat} {test : OutputTest}
    {begin : State → State} (ready : WorkshopReady s) (row : requestData c = some (head, code :: params))
    (arrives : Arrives head (code :: params) s) (run : s.opState = .run) (still : standstill s = true)
    (service : serviceOf code.toNat params s = some (n, answerTest (some test) begin s)) (long : n ≤ params.length) :
    exec c s = .next (startResponse code .ok [] (begin (startTest test s))) := by
  rw [exec_served ready arrives row service long, answerTest_starts run still]
  rfl

/-- The test runs for 10 s, and the response tells that it has begun. -/
def TestRuns (code : Byte) (test : OutputTest) (s t : State) : Prop :=
  t.wsp.test = some test ∧ t.wsp.testDue = some (s.now + 10000000)
    ∧ t.wsp.response = some ⟨segmentsOf code .ok [], none⟩

theorem testRuns_of_frame {ps : List Piece} {code : Byte} {test : OutputTest} (frame : ChangesOnly ps (startTest test s) t)
    (kept : Piece.wsTest ∉ ps) : TestRuns code test s (startResponse code .ok [] t) := by
  obtain ⟨sameTest, sameTimer⟩ := frame .wsTest kept
  refine ⟨sameTest, sameTimer.trans ?_, rfl⟩
  show some (s.now + 1000 * 10000) = _
  rfl

theorem begun_frame {ps qs : List Piece} (code : Byte) {test : OutputTest} (frame : ChangesOnly ps (startTest test s) t)
    (testing : [.wsTest, .wsResponse] ⊆ qs) (drives : ps ⊆ qs) :
    ChangesOnly qs s (startResponse code .ok [] t) :=
  (((startTest_frame test s).mono fun _ h => testing (by simp_all)).trans (frame.mono drives)).trans
    ((startResponse_frame code .ok [] t).mono fun _ h => testing (by simp_all))

theorem u8_cons_ofNat {k : Nat} (fits : k < 256) (l : List Byte) : u8 (BitVec.ofNat 8 k :: l) 0 = k :=
  Nat.mod_eq_of_lt fits

theorem bitNat_lt (b : Bool) : bitNat b < 2 := by cases b <;> decide

/-- The workshop's request is placed and CHG arbitrates once (R122, R127). -/
theorem place_workshop_frame (p : Fin 8) (takes : takesPlacing .workshop s = true) :
    ChangesOnly [.requests, .playing] s (place .workshop p s) := by
  rw [place_workshop p takes]
  exact (withRequest_frame .workshop p s).trans ((arbitrate_frame _).mono (by decide))

theorem takesPlacing_run (run : s.opState = .run) (who : Requester) : takesPlacing who s = true := by
  rw [takesPlacing, run]

theorem telltaleService (o : Fin 32) (lit : Bool) (more : List Byte) (s : State) :
    serviceOf (11 : Byte).toNat (BitVec.ofNat 8 o.val :: BitVec.ofNat 8 (bitNat lit) :: more) s
      = some (2, answerTest (some (.telltale o lit)) id s) := by
  have output := u8_cons_ofNat (k := o.val) (by omega) (BitVec.ofNat 8 (bitNat lit) :: more)
  have level : u8 (BitVec.ofNat 8 o.val :: BitVec.ofNat 8 (bitNat lit) :: more) 1 = bitNat lit :=
    u8_cons_ofNat (Nat.lt_trans (bitNat_lt lit) (by decide)) more
  show some (2, answerTestTelltale _ s) = _
  rw [answerTestTelltale, output, level, toFin?_val]
  cases lit <;> rfl

theorem gaugeService (c : Fin 6) (b d : Byte) (more : List Byte) (s : State) :
    serviceOf (12 : Byte).toNat (BitVec.ofNat 8 c.val :: b :: d :: more) s
      = some (3, answerTest (some (.gauge c (min (b.toNat + 256 * d.toNat) (gaugeEntry c s).span))) id s) := by
  show some (3, answerTestGauge _ s) = _
  rw [answerTestGauge, u8_cons_ofNat (k := c.val) (by omega), toFin?_val]
  rfl

theorem chimeService (p : Fin 8) (more : List Byte) (s : State) :
    serviceOf (13 : Byte).toNat (BitVec.ofNat 8 p.val :: more) s
      = some (1, answerTest (some .chime) (place .workshop p) s) := by
  show some (1, answerTestChime _ s) = _
  rw [answerTestChime, u8_cons_ofNat (k := p.val) (by omega), toFin?_val]
  rfl

/-- A placing of the workshop in RUN leaves the invariant of the chime generator (R122, R124). -/
theorem place_workshop_chimeLegal (p : Fin 8) (run : s.opState = .run) (legal : ChimeLegal s) :
    ChimeLegal (place .workshop p s) := by
  rw [place_workshop p (takesPlacing_run run _)]
  refine (withRequest_legal _ p legal.requestsLegal fun config => ?_).arbitrate_chimeLegal
  exact absurd (run.symm.trans config) (by decide)

/-- TEST_CHIME starts its test with the workshop's request behind those of all others (R127, R192). -/
theorem exec_testChime_started (ready : WorkshopReady s) (run : s.opState = .run) (still : standstill s = true)
    (p : Fin 8) (more : List Byte) (arrives : Arrives head (13 :: BitVec.ofNat 8 p.val :: more) s) :
    ∃ t, exec (.testChime ⟨head, BitVec.ofNat 8 p.val :: more⟩) s = .next t ∧ TestRuns 13 .chime s t
      ∧ t.chg.requests = s.chg.requests.filter (fun r => r.who ≠ .workshop) ++ [⟨.workshop, p, s.chg.seq + 1, 0⟩]
      ∧ (ChimeLegal s → ChimeLegal t)
      ∧ ChangesOnly [.requests, .playing, .wsTest, .wsResponse] s t := by
  have takes : takesPlacing .workshop (startTest .chime s) = true := takesPlacing_run run _
  have frame := place_workshop_frame p takes
  refine ⟨_, exec_test_started ready rfl arrives run still (chimeService p more s) (by simp),
    testRuns_of_frame frame (by decide), ?_, fun legal => ?_, begun_frame 13 frame (by decide) (by decide)⟩
  · show (place .workshop p (startTest .chime s)).chg.requests = _
    rw [place_workshop p takes, arbitrate_requests]
    rfl
  · have begun : ChimeLegal (startTest .chime s) := legal.of_same rfl rfl
    exact (place_workshop_chimeLegal (s := startTest .chime s) p run begun).of_same rfl rfl

/-! ### The rows that end a test (R193) -/

theorem exec_testEnd_ended {params : List Byte} (arrives : Arrives head (14 :: params) s) (running : s.wsp.test ≠ none) :
    ∃ t, exec (.testEnd ⟨head, params⟩) s = .next t ∧ TestEnded s t
      ∧ t.wsp.response = some ⟨segmentsOf 14 .ok [], none⟩
      ∧ ChangesOnly [.wsTest, .gaugeRuns, .requests, .playing, .wsResponse, .freeCount] s t :=
  have responds := startResponse_frame 14 .ok [] (requestReady s)
  ⟨_, exec_arrived rfl arrives, (requestReady_ended running).of_frame (responds.mono (by decide)), rfl,
    (requestReady_frame s).trans (responds.mono (by decide))⟩

/-- No response in flight: there is nothing to abandon (R188). -/
theorem requestReady_silent (response : s.wsp.response = none) : requestReady s = endTest s := by
  rw [requestReady, abandonResponse, (endTest_frame s .wsResponse (by decide)).1, response]
  rfl

/-- A segment left of an abandoned response is the one that stood at the port (R188). -/
theorem requestReady_orphan (s : State) : (requestReady s).wsp.orphan = s.wsp.orphan ∨ (s.wsp.orphan = none
    ∧ ∃ seg rest, s.wsp.response = some ⟨seg :: rest, none⟩ ∧ (requestReady s).wsp.orphan = some seg) := by
  obtain ⟨-, same | ⟨none, left⟩, -⟩ := requestReady_abandoned s
  · exact .inl same
  · by_cases stands : ∃ seg rest, s.wsp.response = some ⟨seg :: rest, .none⟩
    · obtain ⟨seg, rest, standing⟩ := stands
      exact .inr ⟨none, seg, rest, standing, left.trans (segmentAtPort_eq_some standing)⟩
    · have absent : segmentAtPort s = .none := segmentAtPort_eq_none fun seg rest standing => stands ⟨seg, rest, standing⟩
      exact .inl (by rw [left, absent, none])

/-- The timer of a test, where no test runs or the timer is not due. -/
theorem exec_testTimerExpiry_idle (idle : s.wsp.test = none ∨ ∀ d, s.wsp.testDue = some d → s.now < d) :
    exec .testTimerExpiry s = .next s := by
  show (if isDue s.wsp.testDue s then _ else _) = _
  rcases idle with test | early
  · rw [endTest_none test, ite_self]
  · rw [not_isDue early]
    rfl

theorem atThreeKmh_iff (s : State) : atThreeKmh s = true ↔
    (s.slot vehicleSpeed).quality.usable = true ∧ 300 ≤ (s.slot vehicleSpeed).value := by
  simp [atThreeKmh]

/-- The notification is taken, and ends a test at 3 km/h (R193). -/
theorem exec_wspSpeedNotification (s : State) : exec .wspSpeedNotification s
    = .next (if atThreeKmh s then endTest (takeArrival .wspSpeedNotification s)
        else takeArrival .wspSpeedNotification s) := rfl

end

/-- Settles O53, by what a test's end leaves (`TestEnded`) and the part as a request finds it (`requestReady`). -/
theorem outputTestsRunAndEnd : Obligations.OutputTestsRunAndEnd := by
  intro s
  simp only
  refine ⟨fun ready head => ⟨fun c code params n row arrives starts long => ?_, fun run still =>
    ⟨fun o lit more arrives => ?_, fun c b d more arrives => ?_,
      fun p more => exec_testChime_started ready run ((standstill_iff s).2 still) p more⟩⟩,
    fun head params arrives => ⟨fun test response => ?_, exec_testEnd_ended arrives⟩, fun c head data row arrives =>
      ⟨requestReady s, exec_cleared row arrives, (requestReady_abandoned s).1, requestReady_ended, fun test => ?_,
        fun response => ?_, requestReady_orphan s, requestReady_frame s⟩,
    fun d running timer due => ?_, exec_testTimerExpiry_idle, fun usable fast running => ?_, fun slow => ?_⟩
  · obtain ⟨idle, unknown, moving⟩ := exec_test_refused ready row arrives starts long
    have named := namedTest_isSome starts params s
    refine ⟨idle, fun run range => unknown run ?_, fun run inside moves => moving run (named.2 inside) fun still =>
      moves ((standstill_iff s).1 still)⟩
    rw [← Option.not_isSome_iff_eq_none, named]
    rintro (⟨rfl, output, level⟩ | ⟨rfl, channel⟩ | ⟨rfl, pattern⟩) <;> simp at range <;> omega
  · exact ⟨_, exec_test_started ready rfl arrives run ((standstill_iff s).2 still) (telltaleService o lit more s) (by simp),
      testRuns_of_frame (.refl [] _) (by decide), begun_frame 11 (.refl [] _) (by decide) (by decide)⟩
  · exact ⟨_, exec_test_started ready rfl arrives run ((standstill_iff s).2 still) (gaugeService c b d more s) (by simp),
      testRuns_of_frame (.refl [] _) (by decide), begun_frame 12 (.refl [] _) (by decide) (by decide)⟩
  · rw [exec_arrived rfl arrives, requestReady_idle test response]
    rfl
  · rw [requestReady, endTest_none test]
    exact abandonResponse_frame s
  · rw [requestReady_silent response]
    exact ⟨(endTest_frame s .wsResponse (by decide)).2, endTest_frame s .freeCount (by decide)⟩
  · have expires : isDue s.wsp.testDue s = true := by
      rw [timer]
      exact isDue_of_le due
    exact ⟨endTest s, if_pos expires, endTest_ended running, endTest_frame s⟩
  · have taken := takeArrival_frame .wspSpeedNotification s
    refine ⟨endTest (takeArrival .wspSpeedNotification s), ?_, endTest_ended running,
      taken.comp (endTest_frame _) (by decide) (by decide)⟩
    rw [exec_wspSpeedNotification, if_pos ((atThreeKmh_iff s).2 ⟨usable, fast⟩)]
  · rw [exec_wspSpeedNotification]
    rcases slow with slow | test
    · exact congrArg _ (if_neg fun fast => slow ((atThreeKmh_iff s).1 fast))
    · rw [endTest_none (s := takeArrival .wspSpeedNotification s) test, ite_self]
      rfl

end Sys2Proof.Machine
end

section
/-! PROOFS. The table writes that RUN takes (R84, R120, R149, R175): what each does to its block, behind the response and
before the event that tells of the change. -/

namespace Sys2Proof.Machine

/-! ### A write told of in RUN (R169, R172, R175) -/

section
variable {s t : State} {c : Instr} {k : Byte} {rest : List Byte} {table index : Nat} {ps : List Piece}
variable {write : State → State}

theorem inConfigRun_of (state : s.opState = .config ∨ s.opState = .run) : inConfigRun s.opState = true := by
  rcases state with state | state <;> rw [state] <;> rfl

theorem tellChanged_queued (held : sendingHeld s = true) (table index : Nat) :
    Queued (if s.opState = .run then [.configChanged table index] else []) s (tellChanged table index s) := by
  unfold tellChanged
  split
  · exact queueEvent_queued held _
  · exact Queued.nil s

/-- The part behind the response and a write that RUN takes too. -/
def tableWritten (table index : Nat) (write : State → State) (s : State) : State :=
  tellChanged table index (write (respond 0x01 .ok [] s))

theorem tableWritten_frame (frame : ∀ u, ChangesOnly ps u (write u)) (s : State) :
    ChangesOnly (ps ++ sending) (respond 0x01 .ok [] s) (tableWritten table index write s) :=
  (frame _).comp (tellChanged_frame _ _ _) (List.subset_append_left _ _) (List.subset_append_right _ _)

/-- The event follows what the response leaves of the queue. -/
theorem tableWritten_queued (frame : ∀ u, ChangesOnly ps u (write u)) (queues : Piece.queues ∉ ps)
    (events : Piece.events ∉ ps) (opState : Piece.opState ∉ ps) (s : State) :
    Queued (if s.opState = .run then [.configChanged table index] else []) s (tableWritten table index write s) := by
  have effect := frame (respond 0x01 .ok [] s)
  have held := (effect .queues queues).held (respond_held 0x01 .ok [] s)
  obtain ⟨sameEvents, sameOverrun⟩ := effect .events events
  have state : (write (respond 0x01 .ok [] s)).opState = s.opState :=
    (effect .opState opState).trans (respond_frame 0x01 .ok [] s .opState (by decide))
  have told := tellChanged_queued held table index
  rw [state] at told
  exact ((respond_queued 0x01 .ok [] s).of_same sameEvents sameOverrun).append told

/-- The answer, the event and the frame of such a write. -/
theorem exec_tableWritten (row : managementRecord c = some ⟨0x01, k :: rest⟩) (ready : LinkReady s)
    (answer : answerRecord ⟨0x01, k :: rest⟩ s = accepted [] fun u => tellChanged table index (write u))
    (frame : ∀ u, ChangesOnly ps u (write u)) (queues : Piece.queues ∉ ps) :
    exec c s = .next (tableWritten table index write s)
      ∧ Answered 0x01 .ok [] s (tableWritten table index write s)
      ∧ ChangesOnly (answering ++ ps ++ sending) s (tableWritten table index write s) := by
  have effect := tableWritten_frame (table := table) (index := index) frame s
  have apart : Piece.queues ∉ ps ++ sending := fun among =>
    (List.mem_append.1 among).elim queues (by decide)
  refine ⟨exec_accepted row ready (heldRecord_of_kind (by decide) _ s) answer, (answered_after effect apart).1, ?_⟩
  rw [List.append_assoc]
  exact answered_frame effect

end

/-! ### Completed requests (R120, R126, R142) -/

section
variable {s t : State}

theorem markHeld_chg (who : Requester) (b : Bool) (s : State) : (markHeld who b s).chg = s.chg :=
  (markHeld_frame who b s).chg (by decide) (by decide) (by decide)

theorem portalRun_markHeld (who : Requester) (q : Fin 4) (s : State) : portalRun q (markHeld who false s)
    = { portalRun q s with held := (portalRun q s).held && !decide (who = .portal q) } := by
  cases who with
  | portal p =>
    show portalRun q (setPortalRun p { portalRun p s with held := false } s) = _
    rw [portalRun_setPortalRun]
    by_cases same : q = p
    · subst same
      simp
    · have other : ¬p = q := fun h => same h.symm
      simp [same, other]
  | warning i => simp [markHeld]
  | display => simp [markHeld]
  | workshop => simp [markHeld]

/-- One of the requests is the requester's. -/
def holdsOne (l : List ChimeRequest) (who : Requester) : Bool := l.any fun r => decide (r.who = who)

theorem finish_requests (s : State) (r : ChimeRequest) :
    (finish s r).chg.requests = s.chg.requests.filter fun x => x.who ≠ r.who := by
  rw [finish, markHeld_chg, removeRequest_requests]

theorem finish_playing (s : State) (r : ChimeRequest) :
    (finish s r).chg.playing = s.chg.playing.filter fun b => b.who ≠ r.who := by
  rw [finish, markHeld_chg, removeRequest_playing]

theorem finish_portalRun (s : State) (r : ChimeRequest) (q : Fin 4) : portalRun q (finish s r)
    = { portalRun q s with held := (portalRun q s).held && !decide (r.who = .portal q) } := by
  have portals : (removeRequest r.who s).drm.portals = s.drm.portals := removeRequest_frame r.who s .portals (by decide)
  rw [finish, portalRun_markHeld]
  simp only [portalRun, portals]

theorem finished_requests (l : List ChimeRequest) (s : State) :
    (l.foldl finish s).chg.requests = s.chg.requests.filter fun x => !holdsOne l x.who := by
  induction l generalizing s with
  | nil => simp [holdsOne]
  | cons r l ih =>
    rw [List.foldl_cons, ih, finish_requests, List.filter_filter]
    refine List.filter_congr fun x _ => ?_
    simp [holdsOne, eq_comm, Bool.and_comm]

theorem finished_playing (l : List ChimeRequest) (s : State) :
    (l.foldl finish s).chg.playing = s.chg.playing.filter fun b => !holdsOne l b.who := by
  induction l generalizing s with
  | nil =>
    show s.chg.playing = s.chg.playing.filter fun _ => true
    cases s.chg.playing <;> rfl
  | cons r l ih =>
    rw [List.foldl_cons, ih, finish_playing, Option.filter_filter]
    congr 1
    funext b
    simp [holdsOne, eq_comm]

theorem finished_portalRun (l : List ChimeRequest) (s : State) (q : Fin 4) : portalRun q (l.foldl finish s)
    = { portalRun q s with held := (portalRun q s).held && !holdsOne l (.portal q) } := by
  induction l generalizing s with
  | nil => simp [holdsOne]
  | cons r l ih =>
    rw [List.foldl_cons, ih, finish_portalRun]
    simp [holdsOne, Bool.and_assoc]

theorem finished_legal (l : List ChimeRequest) (h : RequestsLegal s) : RequestsLegal (l.foldl finish s) := by
  induction l generalizing s with
  | nil => exact h
  | cons r l ih =>
    exact ih ((removeRequest_legal r.who h).of_same (by rw [finish, markHeld_chg]) (by rw [finish, markHeld_chg])
      (markHeld_frame r.who false _ .opState (by decide)))

end

end Sys2Proof.Machine
end

section
/-! PROOFS. PATTERN_TABLE_WRITE, and with it the three table writes that RUN takes (R84, R120, R149). -/

namespace Sys2Proof.Machine

/-! ### What a pattern write does to the chime generator (R120, R126) -/

section
variable {s t : State} {p : Fin 8} {e : PatternEntry}

/-- The new entry completes a request of its pattern (R120, R126). -/
def completes (p : Fin 8) (e : PatternEntry) (r : ChimeRequest) : Bool :=
  decide (r.pattern = p) && decide (e.repeats ≠ 0) && decide (e.repeats ≤ r.count)

/-- A burst of the pattern is cut (R120). -/
def cutsBurst (p : Fin 8) (s : State) (b : Playing) : Bool :=
  s.chg.requests.any fun r => decide (r.who = b.who) && decide (r.pattern = p)

/-- The entry loaded, before the chime generator acts on it. -/
def patternLoaded (p : Fin 8) (e : PatternEntry) (s : State) : State :=
  { s with chg := { s.chg with table := s.chg.table.set p (some e) } }

/-- The playing request of the pattern cut. -/
def patternCut (p : Fin 8) (s : State) : State :=
  if ((playingWho s).bind fun who => requestOf who s).any fun r => r.pattern = p then silence s else s

/-- The chime generator as it arbitrates behind a pattern write in RUN. -/
def patternActed (p : Fin 8) (e : PatternEntry) (s : State) : State :=
  (s.chg.requests.filter (completes p e)).foldl finish (patternCut p (patternLoaded p e s))

theorem patternCut_chg (p : Fin 8) (s : State) : (patternCut p s).chg.requests = s.chg.requests
    ∧ (patternCut p s).chg.seq = s.chg.seq ∧ (patternCut p s).chg.table = s.chg.table := by
  unfold patternCut
  split <;> exact ⟨rfl, rfl, rfl⟩

theorem patternCut_frame (p : Fin 8) (s : State) : ChangesOnly [.playing] s (patternCut p s) :=
  .ite (fun _ => silence_frame s) fun _ => .refl _ s

theorem patternOf_patternLoaded (p : Fin 8) (e : PatternEntry) (s : State) :
    patternOf p (patternLoaded p e s) = e := by
  simp [patternOf, patternLoaded]

theorem complete_of_pattern {r : ChimeRequest} (table : t.chg.table = (patternLoaded p e s).chg.table) :
    (decide (r.pattern = p) && complete t r) = completes p e r := by
  by_cases same : r.pattern = p
  · have entry : patternOf p t = e := by
      rw [patternOf, table]
      exact patternOf_patternLoaded p e s
    simp only [complete, completes, entry, same, decide_true, Bool.true_and]
  · simp only [completes, same, decide_false, Bool.false_and]

theorem writePattern_config (config : s.opState = .config) : writePattern p e s = patternLoaded p e s := if_pos config

theorem writePattern_acted (acts : s.opState ≠ .config) : writePattern p e s = arbitrate (patternActed p e s) := by
  obtain ⟨requests, -, table⟩ := patternCut_chg p (patternLoaded p e s)
  have done : (patternCut p (patternLoaded p e s)).chg.requests.filter
      (fun r => decide (r.pattern = p) && complete (patternCut p (patternLoaded p e s)) r)
        = s.chg.requests.filter (completes p e) := by
    rw [requests]
    exact List.filter_congr fun r _ => complete_of_pattern table
  rw [patternActed, ← done]
  exact if_neg acts

theorem requestOf_eq_some {who : Requester} {r : ChimeRequest} (found : requestOf who s = some r) :
    r ∈ s.chg.requests ∧ r.who = who := by
  unfold requestOf at found
  have own := List.find?_some found
  exact ⟨List.mem_of_find?_eq_some found, of_decide_eq_true own⟩

/-- A requester's request is of the pattern, by the one that the generator finds. -/
theorem requestOf_any (h : RequestsLegal s) (who : Requester) (f : ChimeRequest → Bool) :
    (requestOf who s).any f = s.chg.requests.any fun r => decide (r.who = who) && f r := by
  rw [Bool.eq_iff_iff, List.any_eq_true, Option.any_eq_true]
  constructor
  · rintro ⟨r, found, holds⟩
    obtain ⟨member, own⟩ := requestOf_eq_some found
    exact ⟨r, member, Bool.and_eq_true_iff.2 ⟨decide_eq_true own, holds⟩⟩
  · rintro ⟨r, member, both⟩
    obtain ⟨own, holds⟩ := Bool.and_eq_true_iff.1 both
    obtain ⟨x, found⟩ := Option.isSome_iff_exists.1 ((requestOf_isSome who s).2 ⟨r, member, of_decide_eq_true own⟩)
    obtain ⟨held, hers⟩ := requestOf_eq_some found
    obtain rfl := h.who_injective held member (hers.trans (of_decide_eq_true own).symm)
    exact ⟨x, found, holds⟩

theorem patternCut_playing (h : RequestsLegal s) (p : Fin 8) :
    (patternCut p s).chg.playing = s.chg.playing.filter fun b => !cutsBurst p s b := by
  unfold patternCut
  cases plays : s.chg.playing with
  | none =>
    split
    · rfl
    · exact plays
  | some b =>
    have playing : playingWho s = some b.who := by rw [playingWho, plays]; rfl
    rw [playing, Option.bind_some, requestOf_any h]
    show (if cutsBurst p s b = true then silence s else s).chg.playing = _
    by_cases cut : cutsBurst p s b = true
    · simp [cut, silence, Option.filter]
    · simp [cut, plays, Option.filter]

/-! ### Behind the arbitration -/

theorem patternLoaded_legal (h : RequestsLegal s) : RequestsLegal (patternLoaded p e s) := h.of_same rfl rfl rfl

theorem patternActed_legal (h : RequestsLegal s) : RequestsLegal (patternActed p e s) := by
  obtain ⟨requests, seq, -⟩ := patternCut_chg p (patternLoaded p e s)
  exact finished_legal _ ((patternLoaded_legal h).of_same requests seq (patternCut_frame p _ .opState (by decide)))

theorem patternActed_requests (p : Fin 8) (e : PatternEntry) (s : State) : (patternActed p e s).chg.requests
    = s.chg.requests.filter fun r => !holdsOne (s.chg.requests.filter (completes p e)) r.who := by
  rw [patternActed, finished_requests, (patternCut_chg p _).1]
  rfl

/-- With one request for a requester, the completed ones are those that are removed. -/
theorem holdsOne_completes (h : RequestsLegal s) {r : ChimeRequest} (member : r ∈ s.chg.requests) :
    holdsOne (s.chg.requests.filter (completes p e)) r.who = completes p e r := by
  rw [Bool.eq_iff_iff, holdsOne, List.any_eq_true]
  constructor
  · rintro ⟨x, among, same⟩
    obtain ⟨held, done⟩ := List.mem_filter.1 among
    obtain rfl := h.who_injective held member (of_decide_eq_true same)
    exact done
  · exact fun done => ⟨r, List.mem_filter.2 ⟨member, done⟩, decide_eq_true rfl⟩

/-- A requester of a completed request is one whose burst is cut. -/
theorem cutsBurst_of_completed {b : Playing} (done : holdsOne (s.chg.requests.filter (completes p e)) b.who = true) :
    cutsBurst p s b = true := by
  obtain ⟨r, among, same⟩ := List.any_eq_true.1 done
  obtain ⟨member, complete⟩ := List.mem_filter.1 among
  simp only [completes, Bool.and_eq_true] at complete
  obtain ⟨⟨pattern, -⟩, -⟩ := complete
  exact List.any_eq_true.2 ⟨r, member, by rw [same, pattern]; rfl⟩

theorem writePattern_table (p : Fin 8) (e : PatternEntry) (s : State) :
    (writePattern p e s).chg.table = s.chg.table.set p (some e) := by
  by_cases config : s.opState = .config
  · rw [writePattern_config config]
    rfl
  · have frame : ChangesOnly chiming (patternLoaded p e s) (patternActed p e s) :=
      ((patternCut_frame p _).mono (by decide)).trans (ChangesOnly.foldl finish_frame _ _)
    rw [writePattern_acted config, arbitrate_frame _ .patternTable (by decide), frame .patternTable (by decide)]
    rfl

/-- A pattern write places no request. -/
theorem writePattern_requests (p : Fin 8) (e : PatternEntry) (s : State) :
    (writePattern p e s).chg.requests ⊆ s.chg.requests := by
  by_cases config : s.opState = .config
  · rw [writePattern_config config]
    exact List.Subset.refl _
  · rw [writePattern_acted config, arbitrate_requests, patternActed_requests]
    exact List.filter_subset_self _

theorem patternActed_playing (h : RequestsLegal s) (p : Fin 8) (e : PatternEntry) :
    (patternActed p e s).chg.playing = s.chg.playing.filter fun b => !cutsBurst p s b := by
  rw [patternActed, finished_playing, patternCut_playing (patternLoaded_legal h), Option.filter_filter]
  show s.chg.playing.filter (fun b => !cutsBurst p s b && !holdsOne _ b.who) = _
  congr 1
  funext b
  cases cut : cutsBurst p s b with
  | true => rfl
  | false =>
    have stays := mt (cutsBurst_of_completed (e := e)) (Bool.eq_false_iff.1 cut)
    simp [stays]

theorem patternActed_portalRun (p : Fin 8) (e : PatternEntry) (s : State) (q : Fin 4) :
    portalRun q (patternActed p e s) = { portalRun q s with
      held := (portalRun q s).held
        && !(s.chg.requests.any fun r => decide (r.who = .portal q) && completes p e r) } := by
  have portals : (patternCut p (patternLoaded p e s)).drm.portals = s.drm.portals :=
    patternCut_frame p (patternLoaded p e s) .portals (by decide)
  rw [patternActed, finished_portalRun, holdsOne, List.any_filter]
  simp only [portalRun, portals, Bool.and_comm]

theorem patternActed_now (p : Fin 8) (e : PatternEntry) (s : State) : (patternActed p e s).now = s.now :=
  (ChangesOnly.foldl finish_frame _ _ .now (by decide)).trans
    (patternCut_frame p (patternLoaded p e s) .now (by decide))

end

/-! ### The three writes (R84, R120, R149, R175) -/

section
variable {rest : List Byte} {s : State}

/-- The event of a table and the entry written: CONFIG_CHANGED, in RUN alone (R175). -/
def changeTold (table : Nat) (rest : List Byte) (s : State) : List Event :=
  if s.opState = .run then [.configChanged table (u8 rest 0)] else []

theorem gaugeTableWrite_loads (ready : LinkReady s) (state : s.opState = .config ∨ s.opState = .run) (c : Fin 6)
    (e : GaugeEntry) (length : rest.length = 17) (index : u8 rest 0 = c.val)
    (entry : readGaugeEntry (rest.drop 1) = some e) :
    ∃ t, exec (.gaugeTableWrite rest) s = .next t ∧ Answered 0x01 .ok [] s t
      ∧ t.gdr.table = s.gdr.table.set c (some e)
      ∧ gaugeRun c t = rewrittenRun e (gaugeRun c s)
      ∧ (∀ k ≠ c, gaugeRun k t = gaugeRun k s)
      ∧ gaugeTest c t = (gaugeTest c s).map (fun position => min position e.span)
      ∧ Queued (changeTold 7 rest s) s t
      ∧ ChangesOnly (answering ++ [.gaugeTable, .gaugeRuns, .wsTest] ++ sending) s t := by
  have answer : answerRecord ⟨0x01, 7 :: rest⟩ s = accepted [] fun u => tellChanged 7 c (writeGauge c e u) :=
    tableWrite_ok (len := 16) (ok := inConfigRun) (read := fun _ => readGaugeEntry)
      (write := fun c e s => tellChanged 7 c (writeGauge c e s)) length (inConfigRun_of state) index entry
  obtain ⟨next, answered, frame⟩ := exec_tableWritten (c := .gaugeTableWrite rest) rfl ready answer (writeGauge_frame c e) (by decide)
  have told := tellChanged_frame 7 c (writeGauge c e (respond 0x01 .ok [] s))
  have inert := respond_frame 0x01 .ok [] s
  have runs : (respond 0x01 .ok [] s).gdr.run = s.gdr.run := inert .gaugeRuns (by decide)
  have run (k : Fin 6) : gaugeRun k (tableWritten 7 c (writeGauge c e) s)
      = if k = c then rewrittenRun e (gaugeRun c s) else gaugeRun k s := by
    rw [gaugeRun, tableWritten, told .gaugeRuns (by decide)]
    exact (gaugeRun_writeGauge c k e _).trans (by simp only [gaugeRun, runs])
  refine ⟨_, next, answered, ?_, (run c).trans (if_pos rfl), fun k other => (run k).trans (if_neg other), ?_, ?_, frame⟩
  · rw [tableWritten, told .gaugeTable (by decide), writeGauge_table, inert .gaugeTable (by decide)]
  · rw [tableWritten, gaugeTest_eq (told .wsTest (by decide)).1 c, gaugeTest_writeGauge, gaugeTest_eq (inert .wsTest (by decide)).1 c]
  · rw [changeTold, index]
    exact tableWritten_queued (writeGauge_frame c e) (by decide) (by decide) (by decide) s

theorem classTableWrite_loads (ready : LinkReady s) (state : s.opState = .config ∨ s.opState = .run) (c : Fin 16)
    (e : ClassEntry) (length : rest.length = 8) (index : u8 rest 0 = c.val)
    (entry : readClass (rest.drop 1) = some e) :
    ∃ t, exec (.faultClassTableWrite rest) s = .next t ∧ Answered 0x01 .ok [] s t
      ∧ t.flt.table = s.flt.table.set c (some e) ∧ Queued (changeTold 10 rest s) s t
      ∧ ChangesOnly (answering ++ .classTable :: sending) s t := by
  have answer : answerRecord ⟨0x01, 10 :: rest⟩ s = accepted [] fun u => tellChanged 10 c (writeClass c e u) :=
    tableWrite_ok (len := 7) (ok := inConfigRun) (read := fun _ => readClass)
      (write := fun c e s => tellChanged 10 c (writeClass c e s)) length (inConfigRun_of state) index entry
  obtain ⟨next, answered, frame⟩ := exec_tableWritten (c := .faultClassTableWrite rest) rfl ready answer (writeClass_frame c e) (by decide)
  refine ⟨_, next, answered, ?_, ?_, frame⟩
  · rw [tableWritten, tellChanged_frame 10 c _ .classTable (by decide)]
    show (respond 0x01 .ok [] s).flt.table.set c (some e) = _
    rw [respond_frame 0x01 .ok [] s .classTable (by decide)]
  · rw [changeTold, index]
    exact tableWritten_queued (writeClass_frame c e) (by decide) (by decide) (by decide) s

/-- A pattern write behind the response, in CONFIG: the entry alone. -/
theorem patternWritten_config (config : s.opState = .config) (p : Fin 8) (e : PatternEntry) :
    tableWritten 9 p (writePattern p e) s = patternLoaded p e (respond 0x01 .ok [] s) := by
  have state : (respond 0x01 .ok [] s).opState = .config :=
    (respond_frame 0x01 .ok [] s .opState (by decide)).trans config
  rw [tableWritten, writePattern_config state]
  refine if_neg fun run => ?_
  exact absurd (state.symm.trans run) (by decide)

theorem respond_parts (k : Byte) (r : Result) (d : List Byte) (s : State) : (respond k r d s).chg = s.chg
    ∧ (respond k r d s).drm = s.drm ∧ (respond k r d s).now = s.now ∧ (respond k r d s).opState = s.opState := by
  rw [respond_eq]
  exact ⟨rfl, rfl, rfl, rfl⟩

theorem patternWritten_run (run : s.opState = .run) (legal : RequestsLegal s) (p : Fin 8) (e : PatternEntry) :
    let t := tableWritten 9 p (writePattern p e) s
    t.chg.requests = s.chg.requests.filter (fun r => !completes p e r)
      ∧ WinnerPlays (s.chg.playing.filter fun b => !cutsBurst p s b) t
      ∧ ∀ q : Fin 4, portalRun q t = { portalRun q s with
          held := (portalRun q s).held
            && !(s.chg.requests.any fun r => decide (r.who = .portal q) && completes p e r) } := by
  intro t
  obtain ⟨chg, drm, now, state⟩ := respond_parts 0x01 .ok [] s
  have legalThere : RequestsLegal (respond 0x01 .ok [] s) := legal.of_same (by rw [chg]) (by rw [chg]) state
  have acts : (respond 0x01 .ok [] s).opState ≠ .config := by rw [state, run]; decide
  have told := tellChanged_frame 9 p (writePattern p e (respond 0x01 .ok [] s))
  rw [writePattern_acted acts] at told
  have written : t = tellChanged 9 p (arbitrate (patternActed p e (respond 0x01 .ok [] s))) := by
    rw [← writePattern_acted acts]
    rfl
  rw [← written] at told
  have sameChg := told.chg (by decide) (by decide) (by decide)
  refine ⟨?_, ?_, fun q => ?_⟩
  · rw [sameChg, arbitrate_requests, patternActed_requests, chg]
    exact List.filter_congr fun r member => by rw [holdsOne_completes legal member]
  · have plays := arbitrate_winnerPlays (patternActed_legal (p := p) (e := e) legalThere)
    rw [patternActed_playing legalThere, chg] at plays
    simpa only [cutsBurst, chg] using plays.of_same sameChg (told .now (by decide))
  · have portals : t.drm.portals = (patternActed p e (respond 0x01 .ok [] s)).drm.portals :=
      (told .portals (by decide)).trans (arbitrate_frame _ .portals (by decide))
    rw [portalRun, portals]
    refine (patternActed_portalRun p e (respond 0x01 .ok [] s) q).trans ?_
    simp only [portalRun, drm, chg]

theorem patternTableWrite_loads (ready : LinkReady s) (state : s.opState = .config ∨ s.opState = .run) (p : Fin 8)
    (e : PatternEntry) (length : rest.length = 9) (index : u8 rest 0 = p.val)
    (entry : readPattern (rest.drop 1) = some e) :
    ∃ t, exec (.patternTableWrite rest) s = .next t ∧ Answered 0x01 .ok [] s t
      ∧ t.chg.table = s.chg.table.set p (some e)
      ∧ (s.opState = .config → t.chg.requests = s.chg.requests ∧ t.chg.playing = s.chg.playing ∧ t.drm = s.drm)
      ∧ (s.opState = .run → ChimeLegal s →
          t.chg.requests = s.chg.requests.filter (fun r => !completes p e r)
          ∧ WinnerPlays (s.chg.playing.filter fun b => !cutsBurst p s b) t
          ∧ ∀ q : Fin 4, portalRun q t = { portalRun q s with
              held := (portalRun q s).held
                && !(s.chg.requests.any fun r => decide (r.who = .portal q) && completes p e r) })
      ∧ (∀ r, r ∈ t.chg.requests → r ∈ s.chg.requests)
      ∧ Queued (changeTold 9 rest s) s t
      ∧ ChangesOnly (answering ++ .patternTable :: chiming ++ sending) s t := by
  have answer : answerRecord ⟨0x01, 9 :: rest⟩ s = accepted [] fun u => tellChanged 9 p (writePattern p e u) :=
    tableWrite_ok (len := 8) (ok := inConfigRun) (read := fun _ => readPattern)
      (write := fun p e s => tellChanged 9 p (writePattern p e s)) length (inConfigRun_of state) index entry
  obtain ⟨next, answered, frame⟩ :=
    exec_tableWritten (c := .patternTableWrite rest) rfl ready answer (writePattern_frame p e) (by decide)
  have told := (tellChanged_frame 9 p (writePattern p e (respond 0x01 .ok [] s))).chg (by decide) (by decide) (by decide)
  obtain ⟨chg, drm, -, -⟩ := respond_parts 0x01 .ok [] s
  refine ⟨_, next, answered, ?_, fun config => ?_, fun run legal => patternWritten_run run legal.requestsLegal p e,
    fun r among => ?_, ?_, frame⟩
  · rw [tableWritten, told, writePattern_table, chg]
  · rw [patternWritten_config config, ← chg, ← drm]
    exact ⟨rfl, rfl, rfl⟩
  · rw [tableWritten, told] at among
    rw [← chg]
    exact writePattern_requests p e _ among
  · rw [changeTold, index]
    exact tableWritten_queued (writePattern_frame p e) (by decide) (by decide) (by decide) s

end

/-- Settles O14, the three writes each by what it does to its block. -/
theorem runTableWritesLoad : Obligations.RunTableWritesLoad := by
  intro rest s ready state
  exact ⟨fun c e length index entry => gaugeTableWrite_loads ready state c e length index entry,
    fun p e length index entry => patternTableWrite_loads ready state p e length index entry,
    fun c e length index entry => classTableWrite_loads ready state c e length index entry⟩

end Sys2Proof.Machine
end

section
/-! PROOFS. The telltale outputs (R114, R115) and OBSERVED_READ_CLEAR (R109). -/

namespace Sys2Proof.Machine

section
variable {s : State} {o : Fin 32}

/-! ### Telltales (R114, R115) -/

/-- A loaded, enabled entry that names the output. -/
def NamesOutput (o : Fin 32) (s : State) (i : Fin 96) (e : WarnEntry) : Prop :=
  warnEntry i s = some e ∧ e.enabled = true ∧ e.telltale = some o

/-- An entry that names the output flashes it (R114). -/
def OutputFlashes (o : Fin 32) (s : State) : Prop :=
  ∃ i e, NamesOutput o s i e ∧ e.flash = true ∧ (warnRun i s).state = .onUnack

/-- The entries an output is composed of. -/
def composedOf (o : Fin 32) (s : State) : List (Fin 96) :=
  (indices 96).filter fun i => (warnEntry i s).any fun e => e.enabled && decide (e.telltale = some o)

theorem mem_composedOf (i : Fin 96) : i ∈ composedOf o s ↔ ∃ e, NamesOutput o s i e := by
  simp [composedOf, NamesOutput, mem_indices, Option.any_eq_true]

theorem outputFlashes_iff : ((composedOf o s).any fun i =>
    decide ((warnRun i s).state = .onUnack) && (warnEntry i s).any WarnEntry.flash) = true ↔ OutputFlashes o s := by
  simp only [List.any_eq_true, mem_composedOf, Bool.and_eq_true, decide_eq_true_eq, Option.any_eq_true]
  constructor
  · rintro ⟨i, ⟨e, named⟩, on, d, loaded, flash⟩
    obtain rfl : d = e := Option.some.inj (loaded.symm.trans named.1)
    exact ⟨i, d, named, flash, on⟩
  · rintro ⟨i, e, named, flash, on⟩
    exact ⟨i, ⟨e, named⟩, on, e, named.1, flash⟩

theorem composition_flashing (flashes : OutputFlashes o s) : composition o s = s.wrn.flashLit :=
  if_pos (outputFlashes_iff.2 flashes)

theorem composition_steady (steady : ¬OutputFlashes o s) : composition o s = true ↔
    ∃ i e, NamesOutput o s i e ∧ (warnRun i s).state ≠ .off ∧ (warnRun i s).state ≠ .onDelay := by
  have spelled : composition o s = (composedOf o s).any (inActiveList s) :=
    if_neg fun flashes => steady (outputFlashes_iff.1 flashes)
  rw [spelled, List.any_eq_true]
  refine exists_congr fun i => ?_
  rw [mem_composedOf, inActiveList, Bool.and_eq_true, inList_iff, ← exists_and_right]
  refine exists_congr fun e => and_congr_right fun ⟨loaded, enabled, _⟩ => and_iff_right ?_
  rw [warnEnabled, loaded, Option.elim_some, enabled]

theorem telltaleLit_tested {lit : Bool} (still : s.opState ≠ .sweep) (test : s.wsp.test = some (.telltale o lit)) :
    telltaleLit o s = lit := by
  rw [telltaleLit, if_neg still, test]
  exact if_pos rfl

/-- Any other test, and none, leaves the output to its composition (R115). -/
theorem telltaleLit_composed (still : s.opState ≠ .sweep) (free : ∀ lit, s.wsp.test ≠ some (.telltale o lit)) :
    telltaleLit o s = composition o s := by
  rw [telltaleLit, if_neg still]
  cases running : s.wsp.test with
  | none => rfl
  | some test =>
    cases test with
    | telltale other lit =>
      refine if_neg fun same => free lit ?_
      rw [running, same]
    | gauge channel position => rfl
    | chime => rfl

end

/-- Settles O43: sweep, workshop test, composition. -/
theorem telltalesAreComposed : Obligations.TelltalesAreComposed := by
  intro o s
  refine ⟨fun sweep => if_pos sweep, fun still => ⟨fun lit test => telltaleLit_tested still test, fun free => ?_⟩⟩
  rw [telltaleLit_composed still free]
  exact ⟨fun flashing => composition_flashing flashing, fun steady => composition_steady steady⟩

/-! ### OBSERVED_READ_CLEAR (R109) -/

section
variable {s : State}

theorem flagsNat_testBit (l : List Bool) (k : Nat) : (flagsNat l).testBit k = l.getD k false := by
  induction l generalizing k with
  | nil => simp [flagsNat]
  | cons b l ih =>
    have bit : flagsNat (b :: l) = Nat.bit b (flagsNat l) := by cases b <;> simp [flagsNat, bitNat, Nat.bit, Nat.add_comm]
    rw [bit]
    cases k with
    | zero => simp
    | succ k => rw [Nat.testBit_bit_succ, ih, List.getD_cons_succ]

/-- The byte that holds a flag, and its bit there (section 12.4). -/
theorem packFlags_bit (l : List Bool) {k : Nat} (small : k < l.length) :
    ((packFlags l.length l).getD (k / 8) 0).getLsbD (k % 8) = l.getD k false := by
  have bytes : packFlags l.length l = (List.range ((l.length + 7) / 8)).map
      fun j => BitVec.ofNat 8 (flagsNat ((l.drop (8 * j)).take 8)) := List.map_eq_flatMap.symm
  have place : k / 8 < (l.length + 7) / 8 := by omega
  have bit : k % 8 < 8 := Nat.mod_lt k (by decide)
  rw [bytes, List.getD_eq_getElem?_getD, List.getElem?_map, List.getElem?_range place, Option.map_some, Option.getD_some,
    BitVec.getLsbD_ofNat, flagsNat_testBit, List.getD_eq_getElem?_getD, List.getElem?_take, List.getElem?_drop,
    Nat.div_add_mod, if_pos bit, List.getD_eq_getElem?_getD, decide_eq_true bit, Bool.true_and]

theorem observedFlags_length (first count : Nat) : (observedFlags first count s).length = count := by
  simp [observedFlags]

theorem observedFlags_at {first count k : Nat} {i : Fin 96} (small : k < count) (at_k : i.val = first + k) :
    (observedFlags first count s).getD k false = (warnRun i s).observed := by
  rw [observedFlags, List.getD_eq_getElem?_getD, List.getElem?_map, List.getElem?_range small, Option.map_some,
    Option.getD_some, ← at_k, toFin?_val, Option.any_some]

/-- A run-time state with its observed flag cleared. -/
def unobserved (r : WarnRun) : WarnRun := { r with observed := false }

/-- One entry's part in the clearing of a range. -/
def clearOne (first count : Nat) (s : State) (i : Fin 96) : State :=
  if first ≤ i.val ∧ i.val < first + count then setWarnRun i (unobserved (warnRun i s)) s else s

theorem clearOne_run (first count : Nat) (s : State) (j i : Fin 96) : warnRun i (clearOne first count s j)
    = if i = j ∧ first ≤ i.val ∧ i.val < first + count then unobserved (warnRun i s) else warnRun i s := by
  unfold clearOne
  by_cases same : i = j
  · subst same
    by_cases inside : first ≤ i.val ∧ i.val < first + count
    · rw [if_pos inside, if_pos ⟨rfl, inside⟩, warnRun_setWarnRun, if_pos rfl]
    · rw [if_neg inside, if_neg fun h => inside h.2]
  · have apart : ¬(i = j ∧ first ≤ i.val ∧ i.val < first + count) := fun h => same h.1
    rw [if_neg apart]
    split
    · rw [warnRun_setWarnRun, if_neg same]
    · rfl

theorem clearAll_run (first count : Nat) (l : List (Fin 96)) (s : State) (i : Fin 96) :
    warnRun i (l.foldl (clearOne first count) s)
      = if i ∈ l ∧ first ≤ i.val ∧ i.val < first + count then unobserved (warnRun i s) else warnRun i s := by
  induction l generalizing s with
  | nil => simp
  | cons j l ih =>
    rw [List.foldl_cons, ih, clearOne_run]
    by_cases inside : first ≤ i.val ∧ i.val < first + count
    · by_cases same : i = j
      · have listed : i ∈ j :: l ∧ first ≤ i.val ∧ i.val < first + count := ⟨List.mem_cons.2 (.inl same), inside⟩
        rw [if_pos (And.intro same inside), if_pos listed]
        exact ite_self _
      · simp [inside, same]
    · simp [inside]

/-- The flags of the range are cleared, and nothing else of the entries changes (R109). -/
theorem clearObserved_run (first count : Nat) (i : Fin 96) : warnRun i (clearObserved first count s)
    = { warnRun i s with
        observed := (warnRun i s).observed && !(decide (first ≤ i.val) && decide (i.val < first + count)) } := by
  have spelled : clearObserved first count s = (indices 96).foldl (clearOne first count) s := rfl
  rw [spelled, clearAll_run, ← Bool.decide_and]
  by_cases inside : first ≤ i.val ∧ i.val < first + count
  · rw [if_pos ⟨mem_indices 96 i, inside⟩, decide_eq_true inside, Bool.not_true, Bool.and_false]
    rfl
  · rw [if_neg fun h => inside h.2, decide_eq_false inside, Bool.not_false, Bool.and_true]

theorem withLength_self (body : List Byte) (a : Answer) : withLength body.length body a = a := if_pos rfl

theorem answerObserved_within {first count : Byte}
    (within : first.toNat ≤ 95 ∧ 1 ≤ count.toNat ∧ first.toNat + count.toNat ≤ 96) :
    answerRecord ⟨0x0A, [first, count]⟩ s
      = accepted (first :: count :: packFlags count.toNat (observedFlags first.toNat count.toNat s))
        (clearObserved first.toNat count.toNat) := by
  obtain ⟨start, nonempty, stop⟩ := within
  show withLength [first, count].length [first, count] (if first.toNat ≤ 95 ∧ 1 ≤ count.toNat ∧ count.toNat ≤ 96
    ∧ first.toNat + count.toNat ≤ 96 then _ else _) = _
  rw [withLength_self, if_pos ⟨start, nonempty, by omega, stop⟩]
  show accepted (e8 first.toNat ++ e8 count.toNat ++ _) _ = _
  rw [e8_toNat, e8_toNat]
  rfl

theorem answerObserved_beyond {first count : Byte}
    (beyond : ¬(first.toNat ≤ 95 ∧ 1 ≤ count.toNat ∧ first.toNat + count.toNat ≤ 96)) :
    answerRecord ⟨0x0A, [first, count]⟩ s = refuse .range := by
  show withLength [first, count].length [first, count] (if first.toNat ≤ 95 ∧ 1 ≤ count.toNat ∧ count.toNat ≤ 96
    ∧ first.toNat + count.toNat ≤ 96 then _ else _) = _
  rw [withLength_self, if_neg fun ⟨start, nonempty, _, stop⟩ => beyond ⟨start, nonempty, stop⟩]

end

/-- Settles O23: the range refused, and the range taken and cleared. -/
theorem observedReadClearTakesFlags : Obligations.ObservedReadClearTakesFlags := by
  intro first count s ready
  have free := heldRecord_of_kind (kind := 0x0A) (by decide) [first, count] s
  refine ⟨fun beyond => exec_refused rfl ready free (answerObserved_beyond beyond), fun within => ?_⟩
  have frame (u : State) := clearObserved_frame first.toNat count.toNat u
  refine ⟨_, packFlags count.toNat (observedFlags first.toNat count.toNat s),
    exec_accepted rfl ready free (answerObserved_within within), (answered_after (frame _) (by decide)).1,
    fun k i small at_k => ?_, fun i => ?_, answered_frame (frame _)⟩
  · have packed := packFlags_bit (observedFlags first.toNat count.toNat s) (k := k) (by rwa [observedFlags_length])
    rw [observedFlags_length] at packed
    exact packed.trans (observedFlags_at small at_k)
  · rw [clearObserved_run, warnRun_eq (respond_frame 0x0A .ok _ s .warnRuns (by decide))]

end Sys2Proof.Machine
end

section
/-! PROOFS. A change of state of one warning entry: its events, and what it leaves (R104, R107, R108, R112). -/

namespace Sys2Proof.Machine

/-! ### The events of a change (R107, R112) -/

section
variable {i j : Fin 96} {r : WarnRun} {c : Option (Fin 8)} {b : Bool} {s t : State}

/-- What leaves the events alone queues none. -/
theorem ChangesOnly.queuedNil {ps : List Piece} (h : ChangesOnly ps s t) (events : Piece.events ∉ ps) : Queued [] s t :=
  (Queued.nil s).of_same (h .events events).1 (h .events events).2

theorem ownEvent_eq (table : t.wrn.table = s.wrn.table) (run : t.wrn.run = s.wrn.run) : ownEvent i t = ownEvent i s := by
  rw [ownEvent, ownEvent, warnRun_eq run, topWarning_eq table run]

/-- A new top's event depends on the top reported before and on the entries behind it. -/
theorem topEvents_eq {s' t' : State} (top : s'.wrn.reportedTop = s.wrn.reportedTop) (table : t'.wrn.table = t.wrn.table)
    (run : t'.wrn.run = t.wrn.run) : topEvents i s' t' = topEvents i s t := by
  simp only [topEvents, top, topWarning_eq table run, warnRun_eq run]

/-- The part with its top warning noted as reported. -/
def noteTop (s : State) : State := { s with wrn := { s.wrn with reportedTop := topWarning s } }

theorem topWarning_noteTop (s : State) : topWarning (noteTop s) = topWarning s := topWarning_eq (t := noteTop s) rfl rfl

theorem reportTop_same (same : topWarning s = s.wrn.reportedTop) : reportTop i s = s := if_pos same

theorem reportTop_silent (fresh : topWarning s ≠ s.wrn.reportedTop) (silent : topWarning s = none ∨ topWarning s = some i) :
    reportTop i s = noteTop s := by
  rw [reportTop, if_neg fresh]
  rcases silent with top | top <;> simp only [noteTop, top, if_true]

theorem reportTop_other (fresh : topWarning s ≠ s.wrn.reportedTop) (top : topWarning s = some j) (other : j ≠ i) :
    reportTop i s = queueEvent (warningEvent j (noteTop s)) (noteTop s) := by
  rw [reportTop, if_neg fresh]
  simp only [noteTop, top, if_neg other]

theorem reportTop_queued (i : Fin 96) (held : sendingHeld s = true) :
    Queued (topEvents i s (reportTop i s)) s (reportTop i s) := by
  have wrn := reportTop_wrn i s
  rw [topEvents_eq (s := s) (t := s) rfl (by rw [wrn]) (by rw [wrn]), topEvents]
  by_cases same : topWarning s = s.wrn.reportedTop
  · rw [reportTop_same same, ← same]
    cases topWarning s with
    | none => exact .nil s
    | some j => simpa using Queued.nil s
  · cases top : topWarning s with
    | none =>
      rw [reportTop_silent same (.inl top)]
      exact Queued.nil s
    | some j =>
      have fresh : s.wrn.reportedTop ≠ some j := fun reported => same (top.trans reported.symm)
      simp only [fresh, false_or]
      by_cases own : j = i
      · rw [if_pos own, reportTop_silent same (.inr (own ▸ top))]
        exact Queued.nil s
      · have event : warningEvent j (noteTop s) = .warning j (warnRun j s).state (warnRun j s).unknown true := by
          rw [warningEvent, topWarning_noteTop, top, decide_eq_true rfl]
          rfl
        rw [if_neg own, reportTop_other same top own, event]
        exact queueEvent_queued (s := noteTop s) held _

theorem takeRun_reportedTop (i : Fin 96) (r : WarnRun) (s : State) :
    (takeRun i r s).wrn.reportedTop = s.wrn.reportedTop := by
  unfold takeRun joinList
  split
  · simp only
    split <;> rfl
  · rfl

/-- The events of a change, in their order: the entry's own where it is told, and that of a new top (R107, R112). -/
theorem changeRun_events (held : sendingHeld s = true) :
    Queued ((if b then [ownEvent i (changeRun i r c b s)] else []) ++ topEvents i s (changeRun i r c b s)) s
      (changeRun i r c b s) := by
  set u := post (chimeNotices i c (warnRun i s).state r.state) (writeLength (listLength s) (takeRun i r s)) with hu
  have before : ChangesOnly (.warnRuns :: .warnList :: writing) s u := by
    refine ((takeRun_frame i r s).mono (by decide)).trans ?_
    exact ((writeLength_frame _ _).mono (by decide)).trans ((post_frame _ _).mono (by decide))
  have heldU : sendingHeld u = true := (before .queues (by decide)).held held
  have told : Queued (if b then [warningEvent i u] else []) s (tellRunChange i r c b s) := by
    have spelled : tellRunChange i r c b s = if b then queueEvent (warningEvent i u) u else u := rfl
    have silent : Queued [] s u := before.queuedNil (by decide)
    rw [spelled]
    by_cases on : b = true
    · rw [if_pos on, if_pos on]
      exact silent.append (queueEvent_queued heldU _)
    · rw [if_neg on, if_neg on]
      exact silent
  have frame : ChangesOnly sending u (tellRunChange i r c b s) :=
    .ite (fun _ => queueEvent_frame _ u) fun _ => .refl _ u
  have top := reportTop_queued i ((frame .queues (by decide)).held heldU)
  have wrn : (tellRunChange i r c b s).wrn = u.wrn := frame.wrn (by decide) (by decide) (by decide) (by decide)
  have reported : (tellRunChange i r c b s).wrn.reportedTop = s.wrn.reportedTop := by
    rw [wrn]
    exact (writeLength_frame _ _ .warnList (by decide)).2.trans (takeRun_reportedTop i r s)
  have last := reportTop_wrn i (tellRunChange i r c b s)
  have own : ownEvent i (changeRun i r c b s) = warningEvent i u := by
    rw [changeRun_eq]
    exact ownEvent_eq (s := u) (by rw [last, wrn]) (by rw [last, wrn])
  rw [own]
  rw [topEvents_eq (s := s) (t := changeRun i r c b s) reported (by rw [changeRun_eq]) (by rw [changeRun_eq])] at top
  exact told.append top

end

/-! ### A change of state (R104, R108) -/

/-- The run-time state that a change to the state `new` leaves. -/
def movedRun (e : WarnEntry) (new : WarnState) (s : State) (r : WarnRun) : WarnRun :=
  if r.state = new then r
  else { r with state := new, timer := loadedTimer e r new s, observed := r.observed || decide (r.state = .off) }

section
variable {i j : Fin 96} {e : WarnEntry} {new : WarnState} {s t : State}

theorem movedRun_state (r : WarnRun) : (movedRun e new s r).state = new := by
  unfold movedRun
  split
  · assumption
  · rfl

theorem movedRun_kept (r : WarnRun) : (movedRun e new s r).truth = r.truth ∧ (movedRun e new s r).cond = r.cond
    ∧ (movedRun e new s r).unknown = r.unknown ∧ (movedRun e new s r).join = r.join := by
  unfold movedRun
  split <;> exact ⟨rfl, rfl, rfl, rfl⟩

theorem movedRun_timer (r : WarnRun) :
    (movedRun e new s r).timer = if r.state = new then r.timer else loadedTimer e r new s := by
  unfold movedRun
  split <;> rfl

theorem movedRun_observed (r : WarnRun) :
    (movedRun e new s r).observed = (r.observed || (decide (r.state = .off) && decide (r.state ≠ new))) := by
  unfold movedRun
  split
  · rename_i same
    simp [same]
  · rename_i other
    simp [other]

theorem changeState_eq (i : Fin 96) (e : WarnEntry) (new : WarnState) (s : State) : changeState i e new s
    = if (warnRun i s).state = new then s else changeRun i (movedRun e new s (warnRun i s)) e.chime true s := by
  unfold changeState movedRun
  simp only
  split <;> rfl

/-- A change of state replaces the run-time state of its entry and no other's, apart from the join sequences. -/
theorem changeState_run (j : Fin 96) : unjoined (warnRun j (changeState i e new s))
    = if j = i then unjoined (movedRun e new s (warnRun i s)) else unjoined (warnRun j s) := by
  rw [changeState_eq]
  split
  · rename_i stays
    rw [movedRun, if_pos stays]
    split
    · rename_i same
      rw [same]
    · rfl
  · exact changeRun_run

theorem changeState_state : (warnRun i (changeState i e new s)).state = new := by
  have run := changeState_run (i := i) (e := e) (new := new) (s := s) i
  rw [if_pos rfl] at run
  exact (state_of_unjoined run).trans (movedRun_state _)

theorem changeState_moves (moves : (warnRun i (changeState i e new s)).state ≠ (warnRun i s).state) :
    changeState i e new s = changeRun i (movedRun e new s (warnRun i s)) e.chime true s := by
  rw [changeState_eq, if_neg]
  rw [changeState_state] at moves
  exact fun stays => moves stays.symm

theorem changeState_stays (stays : (warnRun i (changeState i e new s)).state = (warnRun i s).state) :
    changeState i e new s = s := by
  rw [changeState_eq, if_pos]
  rw [changeState_state] at stays
  exact stays.symm

theorem changeState_followed (entry : warnEntry i s = some e) (enabled : e.enabled = true)
    (moves : (warnRun i (changeState i e new s)).state ≠ (warnRun i s).state) :
    EntryFollowed i s (changeState i e new s) := by
  rw [changeState_moves moves]
  exact changeRun_followed entry enabled (movedRun_kept _).2.2.2

theorem changeState_events (held : sendingHeld s = true)
    (moves : (warnRun i (changeState i e new s)).state ≠ (warnRun i s).state) :
    Queued (ownEvent i (changeState i e new s) :: topEvents i s (changeState i e new s)) s (changeState i e new s) := by
  have change := changeRun_events (i := i) (r := movedRun e new s (warnRun i s)) (c := e.chime) (b := true) held
  rw [← changeState_moves moves, if_pos rfl] at change
  exact change

/-- An enabled entry that is evaluated in the operating state may move: the warning unit stays legal. -/
theorem WarningsLegal.of_move (h : WarningsLegal s) (frame : ChangesOnly warning s t) (followed : ListFollowed t)
    (entry : warnEntry i s = some e) (enabled : e.enabled = true) (now : EvaluatedNow e s)
    (others : ∀ j ≠ i, unjoined (warnRun j t) = unjoined (warnRun j s)) : WarningsLegal t := by
  obtain ⟨value, quality, top⟩ := followed
  rw [← activeList_length] at value
  obtain ⟨disabled, -, parked, -⟩ := h
  have op : t.opState = s.opState := frame .opState (by decide)
  have running : t.opState ≠ .config := op ▸ now.notConfig
  have entries (j : Fin 96) : warnEntry j t = warnEntry j s := warnEntry_eq (frame .warnTable (by decide)) j
  refine ⟨fun j off => ?_, fun config => absurd config running, fun inPark j d loaded outside => ?_, value, quality, top⟩
  · have offS : warnEnabled j s = false := by
      rw [warnEnabled, entries] at off
      exact off.resolve_right running
    have other : j ≠ i := by
      rintro rfl
      rw [warnEnabled, entry, Option.elim_some, enabled] at offS
      cases offS
    obtain ⟨state, timer, -⟩ := fields_of_unjoined (others j other)
    rw [state, timer]
    exact disabled j (.inl offS)
  · rw [op] at inPark
    rw [entries] at loaded
    rw [carried_iff (frame .signalTable (by decide)) (frame .lineTable (by decide))] at outside
    have other : j ≠ i := by
      rintro rfl
      obtain rfl : d = e := Option.some.inj (loaded.symm.trans entry)
      rcases now with run | sweep | ⟨-, carried⟩
      · simp [inPark] at run
      · simp [inPark] at sweep
      · exact outside carried
    obtain ⟨state, timer, truth, -, cond, -⟩ := fields_of_unjoined (others j other)
    rw [state, timer, truth, cond]
    exact parked inPark j d loaded outside

theorem changeState_listFollowed (h : ListFollowed s) : ListFollowed (changeState i e new s) := by
  rw [changeState_eq]
  split
  · exact h
  · exact changeRun_listFollowed h

theorem changeState_warningsLegal (h : WarningsLegal s) (entry : warnEntry i s = some e) (enabled : e.enabled = true)
    (now : EvaluatedNow e s) : WarningsLegal (changeState i e new s) :=
  h.of_move (changeState_frame i e new s) (changeState_listFollowed h.listFollowed) entry enabled now
    fun j other => by rw [changeState_run, if_neg other]

/-! ### WARNING_TIMER_EXPIRY (R105) -/

theorem exec_warningTimerExpiry_due {d : Nat} (entry : warnEntry i s = some e) (enabled : e.enabled = true)
    (now : EvaluatedNow e s) (timer : (warnRun i s).timer = some d) (due : d ≤ s.now) :
    exec (.warningTimerExpiry i) s = .next (changeState i e (onExpiry e (warnRun i s).state) s) := by
  show execWarningTimerExpiry i s = _
  rw [execWarningTimerExpiry, entry]
  simp only
  rw [if_pos]
  rw [enabled, (evaluatedNow_iff e s).2 now, timer, isDue_of_le due]
  rfl

theorem exec_warningTimerExpiry_idle (idle : ∀ e, warnEntry i s = some e →
    e.enabled = false ∨ ¬EvaluatedNow e s ∨ ∀ d, (warnRun i s).timer = some d → s.now < d) :
    exec (.warningTimerExpiry i) s = .next s := by
  show execWarningTimerExpiry i s = _
  unfold execWarningTimerExpiry
  split
  · rfl
  · rename_i e entry
    refine if_neg fun expires => ?_
    rw [Bool.and_eq_true, Bool.and_eq_true, evaluatedNow_iff] at expires
    obtain ⟨⟨enabled, now⟩, due⟩ := expires
    rcases idle e entry with disabled | apart | early
    · simp [disabled] at enabled
    · exact apart now
    · simp [not_isDue early] at due

/-- The timer behind an expiry (R104, R105). -/
theorem movedRun_onExpiry_timer (r : WarnRun) :
    (r.state = .onDelay → (movedRun e (onExpiry e r.state) s r).timer
      = if e.ackRequired = false ∧ e.reminder ≠ 0 then some (s.now + 1000000 * e.reminder) else none)
    ∧ (r.state = .onAck ∨ r.state = .offDelayUnacked ∨ r.state = .offDelayAcked →
      (movedRun e (onExpiry e r.state) s r).timer = none) := by
  rw [movedRun_timer]
  refine ⟨fun delayed => ?_, fun others => ?_⟩
  · rw [delayed]
    cases ack : e.ackRequired <;> by_cases none : e.reminder = 0 <;> simp [onExpiry, shown, loadedTimer, ack, none]
  · rcases others with state | state | state <;> rw [state] <;> rfl

end

/-- Settles O42: the timer that is due, the timers that move nothing, and the flash clock. -/
theorem warningTimersMoveEntries : Obligations.WarningTimersMoveEntries := by
  intro s
  refine ⟨fun i e d entry enabled now timer due => ?_, fun i idle => ?_, fun i early => ?_, fun due => if_pos due,
    fun early => if_neg (Nat.not_le.2 early)⟩
  · have own := changeState_run (i := i) (e := e) (new := onExpiry e (warnRun i s).state) (s := s) i
    rw [if_pos rfl] at own
    obtain ⟨-, timerT, truthT, unknownT, condT, -⟩ := fields_of_unjoined own
    obtain ⟨truth, cond, unknown, -⟩ := movedRun_kept (e := e) (new := onExpiry e (warnRun i s).state) (s := s) (warnRun i s)
    obtain ⟨delayed, ended⟩ := movedRun_onExpiry_timer (e := e) (s := s) (warnRun i s)
    refine ⟨_, exec_warningTimerExpiry_due entry enabled now timer due, ?_, ?_, ?_, truthT.trans truth, condT.trans cond,
      unknownT.trans unknown, fun j other => ?_, fun moves => ⟨changeState_followed entry enabled moves, fun held =>
        changeState_events held moves⟩, fun legal => changeState_warningsLegal legal entry enabled now,
      changeState_frame _ _ _ s⟩
    · rw [changeState_state]
      cases (warnRun i s).state <;> rfl
    · rwa [timerT]
    · rwa [timerT]
    · have run := changeState_run (i := i) (e := e) (new := onExpiry e (warnRun i s).state) (s := s) j
      rw [if_neg other] at run
      obtain ⟨state, timer, -⟩ := fields_of_unjoined run
      exact ⟨state, timer⟩
  · refine exec_warningTimerExpiry_idle fun e entry => ?_
    exact (idle e entry).imp_right .inl
  · exact exec_warningTimerExpiry_idle fun e _ => .inr (.inr early)

end Sys2Proof.Machine
end

section
/-! PROOFS. WARNING_ACK: one entry acknowledged, and several one behind the other (R106). -/

namespace Sys2Proof.Machine

section
variable {i j : Fin 96} {s t : State}

/-! ### One entry -/

/-- The run-time state an acknowledgement leaves of an entry (R106). -/
def ackedRun (s : State) (i : Fin 96) : WarnRun :=
  if warnEnabled i s then
    movedRun ((warnEntry i s).getD .unloaded) (onAcknowledge (warnRun i s).state) s (warnRun i s)
  else warnRun i s

/-- What an acknowledgement keeps of an entry, and the timer it is left with (R104, R106). -/
def KeptByAck (i : Fin 96) (s : State) (r : WarnRun) : Prop :=
  r.truth = (warnRun i s).truth ∧ r.unknown = (warnRun i s).unknown ∧ r.observed = (warnRun i s).observed
    ∧ (r.state = (warnRun i s).state → r.timer = (warnRun i s).timer)
    ∧ (r.state = .offDelayAcked → r.timer = (warnRun i s).timer)
    ∧ (r.state = .off → (warnRun i s).state ≠ .off → r.timer = none)
    ∧ ∀ e, warnEntry i s = some e → r.state = .onAck → (warnRun i s).state ≠ .onAck →
      r.timer = if e.reminder = 0 then none else some (s.now + 1000000 * e.reminder)

theorem KeptByAck.self (i : Fin 96) (s : State) : KeptByAck i s (warnRun i s) :=
  ⟨rfl, rfl, rfl, fun _ => rfl, fun _ => rfl, fun off moved => absurd off moved, fun _ _ on moved => absurd on moved⟩

theorem KeptByAck.of_same {r r' : WarnRun} (h : KeptByAck i s r) (same : unjoined r' = unjoined r) : KeptByAck i s r' := by
  obtain ⟨state, timer, truth, unknown, -, observed⟩ := fields_of_unjoined same
  unfold KeptByAck at h ⊢
  rw [state, timer, truth, unknown, observed]
  exact h

theorem ackedRun_state (s : State) (i : Fin 96) :
    (ackedRun s i).state = if warnEnabled i s then onAcknowledge (warnRun i s).state else (warnRun i s).state := by
  unfold ackedRun
  split
  · exact movedRun_state _
  · rfl

/-- OFF is not left by an acknowledgement, so that no observed flag is set (R106, R108). -/
theorem ackedRun_kept (s : State) (i : Fin 96) : KeptByAck i s (ackedRun s i) := by
  unfold ackedRun
  split
  · rename_i enabled
    obtain ⟨e, entry, -⟩ : ∃ e, warnEntry i s = some e ∧ e.enabled = true := by
      cases loaded : warnEntry i s <;> simp_all [warnEnabled]
    obtain ⟨truth, -, unknown, -⟩ := movedRun_kept (e := e) (new := onAcknowledge (warnRun i s).state) (s := s) (warnRun i s)
    rw [entry, Option.getD_some, KeptByAck, movedRun_state, movedRun_timer, movedRun_observed]
    refine ⟨truth, unknown, ?_, fun stays => if_pos stays.symm, fun acked => ?_, fun off moved => ?_,
      fun d loaded acked moved => ?_⟩
    · cases (warnRun i s).state <;> simp [onAcknowledge]
    · rw [acked]
      split
      · rfl
      · rename_i other
        have delayed : (warnRun i s).state = .offDelayUnacked := by
          revert acked other
          cases (warnRun i s).state <;> simp [onAcknowledge]
        exact if_pos delayed
    · rw [off, if_neg moved]
      rfl
    · obtain rfl : d = e := Option.some.inj (loaded.symm.trans entry)
      rw [acked, if_neg moved]
      rfl
  · exact .self i s

theorem acknowledge_eq (i : Fin 96) (s : State) : acknowledge i s = if warnEnabled i s then
    changeState i ((warnEntry i s).getD .unloaded) (onAcknowledge (warnRun i s).state) s else s := by
  unfold acknowledge warnEnabled
  cases warnEntry i s <;> rfl

theorem acknowledge_run (i j : Fin 96) (s : State) : unjoined (warnRun j (acknowledge i s))
    = if j = i then unjoined (ackedRun s i) else unjoined (warnRun j s) := by
  rw [acknowledge_eq, ackedRun]
  split
  · exact changeState_run j
  · split
    · rename_i same
      rw [same]
    · rfl

theorem acknowledge_stays (stays : (warnRun i (acknowledge i s)).state = (warnRun i s).state) : acknowledge i s = s := by
  rw [acknowledge_eq] at stays ⊢
  split at stays
  · rename_i enabled
    rw [if_pos enabled]
    exact changeState_stays stays
  · rename_i disabled
    exact if_neg disabled

/-- An entry that an acknowledgement moves is an enabled one, and moves as a change of state does. -/
theorem acknowledge_moves (moves : (warnRun i (acknowledge i s)).state ≠ (warnRun i s).state) :
    ∃ e, warnEntry i s = some e ∧ e.enabled = true
      ∧ acknowledge i s = changeState i e (onAcknowledge (warnRun i s).state) s := by
  rw [acknowledge_eq] at moves ⊢
  by_cases enabled : warnEnabled i s = true
  · rw [if_pos enabled]
    cases entry : warnEntry i s with
    | none => simp [warnEnabled, entry] at enabled
    | some e =>
      refine ⟨e, rfl, ?_, rfl⟩
      rwa [warnEnabled, entry] at enabled
  · rw [if_neg enabled] at moves
    exact absurd rfl moves

theorem acknowledge_followed (moves : (warnRun i (acknowledge i s)).state ≠ (warnRun i s).state) :
    EntryFollowed i s (acknowledge i s) := by
  obtain ⟨e, entry, enabled, eq⟩ := acknowledge_moves moves
  rw [eq] at moves ⊢
  exact changeState_followed entry enabled moves

theorem acknowledge_events (held : sendingHeld s = true)
    (moves : (warnRun i (acknowledge i s)).state ≠ (warnRun i s).state) :
    Queued (ownEvent i (acknowledge i s) :: topEvents i s (acknowledge i s)) s (acknowledge i s) := by
  obtain ⟨e, -, -, eq⟩ := acknowledge_moves moves
  rw [eq] at moves ⊢
  exact changeState_events held moves

theorem acknowledge_warningsLegal (h : WarningsLegal s) (live : s.opState = .run ∨ s.opState = .sweep) :
    WarningsLegal (acknowledge i s) := by
  by_cases stays : (warnRun i (acknowledge i s)).state = (warnRun i s).state
  · rwa [acknowledge_stays stays]
  · obtain ⟨e, entry, enabled, eq⟩ := acknowledge_moves stays
    rw [eq]
    exact changeState_warningsLegal h entry enabled (live.imp_right .inl)

/-! ### Several entries, one behind the other -/

/-- The listed entries are acknowledged in their order. -/
def acknowledgeAll (l : List (Fin 96)) (s : State) : State := l.foldl (fun s i => acknowledge i s) s

theorem movedRun_unjoined {e : WarnEntry} {new : WarnState} {r r' : WarnRun} (h : unjoined r = unjoined r') :
    unjoined (movedRun e new s r) = unjoined (movedRun e new s r') := by
  have same : r' = { r with join := r'.join } := by
    obtain ⟨state, timer, truth, unknown, cond, observed⟩ := fields_of_unjoined h
    cases r
    cases r'
    simp_all
  rw [same]
  unfold movedRun
  simp only
  split <;> rfl

theorem ackedRun_eq (frame : ChangesOnly warning s t) (run : unjoined (warnRun i t) = unjoined (warnRun i s)) :
    unjoined (ackedRun t i) = unjoined (ackedRun s i) := by
  have now : t.now = s.now := frame .now (by decide)
  have entry : warnEntry i t = warnEntry i s := warnEntry_eq (frame .warnTable (by decide)) i
  have moved (e : WarnEntry) (new : WarnState) (r : WarnRun) : movedRun e new t r = movedRun e new s r := by
    rw [movedRun, movedRun, loadedTimer_eq now]
  rw [ackedRun, ackedRun, warnEnabled, warnEnabled, entry, state_of_unjoined run, moved]
  split
  · exact movedRun_unjoined run
  · exact run

theorem acknowledgeAll_run {l : List (Fin 96)} (distinct : l.Nodup) (s : State) (j : Fin 96) :
    unjoined (warnRun j (acknowledgeAll l s)) = if j ∈ l then unjoined (ackedRun s j) else unjoined (warnRun j s) := by
  induction l generalizing s with
  | nil => simp [acknowledgeAll]
  | cons i l ih =>
    obtain ⟨apart, rest⟩ := List.nodup_cons.1 distinct
    have first := acknowledge_run i j s
    show unjoined (warnRun j (acknowledgeAll l (acknowledge i s))) = _
    rw [ih rest]
    by_cases same : j = i
    · subst same
      rw [if_neg apart, first, if_pos rfl, if_pos List.mem_cons_self]
    · rw [if_neg same] at first
      rw [ackedRun_eq (acknowledge_frame i s) first, first]
      simp [same]

theorem acknowledgeAll_warningsLegal (l : List (Fin 96)) {s : State} (h : WarningsLegal s)
    (live : s.opState = .run ∨ s.opState = .sweep) : WarningsLegal (acknowledgeAll l s) := by
  induction l generalizing s with
  | nil => exact h
  | cons i l ih =>
    refine ih (acknowledge_warningsLegal h live) ?_
    rwa [acknowledge_frame i s .opState (by decide)]

/-- Each entry that moves is told by its event, as it stands behind all of them. -/
theorem acknowledgeAll_events {l : List (Fin 96)} (distinct : l.Nodup) {s : State} (held : sendingHeld s = true) :
    ∃ es, Queued es s (acknowledgeAll l s) ∧ ∀ j ∈ l, (warnRun j (acknowledgeAll l s)).state ≠ (warnRun j s).state →
      ∃ u top, .warning j (warnRun j (acknowledgeAll l s)).state u top ∈ es := by
  induction l generalizing s with
  | nil => exact ⟨[], .nil s, by simp⟩
  | cons i l ih =>
    obtain ⟨apart, rest⟩ := List.nodup_cons.1 distinct
    have frame := acknowledge_frame i s
    obtain ⟨fs, later, others⟩ := ih rest ((frame .queues (by decide)).held held)
    obtain ⟨es, first, own⟩ : ∃ es, Queued es s (acknowledge i s)
        ∧ ((warnRun i (acknowledge i s)).state ≠ (warnRun i s).state → ownEvent i (acknowledge i s) ∈ es) := by
      by_cases moves : (warnRun i (acknowledge i s)).state = (warnRun i s).state
      · obtain ⟨-, -, -, es, queued⟩ := (frame .queues (by decide)).grows held
        exact ⟨es, queued, fun other => absurd moves other⟩
      · exact ⟨_, acknowledge_events held moves, fun _ => List.mem_cons_self⟩
    refine ⟨es ++ fs, first.append later, fun j listed moves => ?_⟩
    show ∃ u top, .warning j (warnRun j (acknowledgeAll l (acknowledge i s))).state u top ∈ es ++ fs
    replace moves : (warnRun j (acknowledgeAll l (acknowledge i s))).state ≠ (warnRun j s).state := moves
    by_cases same : j = i
    · subst same
      have kept := acknowledgeAll_run rest (acknowledge j s) j
      rw [if_neg apart] at kept
      rw [state_of_unjoined kept] at moves ⊢
      exact ⟨_, _, List.mem_append.2 (.inl (own moves))⟩
    · have kept := acknowledge_run i j s
      rw [if_neg same] at kept
      rw [← state_of_unjoined kept] at moves
      obtain ⟨u, top, member⟩ := others j ((List.mem_cons.1 listed).resolve_left same) moves
      exact ⟨u, top, List.mem_append.2 (.inr member)⟩

/-! ### The record (R106, R169) -/

/-- The entries that WARNING_ACK names: one, or all in ascending index. -/
def ackedEntries (which : Option (Fin 96)) : List (Fin 96) := which.elim (indices 96) fun i => [i]

theorem ackedEntries_nodup (which : Option (Fin 96)) : (ackedEntries which).Nodup := by
  cases which with
  | none => exact indices_nodup 96
  | some i => exact List.nodup_singleton i

theorem acknowledgeNamed_eq (which : Option (Fin 96)) (s : State) :
    acknowledgeNamed which s = acknowledgeAll (ackedEntries which) s := by
  cases which <;> rfl

/-- The entry a byte names, or all of them. -/
theorem absentFF_entry {b : Byte} (named : b.toNat ≤ 95 ∨ b = 0xFF) : ∃ which : Option (Fin 96),
    absentFF 96 b.toNat = some which ∧ (∀ i, i ∈ ackedEntries which ↔ b = 0xFF ∨ b.toNat = i.val)
      ∧ (which = none ↔ b = 0xFF) := by
  by_cases all : b = 0xFF
  · refine ⟨none, by rw [all]; rfl, fun i => ?_, by simp [all]⟩
    exact iff_of_true (mem_indices 96 i) (.inl all)
  · have small : b.toNat < 96 := Nat.lt_succ_of_le (named.resolve_right all)
    refine ⟨some ⟨b.toNat, small⟩, ?_, fun i => ?_, iff_of_false nofun all⟩
    · rw [absentFF, if_neg (by omega), toFin?, dif_pos small]
      rfl
    · rw [or_iff_right all, ackedEntries, Option.elim_some, List.mem_singleton, Fin.ext_iff, eq_comm]

theorem answerRecord_warningAck (live : s.opState = .run ∨ s.opState = .sweep) (b : Byte) :
    answerRecord ⟨0x09, [b]⟩ s = (absentFF 96 b.toNat).elim (refuse .range) fun which =>
      accepted [] (acknowledgeNamed which) := by
  show withLength [b].length [b] (whenState inRunSweep s _) = _
  have state : inRunSweep s.opState = true := (live_iff _).2 live
  rw [withLength_self, whenState, if_pos state]
  rfl

theorem EntryFollowed.of_respond {k : Byte} {x : Result} {d : List Byte} (h : EntryFollowed i (respond k x d s) t) :
    EntryFollowed i s t := by
  rw [respond_eq] at h
  exact h

theorem KeptByAck.of_respond {k : Byte} {x : Result} {d : List Byte} {r : WarnRun}
    (h : KeptByAck i (respond k x d s) r) : KeptByAck i s r := by
  rw [respond_eq] at h
  exact h

theorem respond_wrn (k : Byte) (x : Result) (d : List Byte) (s : State) : (respond k x d s).wrn = s.wrn := by
  rw [respond_eq]

theorem respond_warningsLegal (h : WarningsLegal s) (k : Byte) (x : Result) (d : List Byte) :
    WarningsLegal (respond k x d s) := by
  rw [respond_eq]
  exact h.of_same rfl rfl rfl rfl rfl

end

end Sys2Proof.Machine
end

section
/-! PROOFS. WARNING_ACK settled (R106). -/

namespace Sys2Proof.Machine

section
variable {s : State} {b : Byte} {which : Option (Fin 96)}

/-- The part behind an accepted WARNING_ACK. -/
def acked (which : Option (Fin 96)) (s : State) : State := acknowledgeNamed which (respond 0x09 .ok [] s)

theorem acked_eq (which : Option (Fin 96)) (s : State) :
    acked which s = acknowledgeAll (ackedEntries which) (respond 0x09 .ok [] s) := acknowledgeNamed_eq _ _

theorem acked_run (i : Fin 96) : unjoined (warnRun i (acked which s)) = if i ∈ ackedEntries which then
    unjoined (ackedRun (respond 0x09 .ok [] s) i) else unjoined (warnRun i s) := by
  rw [acked_eq, acknowledgeAll_run (ackedEntries_nodup which), warnRun_eq (s := s) (by rw [respond_wrn])]

theorem acked_state (i : Fin 96) : (warnRun i (acked which s)).state
    = if warnEnabled i s = true ∧ i ∈ ackedEntries which then onAcknowledge (warnRun i s).state
      else (warnRun i s).state := by
  have run := acked_run (which := which) (s := s) i
  by_cases named : i ∈ ackedEntries which
  · rw [if_pos named] at run
    rw [state_of_unjoined run, ackedRun_state, warnRun_eq (s := s) (by rw [respond_wrn]), warnEnabled,
      warnEntry_eq (s := s) (by rw [respond_wrn])]
    simp [named, warnEnabled]
  · rw [if_neg named] at run
    rw [state_of_unjoined run]
    simp [named]

theorem acked_kept (i : Fin 96) : KeptByAck i s (warnRun i (acked which s)) := by
  have run := acked_run (which := which) (s := s) i
  split at run
  · exact ((ackedRun_kept _ i).of_same run).of_respond
  · exact (KeptByAck.self i s).of_same run

/-- The events: of one entry its own and a new top's, where it moves; of all the own event of each that moves. -/
theorem acked_events (which : Option (Fin 96)) (s : State) : ∃ es, Queued es s (acked which s)
    ∧ (∀ i, which = some i →
      ((warnRun i (acked which s)).state ≠ (warnRun i s).state →
        EntryFollowed i s (acked which s) ∧ es = ownEvent i (acked which s) :: topEvents i s (acked which s))
      ∧ ((warnRun i (acked which s)).state = (warnRun i s).state → es = [] ∧ acked which s = respond 0x09 .ok [] s))
    ∧ (which = none → ∀ i, (warnRun i (acked which s)).state ≠ (warnRun i s).state →
      ∃ u top, .warning i (warnRun i (acked which s)).state u top ∈ es) := by
  have held := respond_held 0x09 .ok [] s
  have start := respond_queued 0x09 .ok [] s
  have before (i : Fin 96) : warnRun i (respond 0x09 .ok [] s) = warnRun i s := warnRun_eq (by rw [respond_wrn]) i
  cases which with
  | none =>
    obtain ⟨es, queued, told⟩ := acknowledgeAll_events (indices_nodup 96) held
    refine ⟨es, start.append queued, nofun, fun _ i moves => ?_⟩
    exact told i (mem_indices 96 i) (by rwa [before])
  | some k =>
    have one : acked (some k) s = acknowledge k (respond 0x09 .ok [] s) := rfl
    by_cases stays : (warnRun k (acked (some k) s)).state = (warnRun k s).state
    · have same : acked (some k) s = respond 0x09 .ok [] s := by
        rw [one]
        exact acknowledge_stays (by rwa [before, ← one])
      refine ⟨[], by rwa [same], fun i named => ?_, nofun⟩
      obtain rfl : k = i := Option.some.inj named
      exact ⟨fun moves => absurd stays moves, fun _ => ⟨rfl, same⟩⟩
    · have moves : (warnRun k (acknowledge k (respond 0x09 .ok [] s))).state
          ≠ (warnRun k (respond 0x09 .ok [] s)).state := by rwa [before, ← one]
      refine ⟨_, start.append (acknowledge_events held moves), fun i named => ?_, nofun⟩
      obtain rfl : k = i := Option.some.inj named
      refine ⟨fun _ => ⟨(acknowledge_followed moves).of_respond, ?_⟩, fun same => absurd same stays⟩
      rw [List.nil_append, topEvents_eq (s := s) (by rw [respond_wrn]) rfl rfl]
      rfl

end

/-- Settles O22: the two refusals, and the acknowledgement of one entry or of all. -/
theorem warningAckAcknowledges : Obligations.WarningAckAcknowledges := by
  intro b s ready
  have free := heldRecord_of_kind (kind := 0x09) (by decide) [b] s
  refine ⟨fun notRun notSweep => exec_refused rfl ready free ?_, fun live range other => exec_refused rfl ready free ?_,
    fun live named => ?_⟩
  · have state : inRunSweep s.opState = false :=
      Bool.eq_false_iff.2 fun h => ((live_iff _).1 h).elim notRun notSweep
    show withLength [b].length [b] (whenState inRunSweep s _) = _
    rw [withLength_self, whenState, state]
    rfl
  · have large : b.toNat ≠ 255 := fun h => other (BitVec.eq_of_toNat_eq h)
    rw [answerRecord_warningAck live, absentFF, if_neg large, toFin?, dif_neg (by omega)]
    rfl
  · obtain ⟨which, found, members, all⟩ := absentFF_entry named
    obtain ⟨es, queued, one, every⟩ := acked_events which s
    have frame := acknowledgeNamed_frame which (respond 0x09 .ok [] s)
    refine ⟨acked which s, es, exec_accepted rfl ready free ?_, (answered_after frame (by decide)).1, fun i => ?_,
      acked_kept, fun i single => ?_, fun ff => every (all.2 ff), fun legal => ?_, queued, answered_frame frame⟩
    · rw [answerRecord_warningAck live, found]
      rfl
    · rw [acked_state]
      refine if_congr (and_congr_right fun _ => members i) ?_ rfl
      cases (warnRun i s).state <;> rfl
    · have only : which = some i := by
        cases which with
        | none =>
          rw [all.1 rfl] at single
          exact absurd single (by simp; omega)
        | some k =>
          have member := (members i).2 (.inr single)
          rw [List.mem_singleton.1 member]
      obtain ⟨moves, stays⟩ := one i only
      refine ⟨moves, fun same => ?_⟩
      obtain ⟨silent, unchanged⟩ := stays same
      rw [unchanged, respond_eq]
      exact ⟨silent, rfl, rfl, rfl⟩
    · rw [acked_eq]
      refine acknowledgeAll_warningsLegal _ (respond_warningsLegal legal 0x09 .ok []) ?_
      rwa [respond_frame 0x09 .ok [] s .opState (by decide)]

end Sys2Proof.Machine
end

section
/-! PROOFS. EVALUATION: the events of one evaluation, and the entries that use a slot (R99 to R104, R107, R112). -/

namespace Sys2Proof.Machine

section
variable {fresh : Bool} {i j : Fin 96} {e : WarnEntry} {s t : State}

/-! ### The events of one evaluation (R102, R107, R112) -/

/-- The event of an enabled entry whose unknown mark changes, in its state before (R102, log entry 15). -/
def markEvents (e : WarnEntry) (i : Fin 96) (unknown : Bool) (s : State) : List Event :=
  if e.enabled ∧ unknown ≠ (warnRun i s).unknown then
    [.warning i (warnRun i s).state unknown (decide (topWarning s = some i))]
  else []

theorem formEntry_queued (held : sendingHeld s = true) :
    Queued (markEvents e i (formedRun fresh e s (warnRun i s)).unknown s) s (formEntry fresh i e s) := by
  set f := formedRun fresh e s (warnRun i s) with hf
  set u := setWarnRun i f s with hu
  have formed : Queued [] s u := (setWarnRun_frame i f s).queuedNil (by decide)
  have run (j : Fin 96) : warnRun j u = if j = i then f else warnRun j s := warnRun_setWarnRun i j f s
  have own : warnRun i u = f := (run i).trans (if_pos rfl)
  have top : topWarning u = topWarning s := topWarning_eq_of rfl fun j => by
    rw [run]
    split
    · rename_i same
      rw [same]
      exact ⟨rfl, rfl⟩
    · exact ⟨rfl, rfl⟩
  have spelled : formEntry fresh i e s = if e.enabled then tellMark i (warnRun i s).unknown u else u := rfl
  rw [spelled, markEvents, tellMark, own]
  by_cases told : e.enabled = true ∧ f.unknown ≠ (warnRun i s).unknown
  · rw [if_pos told, if_pos told.1, if_neg told.2, warningEvent, own, top]
    exact formed.append (queueEvent_queued (s := u) held _)
  · rw [if_neg told]
    by_cases enabled : e.enabled = true
    · rw [if_pos enabled, if_pos (not_not.1 fun other => told ⟨enabled, other⟩)]
      exact formed
    · rw [if_neg enabled]
      exact formed

/-- The events of a state that an evaluation has changed. -/
def stateEvents (i : Fin 96) (s t : State) : List Event :=
  if (warnRun i t).state ≠ (warnRun i s).state then ownEvent i t :: topEvents i s t else []

/-- An evaluation tells of the mark first, then of the state and of a new top (log entry 15). -/
theorem evaluate_events (entry : warnEntry i s = some e) (held : sendingHeld s = true) :
    Queued (markEvents e i (warnRun i (evaluate fresh i s)).unknown s ++ stateEvents i s (evaluate fresh i s)) s
      (evaluate fresh i s) := by
  have frame := formEntry_frame fresh i e s
  have formed := formEntry_queued (fresh := fresh) (e := e) (i := i) held
  have unknown : (warnRun i (evaluate fresh i s)).unknown = (formedRun fresh e s (warnRun i s)).unknown := by
    have run := evaluate_run (fresh := fresh) entry i
    rw [if_pos rfl] at run
    obtain ⟨-, -, -, mark, -⟩ := fields_of_unjoined run
    exact mark.trans (evaluatedRun_truth _).2.1
  rw [unknown, stateEvents]
  have eq := evaluate_eq (fresh := fresh) entry
  by_cases stays : (warnRun i s).state = nextState e (formedRun fresh e s (warnRun i s)).cond (warnRun i s)
  · rw [if_pos stays] at eq
    rw [eq, if_neg (not_not.2 (formEntry_state i).1), List.append_nil]
    exact formed
  · rw [if_neg stays] at eq
    have moved : (warnRun i (evaluate fresh i s)).state ≠ (warnRun i s).state := by
      have run := evaluate_run (fresh := fresh) entry i
      rw [if_pos rfl] at run
      rw [state_of_unjoined run, evaluatedRun, if_neg stays]
      exact fun same => stays same.symm
    rw [if_pos moved]
    have change := changeRun_events (i := i) (r := evaluatedRun fresh e s (warnRun i s)) (c := e.chime) (b := true)
      ((frame .queues (by decide)).held held)
    rw [← eq, if_pos rfl, topEvents_eq (s := s) (frame .warnList (by decide)).2 rfl rfl] at change
    exact formed.append change

/-! ### The entries that use a slot (R99) -/

/-- A loaded entry that a notification of the slot evaluates. -/
def usesNow (slot : Slot) (e : WarnEntry) (s : State) : Bool := e.uses slot && evaluated e s

theorem usesNow_iff (slot : Slot) (e : WarnEntry) (s : State) :
    usesNow slot e s = true ↔ e.uses slot = true ∧ EvaluatedNow e s := by
  rw [usesNow, Bool.and_eq_true, evaluatedNow_iff]

theorem usesNow_fails {slot : Slot} (h : e.uses slot = false ∨ ¬EvaluatedNow e s) : usesNow slot e s = false := by
  rw [Bool.eq_false_iff]
  intro passes
  obtain ⟨uses, now⟩ := (usesNow_iff slot e s).1 passes
  rcases h with h | h
  · simp [h] at uses
  · exact h now

theorem usesNow_steady (slot : Slot) : Steady (usesNow slot) := fun s t e frame => by
  rw [usesNow, usesNow, evaluated_steady frame]

/-- The part with the notification taken. -/
def noticeTaken (slot : Slot) (s : State) : State := takeArrival (.evaluation slot) s

/-- The part behind EVALUATION. -/
def evaluatedFor (slot : Slot) (s : State) : State :=
  (indices 96).foldl (evaluateIf false (usesNow slot)) (noticeTaken slot s)

theorem exec_evaluation (slot : Slot) (s : State) : exec (.evaluation slot) s = .next (evaluatedFor slot s) := rfl

theorem evaluations_none {test : WarnEntry → State → Bool} (l : List (Fin 96))
    (fails : ∀ j e, warnEntry j s = some e → test e s = false) : l.foldl (evaluateIf fresh test) s = s := by
  induction l with
  | nil => rfl
  | cons i l ih => rw [List.foldl_cons, evaluateIf_fails (fails i), ih]

/-- Evaluations leave the state and the timer of a disabled entry (R104). -/
theorem evaluations_disabled {test : WarnEntry → State → Bool} (steady : Steady test)
    (fails : ∀ e, warnEntry i s = some e → test e s = false ∨ e.enabled = false) :
    (warnRun i ((indices 96).foldl (evaluateIf fresh test) s)).state = (warnRun i s).state
      ∧ (warnRun i ((indices 96).foldl (evaluateIf fresh test) s)).timer = (warnRun i s).timer := by
  by_cases passes : ∃ e, warnEntry i s = some e ∧ test e s = true
  · obtain ⟨e, entry, passes⟩ := passes
    have disabled : e.enabled = false := (fails e entry).resolve_left (by simp [passes])
    obtain ⟨u, -, -, run⟩ := evaluations_run (fresh := fresh) steady (indices 96) (indices_nodup 96) (mem_indices 96 i)
      entry passes
    obtain ⟨state, timer, -⟩ := fields_of_unjoined run
    obtain ⟨stateE, timerE⟩ := evaluatedRun_disabled (fresh := fresh) (s := u) disabled (warnRun i s)
    exact ⟨state.trans stateE, timer.trans timerE⟩
  · have kept := evaluations_fails (fresh := fresh) steady (indices 96) (j := i) fun e entry =>
      Bool.eq_false_iff.2 fun h => passes ⟨e, entry, h⟩
    obtain ⟨state, timer, -⟩ := fields_of_unjoined kept
    exact ⟨state, timer⟩

end

section
variable {slot : Slot} {i : Fin 96} {e : WarnEntry} {s : State}

theorem evaluatedFor_frame (slot : Slot) (s : State) : ChangesOnly (.arrivals :: warning) s (evaluatedFor slot s) :=
  ((takeArrival_frame _ s).mono (by decide)).trans ((evaluations_frame _ _).mono (by decide))

theorem evaluatedFor_warningsLegal (h : WarningsLegal s) : WarningsLegal (evaluatedFor slot s) :=
  evaluations_warningsLegal (fun e u _ passes => ((usesNow_iff slot e u).1 passes).2) _
    (h.of_same (t := noticeTaken slot s) rfl rfl rfl rfl rfl)

/-- Truth, condition and state of an entry that is evaluated (R99 to R104). -/
theorem evaluatedFor_entry (entry : warnEntry i s = some e) (uses : e.uses slot = true) (now : EvaluatedNow e s) :
    ((∀ k, (e.kind ≠ .faultClass ∧ k = e.source) ∨ (∃ g, e.gate = some g ∧ k = g.slot) →
        k ≠ activeWarnings ∧ fallbackOf k s ≠ some activeWarnings) →
      TruthFormed e (warnRun i s).truth s (warnRun i (evaluatedFor slot s)))
    ∧ EntryMoved e s (warnRun i s) (warnRun i (evaluatedFor slot s)) := by
  obtain ⟨u, between, slots, run⟩ := evaluations_run (fresh := false) (s := noticeTaken slot s) (usesNow_steady slot)
    (indices 96) (indices_nodup 96) (mem_indices 96 i) entry ((usesNow_iff slot e s).2 ⟨uses, now⟩)
  obtain ⟨state, timer, truth, unknown, cond, observed⟩ := fields_of_unjoined run
  obtain ⟨truthE, unknownE, condE, -⟩ := evaluatedRun_truth (fresh := false) (e := e) (s := u) (warnRun i s)
  have nowU : u.now = s.now := between .now (by decide)
  refine ⟨fun apart => ?_, (evaluatedRun_moved e u (warnRun i s)).of_fields nowU.symm state timer cond observed⟩
  have read (k : Slot) (own : k ≠ activeWarnings ∧ fallbackOf k s ≠ some activeWarnings) : effRead k s = effRead k u :=
    (effRead_kept (between .signalTable (by decide)) (slots k own.1) fun f found => slots f fun same =>
      own.2 (same ▸ found)).symm
  have formed : TruthFormed e (warnRun i s).truth s (formedRun false e u (warnRun i s)) :=
    formedRun_formed_of (fun value => read _ (apart _ (.inl ⟨value, rfl⟩)))
      (fun g gated => read _ (apart _ (.inr ⟨g, gated, rfl⟩))) (between .records (by decide)).symm _
  exact formed.of_fields (truth.trans truthE) (unknown.trans unknownE) (cond.trans condE)

/-- Where one entry alone uses the slot, its evaluation is all. -/
theorem evaluatedFor_single (entry : warnEntry i s = some e) (uses : e.uses slot = true) (now : EvaluatedNow e s)
    (alone : ∀ j e', j ≠ i → warnEntry j s = some e' → e'.uses slot = false) :
    evaluatedFor slot s = evaluate false i (noticeTaken slot s) :=
  evaluations_single (usesNow_steady slot) (indices 96) (indices_nodup 96) (mem_indices 96 i) entry
    ((usesNow_iff slot e s).2 ⟨uses, now⟩) fun j other e' loaded => usesNow_fails (.inl (alone j e' other loaded))

theorem noticeTaken_count {c : Instr} (other : c ≠ .evaluation slot) :
    (noticeTaken slot s).inFlight.count c = s.inFlight.count c := List.count_erase_of_ne other

theorem evaluatedFor_followed (entry : warnEntry i s = some e) (enabled : e.enabled = true)
    (single : evaluatedFor slot s = evaluate false i (noticeTaken slot s))
    (moves : (warnRun i (evaluatedFor slot s)).state ≠ (warnRun i s).state) :
    EntryFollowed i s (evaluatedFor slot s) := by
  rw [single] at moves ⊢
  exact (evaluate_followed (s := noticeTaken slot s) entry enabled moves).of_outer rfl rfl (fun _ => ⟨rfl, rfl⟩) rfl rfl
    (fun _ => noticeTaken_count (by simp)) (noticeTaken_count (by simp)) rfl rfl (fun _ => rfl) rfl

theorem evaluatedFor_events (entry : warnEntry i s = some e) (held : sendingHeld s = true)
    (single : evaluatedFor slot s = evaluate false i (noticeTaken slot s)) :
    Queued (markEvents e i (warnRun i (evaluatedFor slot s)).unknown s ++ stateEvents i s (evaluatedFor slot s)) s
      (evaluatedFor slot s) := by
  have queued := evaluate_events (fresh := false) (s := noticeTaken slot s) entry held
  have top : topWarning (noticeTaken slot s) = topWarning s := topWarning_eq rfl rfl
  have marks (b : Bool) : markEvents e i b (noticeTaken slot s) = markEvents e i b s := by
    rw [markEvents, markEvents, top]
    rfl
  have states (t : State) : stateEvents i (noticeTaken slot s) t = stateEvents i s t := by
    rw [stateEvents, stateEvents, topEvents_eq (s := s) (t := t) rfl rfl rfl]
    rfl
  rw [marks, states, ← single] at queued
  exact queued

end

/-- Settles O41: CONFIG, the entries that are left, and the entries that are evaluated. -/
theorem evaluationFormsConditionAndState : Obligations.EvaluationFormsConditionAndState := by
  intro slot s
  refine ⟨fun config => ?_, evaluatedFor slot s, exec_evaluation slot s, evaluatedFor_frame slot s, fun i left => ?_, fun i left => ?_,
    evaluatedFor_warningsLegal, fun i e now entry uses => ?_⟩
  · rw [exec_evaluation, evaluatedFor, evaluations_none (s := noticeTaken slot s) (test := usesNow slot) (indices 96) fun j e _ => usesNow_fails (.inr fun now => now.notConfig config)]
    rfl
  · refine evaluations_disabled (s := noticeTaken slot s) (usesNow_steady slot) fun e entry => ?_
    rcases left e entry with unused | disabled | apart
    · exact .inl (usesNow_fails (.inl unused))
    · exact .inr disabled
    · exact .inl (usesNow_fails (.inr apart))
  · have kept := evaluations_fails (fresh := false) (s := noticeTaken slot s) (usesNow_steady slot) (indices 96) (j := i)
      fun e entry => usesNow_fails (left e entry)
    obtain ⟨-, -, truth, -, cond, observed⟩ := fields_of_unjoined kept
    exact ⟨truth, cond, observed⟩
  · obtain ⟨formed, moved⟩ := evaluatedFor_entry entry uses now
    refine ⟨formed, moved, fun alone => ?_⟩
    have single := evaluatedFor_single entry uses now alone
    exact ⟨fun enabled moves => evaluatedFor_followed entry enabled single moves, fun held =>
      evaluatedFor_events entry held single⟩

end Sys2Proof.Machine
end

section
/-! PROOFS. WARNING_TABLE_WRITE: the entry put in OFF, loaded, told and evaluated afresh (R98, R107, R110, R176). -/

namespace Sys2Proof.Machine

section
variable {i j : Fin 96} {e : WarnEntry} {ev : Event} {s t : State}

/-! ### The stages of a write in RUN (R110) -/

/-- The warning table with the entry replaced. -/
def loadWarning (i : Fin 96) (e : WarnEntry) (s : State) : State :=
  { s with wrn := { s.wrn with table := s.wrn.table.set i (some e) } }

/-- The old entry put in OFF, with its chime request withdrawn. -/
def retired (i : Fin 96) (s : State) : State :=
  changeRun i (putOff (warnRun i s)) ((warnEntry i s).bind WarnEntry.chime) false s

/-- The OFF event of an enabled new entry. -/
def tellOff (i : Fin 96) (e : WarnEntry) (s : State) : State :=
  if e.enabled then queueEvent (warningEvent i s) s else s

/-- The part before the fresh evaluation. -/
def rewritten (i : Fin 96) (e : WarnEntry) (ev : Event) (s : State) : State :=
  queueEvent ev (tellOff i e (loadWarning i e (retired i s)))

theorem writeWarning_config (config : s.opState = .config) :
    writeWarning i e ev s = loadWarning i e (setWarnRun i (putOff (warnRun i s)) s) := if_pos config

theorem writeWarning_run (run : s.opState = .run) :
    writeWarning i e ev s = evaluate true i (rewritten i e ev s) := by
  rw [writeWarning, if_neg (by rw [run]; decide)]
  rfl

theorem loadWarning_frame (i : Fin 96) (e : WarnEntry) (s : State) : ChangesOnly [.warnTable] s (loadWarning i e s) := by
  intro p hp
  cases p <;> first | exact OnlyQueues.of_same rfl rfl rfl rfl rfl | simp [Piece.kept, loadWarning] at hp ⊢

theorem retired_frame (i : Fin 96) (s : State) : ChangesOnly warning s (retired i s) := changeRun_frame _ _ _ _ s

theorem told_frame (i : Fin 96) (e : WarnEntry) (ev : Event) (s : State) :
    ChangesOnly sending s (queueEvent ev (tellOff i e s)) := by
  have off : ChangesOnly sending s (tellOff i e s) := .ite (fun _ => queueEvent_frame _ s) fun _ => .refl _ s
  exact off.trans (queueEvent_frame ev _)

theorem rewritten_frame (i : Fin 96) (e : WarnEntry) (ev : Event) (s : State) :
    ChangesOnly (.warnTable :: warning) s (rewritten i e ev s) :=
  ((retired_frame i s).mono (by decide)).trans
    (((loadWarning_frame i e _).mono (by decide)).trans ((told_frame i e ev _).mono (by decide)))

theorem rewritten_wrn (i : Fin 96) (e : WarnEntry) (ev : Event) (s : State) :
    (rewritten i e ev s).wrn = (loadWarning i e (retired i s)).wrn :=
  (told_frame i e ev _).wrn (by decide) (by decide) (by decide) (by decide)

theorem rewritten_table (i : Fin 96) (e : WarnEntry) (ev : Event) (s : State) :
    (rewritten i e ev s).wrn.table = s.wrn.table.set i (some e) := by
  rw [rewritten_wrn]
  show (retired i s).wrn.table.set i (some e) = _
  rw [retired_frame i s .warnTable (by decide)]

theorem rewritten_entry (j : Fin 96) :
    warnEntry j (rewritten i e ev s) = if j = i then some e else warnEntry j s := by
  rw [warnEntry, rewritten_table]
  simp only [warnEntry, Fin.getElem_fin, Vector.getElem_set, Fin.ext_iff, eq_comm]

theorem warnRun_loadWarning (j : Fin 96) : warnRun j (loadWarning i e s) = warnRun j s := rfl

/-- The old entry stands in OFF, and no other entry has moved. -/
theorem retired_run (i j : Fin 96) (s : State) : unjoined (warnRun j (retired i s))
    = if j = i then unjoined (putOff (warnRun i s)) else unjoined (warnRun j s) := by
  rw [retired, changeRun_run]

theorem rewritten_run (j : Fin 96) : unjoined (warnRun j (rewritten i e ev s))
    = if j = i then unjoined (putOff (warnRun i s)) else unjoined (warnRun j s) := by
  rw [warnRun_eq (s := loadWarning i e (retired i s)) (by rw [rewritten_wrn]), warnRun_loadWarning, retired_run]

theorem rewritten_slot {k : Slot} (other : k ≠ activeWarnings) : (rewritten i e ev s).slot k = s.slot k := by
  rw [rewritten, (told_frame i e ev (loadWarning i e (retired i s))).slot (by decide), (loadWarning_frame i e _).slot (by decide),
    retired, changeRun_slot, if_neg fun h => other h.1]

theorem rewritten_count {x : Instr} (notice : isNotice x = false) : (rewritten i e ev s).inFlight.count x
    = s.inFlight.count x
      + (chimeNotices i ((warnEntry i s).bind WarnEntry.chime) (warnRun i s).state .off).count x := by
  have told := told_frame i e ev (loadWarning i e (retired i s)) .inFlight (by decide)
  have loaded := loadWarning_frame i e (retired i s) .inFlight (by decide)
  simp only [Piece.kept] at told loaded
  rw [rewritten, told, loaded, retired, changeRun_count notice]
  rfl

theorem retired_queued (held : sendingHeld s = true) : Queued (topEvents i s (retired i s)) s (retired i s) := by
  have change := changeRun_events (i := i) (r := putOff (warnRun i s)) (c := (warnEntry i s).bind WarnEntry.chime)
    (b := false) held
  rw [if_neg (by decide), List.nil_append] at change
  exact change

/-- The events of the write before the fresh evaluation: a new top's, the OFF event, CONFIG_CHANGED (log entry 16). -/
theorem rewritten_queued (held : sendingHeld s = true) :
    Queued (topEvents i s (retired i s) ++ (if e.enabled then [.warning i .off false false] else []) ++ [ev]) s
      (rewritten i e ev s) := by
  set u := loadWarning i e (retired i s) with hu
  have load : ChangesOnly [.warnTable] (retired i s) u := loadWarning_frame i e _
  have heldU : sendingHeld u = true := (load .queues (by decide)).held ((retired_frame i s .queues (by decide)).held held)
  have first : Queued (topEvents i s (retired i s)) s u :=
    (retired_queued held).of_same (load .events (by decide)).1 (load .events (by decide)).2
  have own : warningEvent i u = .warning i .off false false := by
    have run : unjoined (warnRun i u) = unjoined (putOff (warnRun i s)) := by
      rw [hu, warnRun_loadWarning, retired_run, if_pos rfl]
    exact ownEvent_of_off run
  have off : Queued (if e.enabled then [.warning i .off false false] else []) u (tellOff i e u) := by
    unfold tellOff
    split
    · rw [own]
      exact queueEvent_queued heldU _
    · exact .nil u
  have heldOff : sendingHeld (tellOff i e u) = true := by
    unfold tellOff
    split
    · exact (queueEvent_frame _ u .queues (by decide)).held heldU
    · exact heldU
  exact (first.append off).append (queueEvent_queued heldOff ev)

/-- A new top behind an entry put in OFF is another entry. -/
theorem topEvents_other (i : Fin 96) (s t : State) {x : Event} (member : x ∈ topEvents i s t) :
    ∃ j st u, j ≠ i ∧ x = .warning j st u true := by
  unfold topEvents at member
  split at member
  · rename_i j _
    split at member
    · cases member
    · rename_i fresh
      exact ⟨j, _, _, fun same => fresh (.inr same), List.mem_singleton.1 member⟩
  · cases member

/-! ### The list behind the write (R112, R113) -/

theorem loadWarning_entry_other (other : j ≠ i) : warnEntry j (loadWarning i e s) = warnEntry j s := by
  simp only [warnEntry, loadWarning, Fin.getElem_fin, Vector.getElem_set, if_neg fun same => other (Fin.ext same).symm]

/-- An entry in OFF may be replaced: neither the old nor the new one stands in the list. -/
theorem loadWarning_listFollowed (h : ListFollowed s) (off : (warnRun i s).state = .off) :
    ListFollowed (loadWarning i e s) := by
  have listed (j : Fin 96) : inActiveList (loadWarning i e s) j = inActiveList s j := by
    by_cases same : j = i
    · subst same
      rw [not_inActiveList_of_off off]
      exact not_inActiveList_of_off off
    · rw [inActiveList, inActiveList, warnEnabled, warnEnabled, loadWarning_entry_other same]
      rfl
  have active : activeList (loadWarning i e s) = activeList s := by
    refine activeList_congr listed fun j active => ?_
    have other : j ≠ i := by
      rintro rfl
      rw [not_inActiveList_of_off off] at active
      cases active
    rw [listKey, listKey, loadWarning_entry_other other]
    rfl
  obtain ⟨value, quality, top⟩ := h
  refine ⟨?_, quality, ?_⟩
  · rw [listLength_eq listed]
    exact value
  · rw [topWarning, active]
    exact top

/-- Outside CONFIG and PARKED the warning unit is legal where the entries out of use are OFF and the list is followed. -/
theorem warningsLegal_of_run (run : t.opState = .run)
    (idle : ∀ j, warnEnabled j t = false → (warnRun j t).state = .off ∧ (warnRun j t).timer = none)
    (followed : ListFollowed t) : WarningsLegal t := by
  obtain ⟨value, quality, top⟩ := followed
  rw [← activeList_length] at value
  refine ⟨fun j off => idle j (off.resolve_right (by rw [run]; decide)), fun config => ?_, fun parked => ?_, value,
    quality, top⟩
  · rw [run] at config
    cases config
  · rw [run] at parked
    cases parked

theorem rewritten_warningsLegal (h : WarningsLegal s) (run : s.opState = .run) :
    WarningsLegal (rewritten i e ev s) := by
  have off : (warnRun i (retired i s)).state = .off := by
    have moved := retired_run i i s
    rw [if_pos rfl] at moved
    exact state_of_unjoined moved
  have loaded : ListFollowed (loadWarning i e (retired i s)) :=
    loadWarning_listFollowed (changeRun_listFollowed h.listFollowed) off
  have wrn := rewritten_wrn i e ev s
  have followed : ListFollowed (rewritten i e ev s) :=
    loaded.of_same ((told_frame i e ev _).slot (by decide) _) (by rw [wrn]) (by rw [wrn]) (by rw [wrn])
  refine warningsLegal_of_run ((rewritten_frame i e ev s .opState (by decide)).trans run) (fun j idle => ?_) followed
  have moved := rewritten_run (i := i) (e := e) (ev := ev) (s := s) j
  by_cases same : j = i
  · rw [if_pos same] at moved
    obtain ⟨state, timer, -⟩ := off_of_putOff moved
    exact ⟨state, timer⟩
  · rw [if_neg same] at moved
    rw [warnEnabled, rewritten_entry, if_neg same] at idle
    obtain ⟨state, timer, -⟩ := fields_of_unjoined moved
    rw [state, timer]
    exact h.1 j (.inl idle)

/-! ### The fresh evaluation (R104, R108, R110) -/

/-- A fresh evaluation out of OFF sets the observed flag where the condition is met, of a disabled entry too (R108). -/
theorem evaluatedRun_fresh_observed {r : WarnRun} (off : r.state = .off) (cond : r.cond = false) :
    (evaluatedRun true e s r).observed = (r.observed || (evaluatedRun true e s r).cond) := by
  rw [(evaluatedRun_truth r).2.2.1]
  set f := formedRun true e s r with hf
  have formed : f.observed = (r.observed || (!e.enabled && f.cond)) := by
    rw [hf, formedRun]
    simp
  have moved : (evaluatedRun true e s r).observed
      = (f.observed || (decide (f.state = .off) && decide (f.state ≠ nextState e f.cond r))) := movedRun_observed f
  have state : f.state = .off := off
  have next : nextState e f.cond r = if e.enabled && f.cond then (if e.onDelay = 0 then shown e else .onDelay) else .off := by
    rw [nextState, cond, off, onCondition]
    cases e.enabled <;> cases f.cond <;> rfl
  have started : WarnState.off ≠ if e.onDelay = 0 then shown e else .onDelay := by
    unfold shown
    split_ifs <;> decide
  rw [moved, formed, state, next]
  cases e.enabled <;> cases f.cond <;> simp [started]

theorem chimeNotices_same (i : Fin 96) (c : Option (Fin 8)) (st : WarnState) : chimeNotices i c st st = [] := by
  unfold chimeNotices
  cases c with
  | none => rfl
  | some p =>
    by_cases on : st = .onUnack
    · simp [on]
    · simp [on]

/-- The chime requests that an evaluation makes (R116). -/
theorem evaluate_count {fresh : Bool} (entry : warnEntry i s = some e) {x : Instr} (notice : isNotice x = false) :
    (evaluate fresh i s).inFlight.count x = s.inFlight.count x
      + (chimeNotices i e.chime (warnRun i s).state (warnRun i (evaluate fresh i s)).state).count x := by
  have formed : (formEntry fresh i e s).inFlight = s.inFlight := formEntry_frame fresh i e s .inFlight (by decide)
  have eq := evaluate_eq (fresh := fresh) entry
  have run := evaluate_run (fresh := fresh) entry i
  rw [if_pos rfl] at run
  by_cases stays : (warnRun i s).state = nextState e (formedRun fresh e s (warnRun i s)).cond (warnRun i s)
  · rw [if_pos stays] at eq
    rw [eq, (formEntry_state i).1, chimeNotices_same, formed]
    rfl
  · rw [if_neg stays] at eq
    rw [state_of_unjoined run, eq, changeRun_count notice, (formEntry_state i).1, formed]

end

end Sys2Proof.Machine
end

section
/-! PROOFS. WARNING_TABLE_WRITE settled: the entry evaluated afresh in RUN, and the write in CONFIG (R98, R110, R176). -/

namespace Sys2Proof.Machine

section
variable {i j : Fin 96} {e : WarnEntry} {ev : Event} {s : State}

/-! ### The write in RUN (R110) -/

/-- The part behind a write in RUN: the entry rewritten and evaluated afresh. -/
def renewed (i : Fin 96) (e : WarnEntry) (ev : Event) (s : State) : State := evaluate true i (rewritten i e ev s)

theorem renewed_frame (i : Fin 96) (e : WarnEntry) (ev : Event) (s : State) :
    ChangesOnly (.warnTable :: warning) s (renewed i e ev s) :=
  (rewritten_frame i e ev s).trans ((evaluate_frame true i _).mono (by decide))

theorem renewed_table (i : Fin 96) (e : WarnEntry) (ev : Event) (s : State) :
    (renewed i e ev s).wrn.table = s.wrn.table.set i (some e) := by
  rw [renewed, evaluate_frame true i _ .warnTable (by decide), rewritten_table]

theorem rewritten_loaded (i : Fin 96) (e : WarnEntry) (ev : Event) (s : State) :
    warnEntry i (rewritten i e ev s) = some e := by
  rw [rewritten_entry, if_pos rfl]

/-- The rewritten entry stands in OFF, without truth, condition and timer (R110). -/
theorem rewritten_off (i : Fin 96) (e : WarnEntry) (ev : Event) (s : State) :
    (warnRun i (rewritten i e ev s)).state = .off ∧ (warnRun i (rewritten i e ev s)).timer = none
      ∧ (warnRun i (rewritten i e ev s)).truth = none ∧ (warnRun i (rewritten i e ev s)).cond = false
      ∧ (warnRun i (rewritten i e ev s)).observed = (warnRun i s).observed := by
  have run := rewritten_run (i := i) (e := e) (ev := ev) (s := s) i
  rw [if_pos rfl] at run
  obtain ⟨state, timer, truth, -, cond, observed⟩ := off_of_putOff run
  exact ⟨state, timer, truth, cond, observed⟩

theorem renewed_run (i : Fin 96) (e : WarnEntry) (ev : Event) (s : State) : unjoined (warnRun i (renewed i e ev s))
    = unjoined (evaluatedRun true e (rewritten i e ev s) (warnRun i (rewritten i e ev s))) := by
  rw [renewed, evaluate_run (rewritten_loaded i e ev s), if_pos rfl]

theorem renewed_other (other : j ≠ i) : unjoined (warnRun j (renewed i e ev s)) = unjoined (warnRun j s) := by
  rw [renewed, evaluate_run (rewritten_loaded i e ev s), if_neg other, rewritten_run, if_neg other]

/-- The new entry's truth is formed of the reads before the write, but for ACTIVE_WARNINGS (R100 to R103). -/
theorem renewed_formed (apart : ∀ k, (e.kind ≠ .faultClass ∧ k = e.source) ∨ (∃ g, e.gate = some g ∧ k = g.slot) →
    k ≠ activeWarnings ∧ fallbackOf k s ≠ some activeWarnings) : TruthFormed e none s (warnRun i (renewed i e ev s)) := by
  have frame := rewritten_frame i e ev s
  set m := rewritten i e ev s with hm
  obtain ⟨-, -, none, -⟩ := rewritten_off i e ev s
  have read (k : Slot) (own : k ≠ activeWarnings ∧ fallbackOf k s ≠ some activeWarnings) : effRead k s = effRead k m :=
    (effRead_kept (frame .signalTable (by decide)) (rewritten_slot own.1) fun f found => rewritten_slot fun same =>
      own.2 (same ▸ found)).symm
  have formed : TruthFormed e (warnRun i m).truth s (formedRun true e m (warnRun i m)) :=
    formedRun_formed_of (fun value => read _ (apart _ (.inl ⟨value, rfl⟩)))
      (fun g gated => read _ (apart _ (.inr ⟨g, gated, rfl⟩))) (frame .records (by decide)).symm _
  rw [none] at formed
  obtain ⟨-, -, truth, unknown, cond, -⟩ := fields_of_unjoined (renewed_run i e ev s)
  obtain ⟨truthE, unknownE, condE, -⟩ := evaluatedRun_truth (fresh := true) (e := e) (s := m) (warnRun i m)
  exact formed.of_fields (truth.trans truthE) (unknown.trans unknownE) (cond.trans condE)

theorem renewed_afresh (enabled : e.enabled = true) : EntersAfresh e s (warnRun i (renewed i e ev s)) := by
  obtain ⟨off, stopped, -, cond, -⟩ := rewritten_off i e ev s
  exact (evaluatedRun_afresh enabled off stopped cond).of_same (rewritten_frame i e ev s .now (by decide)).symm
    (renewed_run i e ev s)

theorem renewed_disabled (disabled : e.enabled = false) :
    (warnRun i (renewed i e ev s)).state = .off ∧ (warnRun i (renewed i e ev s)).timer = none := by
  obtain ⟨off, stopped, -⟩ := rewritten_off i e ev s
  obtain ⟨state, timer, -⟩ := fields_of_unjoined (renewed_run i e ev s)
  obtain ⟨stateE, timerE⟩ := evaluatedRun_disabled (fresh := true) (s := rewritten i e ev s) disabled
    (warnRun i (rewritten i e ev s))
  exact ⟨state.trans (stateE.trans off), timer.trans (timerE.trans stopped)⟩

theorem renewed_observed (i : Fin 96) (e : WarnEntry) (ev : Event) (s : State) :
    (warnRun i (renewed i e ev s)).observed
      = ((warnRun i s).observed || (warnRun i (renewed i e ev s)).cond) := by
  obtain ⟨off, -, -, cond, kept⟩ := rewritten_off i e ev s
  obtain ⟨-, -, -, -, condT, observedT⟩ := fields_of_unjoined (renewed_run i e ev s)
  rw [observedT, condT, evaluatedRun_fresh_observed off cond, kept]

theorem renewed_warningsLegal (h : WarningsLegal s) (run : s.opState = .run) : WarningsLegal (renewed i e ev s) :=
  evaluate_warningsLegal (rewritten_warningsLegal h run) (rewritten_loaded i e ev s)
    (.inl ((rewritten_frame i e ev s .opState (by decide)).trans run))

/-- The chime requests: the old entry's is withdrawn, and the new entry's placed (R116). -/
theorem renewed_count {x : Instr} (notice : isNotice x = false) : (renewed i e ev s).inFlight.count x
    = s.inFlight.count x
      + (chimeNotices i ((warnEntry i s).bind WarnEntry.chime) (warnRun i s).state .off).count x
      + (chimeNotices i e.chime .off (warnRun i (renewed i e ev s)).state).count x := by
  obtain ⟨off, -⟩ := rewritten_off i e ev s
  have evaluated := evaluate_count (fresh := true) (rewritten_loaded i e ev s) notice
  rw [rewritten_count notice, off] at evaluated
  exact evaluated

/-- The events of the fresh evaluation. -/
def freshEvents (i : Fin 96) (e : WarnEntry) (ev : Event) (s : State) : List Event :=
  markEvents e i (warnRun i (renewed i e ev s)).unknown (rewritten i e ev s)
    ++ stateEvents i (rewritten i e ev s) (renewed i e ev s)

theorem renewed_queued (held : sendingHeld s = true) : Queued (topEvents i s (retired i s)
    ++ (if e.enabled then [.warning i .off false false] else []) ++ ev :: freshEvents i e ev s) s (renewed i e ev s) := by
  have first := rewritten_queued (i := i) (e := e) (ev := ev) held
  have heldM := ((rewritten_frame i e ev s) .queues (by decide)).held held
  have all := first.append (evaluate_events (fresh := true) (rewritten_loaded i e ev s) heldM)
  rw [List.append_assoc _ [ev]] at all
  exact all

theorem freshEvents_warning {x : Event} (member : x ∈ freshEvents i e ev s) : ∃ j st u top, x = .warning j st u top := by
  unfold freshEvents markEvents stateEvents at member
  rcases List.mem_append.1 member with mark | state
  · split at mark
    · exact ⟨_, _, _, _, List.mem_singleton.1 mark⟩
    · cases mark
  · split at state
    · rcases List.mem_cons.1 state with own | top
      · exact ⟨_, _, _, _, own⟩
      · obtain ⟨j, st, u, -, rfl⟩ := topEvents_other _ _ _ top
        exact ⟨j, st, u, true, rfl⟩
    · cases state

/-- An entry that leaves OFF is told of. -/
theorem freshEvents_own (moves : (warnRun i (renewed i e ev s)).state ≠ .off) :
    ∃ u top, .warning i (warnRun i (renewed i e ev s)).state u top ∈ freshEvents i e ev s := by
  have own : ownEvent i (renewed i e ev s) ∈ stateEvents i (rewritten i e ev s) (renewed i e ev s) := by
    rw [stateEvents, if_pos (by rwa [(rewritten_off i e ev s).1])]
    exact List.mem_cons_self
  exact ⟨_, _, List.mem_append_right _ own⟩

theorem freshEvents_disabled (disabled : e.enabled = false) : freshEvents i e ev s = [] := by
  rw [freshEvents, markEvents, if_neg (by simp [disabled]), stateEvents, if_neg]
  · rfl
  · rw [(renewed_disabled disabled).1, (rewritten_off i e ev s).1]
    exact not_not.2 rfl

end

/-! ### The record (R176) -/

section
variable {rest : List Byte} {i : Fin 96} {e : WarnEntry} {s : State}

theorem exec_warningTableWrite (ready : LinkReady s) (length : rest.length = 37) (index : u8 rest 0 = i.val)
    (fields : readWarnEntry (rest.drop 1) = some e) (state : s.opState = .config ∨ s.opState = .run) :
    exec (.warningTableWrite rest) s = .next (writeWarning i e (.configChanged 8 i) (respond 0x01 .ok [] s)) := by
  have answer : answerRecord ⟨0x01, 8 :: rest⟩ s = accepted [] (writeWarning i e (.configChanged 8 i)) :=
    tableWrite_ok (len := 36) (ok := inConfigRun) (read := fun _ => readWarnEntry)
      (write := fun i e => writeWarning i e (.configChanged 8 i)) length (inConfigRun_of state) index fields
  exact exec_accepted (c := .warningTableWrite rest) rfl ready (heldRecord_of_kind (by decide) _ s) answer

theorem warningTableWrite_config (ready : LinkReady s) (length : rest.length = 37) (index : u8 rest 0 = i.val)
    (fields : readWarnEntry (rest.drop 1) = some e) (config : s.opState = .config) :
    ∃ t, exec (.warningTableWrite rest) s = .next t ∧ Answered 0x01 .ok [] s t
      ∧ t.wrn.table = s.wrn.table.set i (some e) ∧ t.wrn.run = s.wrn.run.set i (putOff (warnRun i s))
      ∧ ChangesOnly (answering ++ [.warnTable, .warnRuns]) s t := by
  have before := respond_wrn 0x01 .ok [] s
  have inConfig : (respond 0x01 .ok [] s).opState = .config :=
    (respond_frame 0x01 .ok [] s .opState (by decide)).trans config
  have frame (u : State) : ChangesOnly [.warnTable, .warnRuns] u (loadWarning i e (setWarnRun i (putOff (warnRun i u)) u)) :=
    ((setWarnRun_frame i _ u).mono (by decide)).trans ((loadWarning_frame i e _).mono (by decide))
  refine ⟨_, (exec_warningTableWrite ready length index fields (.inl config)).trans
    (by rw [writeWarning_config inConfig]), (answered_after (frame _) (by decide)).1, ?_, ?_, answered_frame (frame _)⟩
  · show (respond 0x01 .ok [] s).wrn.table.set i (some e) = _
    rw [before]
  · show (respond 0x01 .ok [] s).wrn.run.set i (putOff (warnRun i (respond 0x01 .ok [] s))) = _
    rw [warnRun, before]
    rfl

end

/-- Settles O15: CONFIG, and RUN with its events, its fresh evaluation and its chime requests. -/
theorem warningTableWriteLoads : Obligations.WarningTableWriteLoads := by
  intro rest i e s ready length index fields
  refine ⟨warningTableWrite_config ready length index fields, fun run => ?_⟩
  set u := respond 0x01 .ok [] s with hu
  have start := respond_frame 0x01 .ok [] s
  have wrn : u.wrn = s.wrn := respond_wrn 0x01 .ok [] s
  have before (j : Fin 96) : warnRun j u = warnRun j s := warnRun_eq (by rw [wrn]) j
  have entries (j : Fin 96) : warnEntry j u = warnEntry j s := warnEntry_eq (by rw [wrn]) j
  have inFlight : u.inFlight = s.inFlight := start .inFlight (by decide)
  have sst : u.sst = s.sst := by rw [hu, respond_eq]
  have runU : u.opState = .run := (start .opState (by decide)).trans run
  have frame := renewed_frame i e (.configChanged 8 i) u
  have queued := (respond_queued 0x01 .ok [] s).append
    (renewed_queued (i := i) (e := e) (ev := .configChanged 8 i) (respond_held 0x01 .ok [] s))
  rw [List.nil_append] at queued
  refine ⟨renewed i e (.configChanged 8 i) u, _, (exec_warningTableWrite ready length index fields (.inr run)).trans
    (by rw [writeWarning_run runU]; rfl), (answered_after frame (by decide)).1, ?_, queued, by simp,
    ⟨topEvents i u (retired i u), freshEvents i e (.configChanged 8 i) u, rfl, fun x => topEvents_other i u _, fun x => freshEvents_warning, fun _ => freshEvents_own,
      freshEvents_disabled⟩,
    fun apart => ?_, fun enabled => ?_, renewed_disabled, ?_, fun j other => ?_, fun legal => ?_, ?_, fun p chime => ?_,
    answered_frame frame⟩
  · rw [renewed_table, wrn]
  · refine (renewed_formed fun k source => ?_).of_reads sst.symm (start .records (by decide)).symm
    rw [fallbackOf_eq (by rw [sst] : u.sst.table = s.sst.table)]
    exact apart k source
  · exact (renewed_afresh enabled).of_same (start .now (by decide)).symm rfl
  · rw [renewed_observed, before]
  · obtain ⟨state, timer, truth, -⟩ := fields_of_unjoined (renewed_other (e := e) (ev := .configChanged 8 i) (s := u) other)
    rw [state, timer, truth, before]
    exact ⟨rfl, rfl, rfl⟩
  · exact renewed_warningsLegal (respond_warningsLegal legal 0x01 .ok []) runU
  · rw [renewed_count rfl, chimeNotices_withdrawals, chimeNotices_withdrawals, entries, before, inFlight]
    simp
  · rw [renewed_count rfl, chimeNotices_placings, chimeNotices_placings, inFlight]
    simp [chime]

end Sys2Proof.Machine
end

section
/-! PROOFS. The chime generator's placings and withdrawals (R122 to R125, R128, R142): what each leaves of the requests, of
the burst that plays, and of the portals' marks. -/

namespace Sys2Proof.Machine

section
variable {s t : State} {who : Requester} {ps : List Piece}

/-! ### What the invariant of the chime generator is about -/

/-- The registers that the invariant is about. -/
def chimePieces : List Piece := [.opState, .patternTable, .requests, .playing]

/-- What leaves those registers keeps the invariant. -/
theorem ChimeLegal.of_frame (h : ChimeLegal s) (frame : ChangesOnly ps s t)
    (apart : ∀ p ∈ chimePieces, p ∉ ps := by decide) : ChimeLegal t :=
  h.of_same (frame.chg (apart _ (by decide)) (apart _ (by decide)) (apart _ (by decide)))
    (frame .opState (apart _ (by decide)))

/-- An entry into another operating state than CONFIG (R129). -/
theorem ChimeLegal.of_chg (h : ChimeLegal s) (chg : t.chg = s.chg) (left : t.opState ≠ .config) : ChimeLegal t := by
  obtain ⟨distinct, ordered, stamped, -, silent, winner⟩ := h
  rw [← chg] at distinct ordered stamped silent
  refine ⟨distinct, ordered, stamped, fun config => absurd config left, silent, ?_⟩
  simpa only [Wins, patternOf, chg] using winner

/-- With no request held and nothing playing, the invariant holds whatever the rest of the part is. -/
theorem chimeLegal_of_silence (requests : s.chg.requests = []) (playing : s.chg.playing = none) : ChimeLegal s := by
  simp [ChimeLegal, requests, playing]

/-- A legal chime generator plays the winner's burst on. -/
theorem ChimeLegal.winnerPlays (h : ChimeLegal s) : WinnerPlays s.chg.playing s := by
  have legal := h.requestsLegal
  obtain ⟨-, -, -, -, silent, winnerOf⟩ := h
  have burst : ∀ w, Wins w s → ∃ b, s.chg.playing = some b ∧ b.who = w.who := fun w wins => by
    obtain ⟨b, playing⟩ := Option.ne_none_iff_exists'.1 fun none => List.ne_nil_of_mem wins.1 (silent.1 none)
    obtain ⟨v, best, own⟩ := winnerOf b playing
    exact ⟨b, playing, by rw [← own, legal.winner_unique best wins]⟩
  refine ⟨silent.2, fun held => ?_, fun w wins => ⟨fun b kept _ => kept, fun others => ?_⟩⟩
  · obtain ⟨w, -, wins⟩ := leader_wins s _ legal.ordered held
    exact ⟨w, wins⟩
  · obtain ⟨b, playing, own⟩ := burst w wins
    exact absurd own (others b playing)

/-- Who plays holds a request. -/
theorem ChimeLegal.player_holds (h : ChimeLegal s) {b : Playing} (playing : s.chg.playing = some b) :
    ∃ r ∈ s.chg.requests, r.who = b.who := by
  obtain ⟨-, -, -, -, -, winnerOf⟩ := h
  obtain ⟨w, wins, own⟩ := winnerOf b playing
  exact ⟨w, wins.1, own⟩

/-! ### A withdrawal (R123) -/

theorem withdraw_seq (who : Requester) (s : State) : (withdraw who s).chg.seq = s.chg.seq := by
  unfold withdraw
  split
  · rw [arbitrate_eq]
    exact removeRequest_seq who s
  · rfl

theorem removeRequest_drm (who : Requester) (s : State) : (removeRequest who s).drm = s.drm := by
  unfold removeRequest
  simp only
  split <;> rfl

theorem arbitrate_drm (s : State) : (arbitrate s).drm = s.drm := by rw [arbitrate_eq]

theorem withdraw_drm (who : Requester) (s : State) : (withdraw who s).drm = s.drm := by
  unfold withdraw
  split
  · rw [arbitrate_drm, removeRequest_drm]
  · rfl

/-- Behind a withdrawal the winner of the others plays: on, unless the requester itself was playing (R121, R123). -/
theorem withdraw_winnerPlays (who : Requester) (h : ChimeLegal s) :
    WinnerPlays (s.chg.playing.filter fun b => b.who ≠ who) (withdraw who s) := by
  unfold withdraw
  split
  · rw [← removeRequest_playing]
    exact arbitrate_winnerPlays (removeRequest_legal who h.requestsLegal)
  · rename_i without
    have others : s.chg.playing.filter (fun b => b.who ≠ who) = s.chg.playing := by
      cases playing : s.chg.playing with
      | none => rfl
      | some b =>
        refine Option.filter_eq_some_iff.2 ⟨rfl, decide_eq_true fun own => without ?_⟩
        obtain ⟨r, held, hers⟩ := h.player_holds playing
        exact (requestOf_isSome who s).2 ⟨r, held, hers.trans own⟩
    rw [others]
    exact h.winnerPlays

/-! ### A placing (R122, R128) -/

/-- CHG hears every requester in RUN and SWEEP, the warning entries in PARKED, and none in CONFIG. -/
theorem takesPlacing_iff (who : Requester) (s : State) : takesPlacing who s = true ↔
    s.opState = .run ∨ s.opState = .sweep ∨ (s.opState = .parked ∧ ∃ i, who = .warning i) := by
  cases state : s.opState with
  | parked => cases who <;> simp [takesPlacing, state, fromWarning]
  | config => simp [takesPlacing, state]
  | run => simp [takesPlacing, state]
  | sweep => simp [takesPlacing, state]

theorem takesPlacing_ne_config (takes : takesPlacing who s = true) : s.opState ≠ .config := by
  intro config
  rw [takesPlacing, config] at takes
  exact Bool.false_ne_true takes

theorem place_taken (p : Fin 8) (takes : takesPlacing who s = true) :
    place who p s = markHeld who true (arbitrate (withRequest who p s)) := by
  unfold place
  rw [if_pos takes]
  simp only [withRequest, removeRequest_seq, removeRequest_requests]

theorem place_refused (p : Fin 8) (deaf : takesPlacing who s = false) : place who p s = withdraw who s :=
  if_neg (Bool.eq_false_iff.1 deaf)

theorem placed_chg (p : Fin 8) (takes : takesPlacing who s = true) :
    (place who p s).chg = (arbitrate (withRequest who p s)).chg := by
  rw [place_taken p takes]
  exact (markHeld_frame who true _).chg (by decide) (by decide) (by decide)

/-- The fresh request stands behind those of all others, under the next stamp. -/
theorem placed_requests (p : Fin 8) (takes : takesPlacing who s = true) : (place who p s).chg.requests
    = (s.chg.requests.filter fun r => r.who ≠ who) ++ [⟨who, p, s.chg.seq + 1, 0⟩] := by
  rw [placed_chg p takes, arbitrate_requests]
  rfl

theorem placed_seq (p : Fin 8) (takes : takesPlacing who s = true) : (place who p s).chg.seq = s.chg.seq + 1 := by
  rw [placed_chg p takes, arbitrate_eq]
  rfl

theorem placed_winnerPlays (p : Fin 8) (takes : takesPlacing who s = true) (h : RequestsLegal s) :
    WinnerPlays (s.chg.playing.filter fun b => b.who ≠ who) (place who p s) := by
  have legal := withRequest_legal who p h (takesPlacing_ne_config takes)
  have plays := arbitrate_winnerPlays legal
  have kept : (withRequest who p s).chg.playing = s.chg.playing.filter fun b => b.who ≠ who :=
    removeRequest_playing who s
  rw [kept] at plays
  refine plays.of_same (placed_chg p takes) ?_
  rw [place_taken p takes]
  exact markHeld_frame who true _ .now (by decide)

/-- A placing keeps the invariant, taken or not. -/
theorem place_chimeLegal (who : Requester) (p : Fin 8) (h : ChimeLegal s) : ChimeLegal (place who p s) := by
  cases takes : takesPlacing who s with
  | true =>
    rw [place_taken p takes]
    exact (withRequest_legal who p h.requestsLegal (takesPlacing_ne_config takes)).arbitrate_chimeLegal.of_frame
      (markHeld_frame who true _)
  | false =>
    rw [place_refused p takes]
    exact withdraw_chimeLegal who h

/-! ### The portals' marks (R142) -/

/-- A portal's mark follows, and no other portal's. -/
theorem portalRun_of_markHeld (who : Requester) (b : Bool) (q : Fin 4) (s : State) : portalRun q (markHeld who b s)
    = if who = .portal q then { portalRun q s with held := b } else portalRun q s := by
  cases who with
  | portal p =>
    show portalRun q (setPortalRun p { portalRun p s with held := b } s) = _
    rw [portalRun_setPortalRun]
    by_cases same : q = p
    · subst same
      simp
    · rw [if_neg same, if_neg fun own => same (Requester.portal.inj own).symm]
  | warning i => rfl
  | display => rfl
  | workshop => rfl

theorem portalRun_of_drm (drm : t.drm = s.drm) (q : Fin 4) : portalRun q t = portalRun q s := by
  rw [portalRun, portalRun, drm]

theorem placed_portalRun (p : Fin 8) (takes : takesPlacing who s = true) (q : Fin 4) : portalRun q (place who p s)
    = if who = .portal q then { portalRun q s with held := true } else portalRun q s := by
  have drm : (arbitrate (withRequest who p s)).drm = s.drm := by
    rw [arbitrate_drm]
    exact removeRequest_drm who s
  rw [place_taken p takes, portalRun_of_markHeld, portalRun_of_drm drm]

end

end Sys2Proof.Machine
end

section
/-! PROOFS. REQUEST_PLACING and REQUEST_WITHDRAWAL, CHIME_PLAY and CHIME_STOP (R122 to R128). -/

namespace Sys2Proof.Machine

/-! ### The arrivals of a warning entry or a portal (R122, R123, R142) -/

section
variable {s : State} (who : Requester) (p : Fin 8) (legal : ChimeLegal s)
include legal

/-- A placing as it is heard, behind the arrival. -/
theorem requestPlacing_heard (takes : takesPlacing who s = true) :
    ∃ t, exec (.requestPlacing who p) s = .next t
      ∧ t.chg.requests = (s.chg.requests.filter fun r => r.who ≠ who) ++ [⟨who, p, s.chg.seq + 1, 0⟩]
      ∧ t.chg.seq = s.chg.seq + 1 ∧ WinnerPlays (s.chg.playing.filter fun b => b.who ≠ who) t
      ∧ (∀ q : Fin 4, portalRun q t = if who = .portal q then { portalRun q s with held := true } else portalRun q s)
      ∧ ChimeLegal t ∧ ChangesOnly (.inFlight :: .arrivals :: chiming) s t := by
  have taken := takeArrival_frame (.requestPlacing who p) s
  have legalThere := legal.of_frame taken
  have takesThere : takesPlacing who (takeArrival (.requestPlacing who p) s) = true := takes
  exact ⟨_, rfl, placed_requests p takesThere, placed_seq p takesThere,
    placed_winnerPlays p takesThere legalThere.requestsLegal, placed_portalRun p takesThere, place_chimeLegal who p legalThere,
    taken.comp (place_frame who p _) (by decide) (by decide)⟩

/-- A placing that is not heard leaves the requester none. -/
theorem requestPlacing_deaf (deaf : takesPlacing who s = false) :
    ∃ t, exec (.requestPlacing who p) s = .next t
      ∧ t.chg.requests = (s.chg.requests.filter fun r => r.who ≠ who)
      ∧ t.chg.seq = s.chg.seq ∧ WinnerPlays (s.chg.playing.filter fun b => b.who ≠ who) t ∧ t.drm = s.drm
      ∧ ChimeLegal t ∧ ChangesOnly (.inFlight :: .arrivals :: chiming) s t := by
  have taken := takeArrival_frame (.requestPlacing who p) s
  have legalThere := legal.of_frame taken
  have deafThere : takesPlacing who (takeArrival (.requestPlacing who p) s) = false := deaf
  refine ⟨_, congrArg Host.Outcome.next (place_refused p deafThere), withdraw_requests who _, withdraw_seq who _,
    withdraw_winnerPlays who legalThere, withdraw_drm who _, withdraw_chimeLegal who legalThere,
    taken.comp (withdraw_frame who _) (by decide) (by decide)⟩

theorem requestWithdrawal_taken :
    ∃ t, exec (.requestWithdrawal who) s = .next t
      ∧ t.chg.requests = (s.chg.requests.filter fun r => r.who ≠ who)
      ∧ t.chg.seq = s.chg.seq ∧ WinnerPlays (s.chg.playing.filter fun b => b.who ≠ who) t
      ∧ (∀ q : Fin 4, portalRun q t = if who = .portal q then { portalRun q s with held := false } else portalRun q s)
      ∧ ChimeLegal t ∧ ChangesOnly (.inFlight :: .arrivals :: chiming) s t := by
  have taken := takeArrival_frame (.requestWithdrawal who) s
  have legalThere := legal.of_frame taken
  have marked := markHeld_frame who false (withdraw who (takeArrival (.requestWithdrawal who) s))
  have chg := marked.chg (by decide) (by decide) (by decide)
  refine ⟨_, rfl, ?_, ?_, ?_, fun q => ?_, (withdraw_chimeLegal who legalThere).of_frame marked,
    (taken.comp (withdraw_frame who _) (by decide) (by decide)).trans (marked.mono (by decide))⟩
  · rw [chg]
    exact withdraw_requests who _
  · rw [chg]
    exact withdraw_seq who _
  · exact (withdraw_winnerPlays who legalThere).of_same chg (marked .now (by decide))
  · rw [portalRun_of_markHeld, portalRun_of_drm (withdraw_drm who _)]
    rfl

end

/-- Settles O44: the placing that is heard, the one that is not, and the withdrawal. -/
theorem chimeRequestsAreArbitrated : Obligations.ChimeRequestsAreArbitrated := by
  intro who p s legal
  have heard_iff := takesPlacing_iff who s
  exact ⟨fun heard => requestPlacing_heard who p legal (heard_iff.2 heard),
    fun deaf => requestPlacing_deaf who p legal (Bool.eq_false_iff.2 fun takes => deaf (heard_iff.1 takes)),
    requestWithdrawal_taken who legal⟩

/-! ### The display processor's records (R127, R175) -/

section
variable {s : State}

/-- Outside RUN and SWEEP neither record is carried out. -/
theorem answerChime_refused (idle : s.opState = .config ∨ s.opState = .parked) (b : Byte) :
    answerRecord ⟨0x0B, [b]⟩ s = refuse .state ∧ answerRecord ⟨0x0C, []⟩ s = refuse .state := by
  have outside (a : Answer) : whenState inRunSweep s a = refuse .state := by
    rcases idle with state | state <;> rw [whenState, state] <;> rfl
  exact ⟨outside _, outside _⟩

theorem whenState_live (live : s.opState = .run ∨ s.opState = .sweep) (a : Answer) :
    whenState inRunSweep s a = a := by
  rcases live with state | state <;> rw [whenState, state] <;> rfl

theorem answerChimePlay_live (live : s.opState = .run ∨ s.opState = .sweep) (b : Byte) :
    answerRecord ⟨0x0B, [b]⟩ s = (toFin? 8 b.toNat).elim (refuse .range) fun p => accepted [] (place .display p) :=
  whenState_live live _

theorem answerChimeStop_live (live : s.opState = .run ∨ s.opState = .sweep) :
    answerRecord ⟨0x0C, []⟩ s = accepted [] (withdraw .display) := whenState_live live _

theorem takesPlacing_live (live : s.opState = .run ∨ s.opState = .sweep) (who : Requester) :
    takesPlacing who s = true := (takesPlacing_iff who s).2 (live.imp_right .inl)

/-- A response leaves the invariant. -/
theorem respond_chimeLegal (legal : ChimeLegal s) (k : Byte) (r : Result) (d : List Byte) :
    ChimeLegal (respond k r d s) := legal.of_frame (respond_frame k r d s)

/-- The display processor has no mark to follow: its placing changes the requests and what plays, and no more. -/
theorem place_display_frame (p : Fin 8) (takes : takesPlacing .display s = true) :
    ChangesOnly [.requests, .playing] s (place .display p s) := by
  rw [place_taken p takes]
  exact (withRequest_frame .display p s).trans ((arbitrate_frame _).mono (by decide))

theorem chimePlay_taken (ready : LinkReady s) (live : s.opState = .run ∨ s.opState = .sweep) (b : Byte) (p : Fin 8)
    (names : b.toNat = p.val) :
    ∃ t, exec (.chimePlay [b]) s = .next t ∧ Answered 0x0B .ok [] s t
      ∧ t.chg.requests = (s.chg.requests.filter fun r => r.who ≠ .display) ++ [⟨.display, p, s.chg.seq + 1, 0⟩]
      ∧ t.chg.seq = s.chg.seq + 1
      ∧ (ChimeLegal s → ChimeLegal t ∧ WinnerPlays (s.chg.playing.filter fun b => b.who ≠ .display) t)
      ∧ ChangesOnly (answering ++ [.requests, .playing]) s t := by
  obtain ⟨chg, -, -, state⟩ := respond_parts 0x0B .ok [] s
  have takes : takesPlacing .display (respond 0x0B .ok [] s) = true := takesPlacing_live (by rwa [state]) _
  have frame := place_display_frame p takes
  have answer : answerRecord ⟨0x0B, [b]⟩ s = accepted [] (place .display p) := by
    rw [answerChimePlay_live live, names, toFin?_val]
    rfl
  refine ⟨_, exec_accepted rfl ready (heldRecord_of_kind (by decide) _ s) answer, (answered_after frame (by decide)).1,
    ?_, ?_, fun legal => ?_, answered_frame frame⟩
  · rw [placed_requests p takes, chg]
  · rw [placed_seq p takes, chg]
  · have legalThere := respond_chimeLegal legal 0x0B .ok []
    refine ⟨place_chimeLegal _ p legalThere, ?_⟩
    rw [← chg]
    exact placed_winnerPlays p takes legalThere.requestsLegal

theorem chimeStop_taken (ready : LinkReady s) (live : s.opState = .run ∨ s.opState = .sweep) :
    ∃ t, exec (.chimeStop []) s = .next t ∧ Answered 0x0C .ok [] s t
      ∧ t.chg.requests = (s.chg.requests.filter fun r => r.who ≠ .display) ∧ t.chg.seq = s.chg.seq
      ∧ (ChimeLegal s → ChimeLegal t ∧ WinnerPlays (s.chg.playing.filter fun b => b.who ≠ .display) t)
      ∧ ChangesOnly (answering ++ [.requests, .playing]) s t := by
  obtain ⟨chg, -, -, -⟩ := respond_parts 0x0C .ok [] s
  have frame := withdraw_frame .display (respond 0x0C .ok [] s)
  refine ⟨_, exec_accepted rfl ready (heldRecord_of_kind (by decide) _ s) (answerChimeStop_live live),
    (answered_after frame (by decide)).1, ?_, ?_, fun legal => ?_, answered_frame frame⟩
  · rw [withdraw_requests, chg]
  · rw [withdraw_seq, chg]
  · have legalThere := respond_chimeLegal legal 0x0C .ok []
    refine ⟨withdraw_chimeLegal _ legalThere, ?_⟩
    rw [← chg]
    exact withdraw_winnerPlays _ legalThere

end

/-- Settles O24: the refusals, the placing and the withdrawal. -/
theorem chimePlayAndStop : Obligations.ChimePlayAndStop := by
  intro s ready
  have play (b : Byte) := heldRecord_of_kind (kind := 0x0B) (by decide) [b] s
  have stop := heldRecord_of_kind (kind := 0x0C) (by decide) [] s
  refine ⟨fun idle => ⟨fun b => exec_refused rfl ready (play b) (answerChime_refused idle b).1,
    exec_refused rfl ready stop (answerChime_refused idle 0).2⟩, fun live => ⟨fun b above => ?_,
      fun b p names => chimePlay_taken ready live b p names, chimeStop_taken ready live⟩⟩
  refine exec_refused rfl ready (play b) ?_
  rw [answerChimePlay_live live, toFin?, dif_neg (by omega)]
  rfl

end Sys2Proof.Machine
end

section
/-! PROOFS. The bursts of the playing request (R119, R121, R126): the outputs during a burst, the end of its on-time, and
its end with the count and the request that has played its repeats. -/

namespace Sys2Proof.Machine

section
variable {s : State} {r : ChimeRequest} {due : Nat} {inTone : Bool}

/-! ### The outputs (R119, R121) -/

/-- A requester's request is found, since it holds one. -/
theorem requestOf_eq (h : RequestsLegal s) (held : r ∈ s.chg.requests) : requestOf r.who s = some r := by
  obtain ⟨x, found⟩ := Option.isSome_iff_exists.1 ((requestOf_isSome r.who s).2 ⟨r, held, rfl⟩)
  obtain ⟨member, own⟩ := requestOf_eq_some found
  rw [found, h.who_injective member held own]

theorem playingPattern_eq (h : RequestsLegal s) (held : r ∈ s.chg.requests)
    (plays : s.chg.playing = some ⟨r.who, inTone, due⟩) : playingPattern s = some (patternOf r.pattern s) := by
  rw [playingPattern, playingWho, plays, Option.map_some, Option.bind_some, requestOf_eq h held, Option.map_some]

/-- With nothing playing TONE is low, at level 1. -/
theorem outputs_silent (silent : s.chg.playing = none) :
    toneHalfPeriod s = none ∧ tonePin s = false ∧ levelCode s = 0 := by
  have none : playingPattern s = none := by rw [playingPattern, playingWho, silent]; rfl
  refine ⟨?_, ?_, ?_⟩
  · rw [toneHalfPeriod, silent]
    rfl
  · simp [tonePin, silent]
  · rw [levelCode, none]
    rfl

/-- During an off-time TONE is low. -/
theorem tone_off (plays : s.chg.playing = some ⟨r.who, false, due⟩) : toneHalfPeriod s = none ∧ tonePin s = false := by
  constructor
  · rw [toneHalfPeriod, plays]
    rfl
  · simp [tonePin, plays]

section
variable (h : RequestsLegal s) (held : r ∈ s.chg.requests)
include h held

/-- During an on-time TONE turns over with every half-period, high first. -/
theorem tone_on (plays : s.chg.playing = some ⟨r.who, true, due⟩) :
    toneHalfPeriod s = some ((patternOf r.pattern s).prescale * (patternOf r.pattern s).divider)
      ∧ ∀ began, due = began + 10000 * (patternOf r.pattern s).onTime → began ≤ s.now → s.now < due →
        tonePin s = decide ((s.now - began)
          / ((patternOf r.pattern s).prescale * (patternOf r.pattern s).divider) % 2 = 0) := by
  have pattern := playingPattern_eq h held plays
  refine ⟨?_, fun began ends begun early => ?_⟩
  · rw [toneHalfPeriod, plays, pattern]
    rfl
  · have elapsed : s.now + 10000 * (patternOf r.pattern s).onTime - due = s.now - began := by omega
    simp only [tonePin, plays, pattern, elapsed, early, decide_true, Bool.true_and]
    rfl

theorem levelCode_playing (plays : s.chg.playing = some ⟨r.who, inTone, due⟩) :
    levelCode s = BitVec.ofNat 2 ((patternOf r.pattern s).level - 1) := by
  rw [levelCode, playingPattern_eq h held plays]
  rfl

/-! ### The end of the on-time (R121) -/

theorem exec_onTimeEnd_due (plays : s.chg.playing = some ⟨r.who, true, due⟩) (ended : due ≤ s.now) :
    exec .onTimeEnd s = .next { s with chg := { s.chg with
      playing := some ⟨r.who, false, due + 10000 * (patternOf r.pattern s).offTime⟩ } } := by
  show execOnTimeEnd s = _
  simp only [execOnTimeEnd, plays, ended, if_true, requestOf_eq h held, Option.elim_some]

end

theorem exec_onTimeEnd_idle (plays : s.chg.playing = some ⟨r.who, inTone, due⟩) (idle : inTone = false ∨ s.now < due) :
    exec .onTimeEnd s = .next s := by
  show execOnTimeEnd s = _
  cases inTone with
  | false => simp only [execOnTimeEnd, plays]
  | true =>
    have early : s.now < due := idle.resolve_left nofun
    simp only [execOnTimeEnd, plays, Nat.not_le.2 early, if_false]

theorem exec_burstEnd_idle (plays : s.chg.playing = some ⟨r.who, inTone, due⟩) (idle : inTone = true ∨ s.now < due) :
    exec .burstEnd s = .next s := by
  show execBurstEnd s = _
  cases inTone with
  | true => simp only [execBurstEnd, plays]
  | false =>
    have early : s.now < due := idle.resolve_left nofun
    simp only [execBurstEnd, plays, Nat.not_le.2 early, if_false]

theorem exec_burstEnd_due (plays : s.chg.playing = some ⟨r.who, false, due⟩) (ended : due ≤ s.now) :
    exec .burstEnd s = .next (endBurst r.who s) := by
  show execBurstEnd s = _
  simp only [execBurstEnd, plays, ended, if_true]

/-! ### The burst counted (R126) -/

/-- A request behind the end of a burst of the requester. -/
def countedFor (who : Requester) (r : ChimeRequest) : ChimeRequest :=
  if r.who = who then { r with count := satSucc 255 r.count } else r

/-- The burst counted and over, before a request that is complete is removed. -/
def burstCounted (who : Requester) (s : State) : State :=
  silence { s with chg := { s.chg with requests := s.chg.requests.map (countedFor who) } }

/-- The requests of the requester that are complete with the burst counted. -/
def completedBy (who : Requester) (s : State) : List ChimeRequest :=
  (s.chg.requests.map (countedFor who)).filter fun r => decide (r.who = who) && complete (burstCounted who s) r

theorem endBurst_eq (who : Requester) (s : State) :
    endBurst who s = arbitrate ((completedBy who s).foldl finish (burstCounted who s)) := rfl

/-- The count changes neither whose the request is, nor its pattern, nor its stamp. -/
theorem countedFor_keeps (who : Requester) (r : ChimeRequest) : (countedFor who r).who = r.who
    ∧ (countedFor who r).pattern = r.pattern ∧ (countedFor who r).stamp = r.stamp := by
  unfold countedFor
  split <;> exact ⟨rfl, rfl, rfl⟩

theorem countedFor_other {who : Requester} (other : r.who ≠ who) : countedFor who r = r := if_neg other

/-- With this burst the request has played the repeats of its pattern. -/
def playedOut (r : ChimeRequest) (s : State) : Prop :=
  (patternOf r.pattern s).repeats ≠ 0 ∧ (patternOf r.pattern s).repeats ≤ satSucc 255 r.count

theorem burstCounted_frame (who : Requester) (s : State) : ChangesOnly [.requests, .playing] s (burstCounted who s) := by
  intro p hp
  cases p <;> first | exact OnlyQueues.of_same rfl rfl rfl rfl rfl | simp [Piece.kept, burstCounted] at hp ⊢

theorem burstCounted_legal (who : Requester) (h : RequestsLegal s) : RequestsLegal (burstCounted who s) := by
  have who_same : ChimeRequest.who ∘ countedFor who = ChimeRequest.who :=
    funext fun r => (countedFor_keeps who r).1
  refine ⟨?_, ?_, fun x among => ?_, fun config => ?_⟩
  · show ((s.chg.requests.map (countedFor who)).map ChimeRequest.who).Nodup
    rw [List.map_map, who_same]
    exact h.distinct
  · refine List.pairwise_map.2 (h.ordered.imp fun {a b} earlier => ?_)
    obtain ⟨-, -, stampA⟩ := countedFor_keeps who a
    obtain ⟨-, -, stampB⟩ := countedFor_keeps who b
    rwa [stampA, stampB]
  · obtain ⟨y, held, rfl⟩ := List.mem_map.1 among
    obtain ⟨-, -, stamp⟩ := countedFor_keeps who y
    rw [stamp]
    exact h.stamped y held
  · exact List.map_eq_nil_iff.2 (h.config config)

/-- The request that played is the one that can be complete. -/
theorem mem_completedBy (h : RequestsLegal s) (held : r ∈ s.chg.requests) (x : ChimeRequest) :
    x ∈ completedBy r.who s ↔ x = countedFor r.who r ∧ playedOut r s := by
  have counted : countedFor r.who r = { r with count := satSucc 255 r.count } := if_pos rfl
  have out : complete (burstCounted r.who s) (countedFor r.who r) = true ↔ playedOut r s := by
    rw [counted, complete, playedOut, Bool.and_eq_true, decide_eq_true_eq, decide_eq_true_eq]
    rfl
  constructor
  · intro among
    obtain ⟨image, ends⟩ := List.mem_filter.1 among
    obtain ⟨y, member, rfl⟩ := List.mem_map.1 image
    obtain ⟨own, done⟩ := Bool.and_eq_true_iff.1 ends
    obtain rfl := h.who_injective member held ((countedFor_keeps _ y).1.symm.trans (of_decide_eq_true own))
    exact ⟨rfl, out.1 done⟩
  · rintro ⟨rfl, done⟩
    exact List.mem_filter.2 ⟨List.mem_map_of_mem held,
      Bool.and_eq_true_iff.2 ⟨decide_eq_true (countedFor_keeps _ r).1, out.2 done⟩⟩

/-! ### The two ends of a burst (R126, R142) -/

/-- Behind the end of a burst the winner starts afresh, whoever it is. -/
theorem endBurst_winnerPlays (who : Requester) (h : RequestsLegal s) :
    WinnerPlays none (endBurst who s) := by
  have silent : ((completedBy who s).foldl finish (burstCounted who s)).chg.playing = none := by
    rw [finished_playing]
    rfl
  rw [endBurst_eq, ← silent]
  exact arbitrate_winnerPlays (finished_legal _ (burstCounted_legal who h))

theorem endBurst_chimeLegal (who : Requester) (h : RequestsLegal s) : ChimeLegal (endBurst who s) :=
  (finished_legal _ (burstCounted_legal who h)).arbitrate_chimeLegal

theorem finish_seq (s : State) (r : ChimeRequest) : (finish s r).chg.seq = s.chg.seq := by
  rw [finish, markHeld_chg, removeRequest_seq]

theorem endBurst_seq (who : Requester) (s : State) : (endBurst who s).chg.seq = s.chg.seq := by
  rw [endBurst_eq, arbitrate_eq]
  exact List.foldlRecOn (motive := fun u : State => u.chg.seq = s.chg.seq) _ _ rfl
    fun u same x _ => (finish_seq u x).trans same

theorem endBurst_goesOn (h : RequestsLegal s) (held : r ∈ s.chg.requests) (more : ¬playedOut r s) :
    endBurst r.who s = arbitrate (burstCounted r.who s) := by
  have none : completedBy r.who s = [] :=
    List.eq_nil_iff_forall_not_mem.2 fun x among => more ((mem_completedBy h held x).1 among).2
  rw [endBurst_eq, none, List.foldl_nil]

/-- The completed requests of a burst are the one that played. -/
theorem holdsOne_completedBy (h : RequestsLegal s) (held : r ∈ s.chg.requests) (out : playedOut r s)
    (who : Requester) : holdsOne (completedBy r.who s) who = decide (r.who = who) := by
  rw [Bool.eq_iff_iff, holdsOne, List.any_eq_true, decide_eq_true_eq]
  have own := (countedFor_keeps r.who r).1
  constructor
  · rintro ⟨x, among, same⟩
    obtain ⟨rfl, -⟩ := (mem_completedBy h held x).1 among
    exact own.symm.trans (of_decide_eq_true same)
  · rintro rfl
    exact ⟨_, (mem_completedBy h held _).2 ⟨rfl, out⟩, decide_eq_true own⟩

/-- A pattern played out: its request is gone, and those of all others are as they were. -/
theorem endBurst_requests_out (h : RequestsLegal s) (held : r ∈ s.chg.requests) (out : playedOut r s) :
    (endBurst r.who s).chg.requests = s.chg.requests.filter fun x => x.who ≠ r.who := by
  have removed : (endBurst r.who s).chg.requests
      = (s.chg.requests.map (countedFor r.who)).filter fun x => x.who ≠ r.who := by
    rw [endBurst_eq, arbitrate_requests, finished_requests]
    refine List.filter_congr fun x _ => ?_
    rw [holdsOne_completedBy h held out, ← decide_not]
    exact decide_eq_decide.2 ne_comm
  have others : (s.chg.requests.filter fun x => x.who ≠ r.who).map (countedFor r.who)
      = s.chg.requests.filter fun x => x.who ≠ r.who :=
    (List.map_congr_left (g := id) fun x among =>
      countedFor_other (of_decide_eq_true (List.mem_filter.1 among).2)).trans (List.map_id _)
  rw [removed, List.filter_map, ← others]
  congr 1
  refine List.filter_congr fun x _ => ?_
  rw [Function.comp_apply, (countedFor_keeps r.who x).1]

theorem endBurst_portalRun_out (h : RequestsLegal s) (held : r ∈ s.chg.requests) (out : playedOut r s) (q : Fin 4) :
    portalRun q (endBurst r.who s)
      = if r.who = .portal q then { portalRun q s with held := false } else portalRun q s := by
  have same : portalRun q (burstCounted r.who s) = portalRun q s := rfl
  rw [endBurst_eq, portalRun_of_drm (arbitrate_drm _), finished_portalRun, holdsOne_completedBy h held out, same]
  by_cases own : r.who = .portal q <;> simp [own]

end

/-- Settles O45: the outputs, the two ends before their time, and the end of a burst by whether it is the last. -/
theorem burstsEndAndAreCounted : Obligations.BurstsEndAndAreCounted := by
  refine ⟨fun s => outputs_silent, fun r due inTone s legal held plays => ?_⟩
  have h := legal.requestsLegal
  intro e count
  have counted : satSucc 255 r.count = count := rfl
  refine ⟨?_, ?_, levelCode_playing h held plays, ?_, exec_onTimeEnd_idle plays, exec_burstEnd_idle plays, ?_, ?_⟩
  · rintro rfl
    exact tone_on h held plays
  · rintro rfl
    exact tone_off plays
  · rintro rfl ended
    exact exec_onTimeEnd_due h held plays ended
  · rintro rfl ended more
    have stays : ¬playedOut r s := fun ⟨finite, reached⟩ =>
      more.elim finite fun less => absurd (counted ▸ reached) (Nat.not_le.2 less)
    refine ⟨_, exec_burstEnd_due plays ended, endBurst_winnerPlays _ h, endBurst_chimeLegal _ h, ?_, endBurst_seq _ s,
      ?_, ?_⟩
    · rw [endBurst_goesOn h held stays, arbitrate_requests]
      refine List.map_congr_left fun x member => ?_
      by_cases own : x.who = r.who
      · obtain rfl := h.who_injective member held own
        rfl
      · rw [countedFor_other own, if_neg own]
    · rw [endBurst_goesOn h held stays, arbitrate_drm]
      rfl
    · rw [endBurst_goesOn h held stays]
      exact (burstCounted_frame _ s).trans ((arbitrate_frame _).mono (by decide))
  · rintro rfl ended finite reached
    exact ⟨_, exec_burstEnd_due plays ended, endBurst_winnerPlays _ h, endBurst_chimeLegal _ h,
      endBurst_requests_out h held ⟨finite, reached⟩, endBurst_portalRun_out h held ⟨finite, reached⟩, endBurst_seq _ s,
      endBurst_frame _ s⟩

end Sys2Proof.Machine
end

section
/-! PROOFS. The invariant of the chime generator (R121, R122, R124, R128, R129): the changes of operating state and the
resets, and the records and requests that come through the links. -/

namespace Sys2Proof.Machine

/- One proof after the other: together they need more threads than the memory of a check has room for. -/
set_option Elab.async false

section
variable {s : State}

/-! ### The operating states (R127 to R129) -/

theorem endTest_chimeLegal (h : ChimeLegal s) : ChimeLegal (endTest s) := by
  by_cases idle : s.wsp.test = none
  · rw [endTest_none idle]
    exact h
  · obtain ⟨-, -, -, keeps, -⟩ := endTest_ended idle
    exact keeps h

/-- PARKED is entered with no request held, whatever was held before. -/
theorem enterParked_chimeLegal (cause : StateCause) (s : State) : ChimeLegal (enterParked cause s) := by
  obtain ⟨requests, playing, -, -⟩ := enterParked_outputs cause s
  exact chimeLegal_of_silence requests playing

theorem takeZeroDelay_chimeLegal (h : ChimeLegal s) : ChimeLegal (takeZeroDelay s) := by
  unfold takeZeroDelay
  split
  · exact enterParked_chimeLegal _ s
  · exact h

/-- A state other than CONFIG is entered with the requests that are held. -/
theorem setOpState_chimeLegal {state : OpState} (entered : state ≠ .config) (cause : StateCause) (h : ChimeLegal s) :
    ChimeLegal (setOpState state cause s) := by
  refine h.of_chg ((setOpState_frame state cause s).chg (by decide) (by decide) (by decide)) ?_
  rwa [setOpState_opState]

theorem enterRun_chimeLegal (cause : StateCause) (fromParked : Bool) (h : ChimeLegal s) :
    ChimeLegal (enterRun cause fromParked s) :=
  takeZeroDelay_chimeLegal (((setOpState_chimeLegal (by decide) cause h).of_frame (parkDelayAtRun_frame _)).of_frame
    (tellRunFreely_frame fromParked _))

theorem enterSweep_chimeLegal (h : ChimeLegal s) : ChimeLegal (enterSweep s) :=
  endTest_chimeLegal ((setOpState_chimeLegal (by decide) .sweepRequest h).of_frame (setPhase_frame (some .rise) _))

theorem leaveSweep_chimeLegal (cause : StateCause) (h : ChimeLegal s) : ChimeLegal (leaveSweep cause s) :=
  takeZeroDelay_chimeLegal (((setOpState_chimeLegal (by decide) cause (h.of_frame (dropSweepReport_frame s))).of_frame
    (parkDelayAtRun_frame _)).of_frame (gdrEnterRun_frame _))

/-- The commanded reset removes every request, so it needs none to be legal before. -/
theorem commandedReset_chimeLegal (s : State) : ChimeLegal (commandedReset s) := by
  obtain ⟨requests, playing⟩ :=
    throughDoors_silent (decide (s.opState = .parked)) (setOpState .config .reset (emptyQueues s))
  rw [commandedReset, resetBlocks_eq]
  exact endTest_chimeLegal (((chimeLegal_of_silence requests playing).of_frame (fltReset_frame _)).of_frame
    (abandonResponse_frame _))

theorem powerOn_chimeLegal (s : State) : ChimeLegal (powerOn s) :=
  (reset_chimeLegal.of_same (t := { State.reset with
    freeCount := s.freeCount, pending := s.pending, cli := { Cli.reset with lrdy := s.cli.lrdy } }) rfl rfl).of_frame
    (transmit_frame _)

theorem takeIgnition_chimeLegal (h : ChimeLegal s) : ChimeLegal (takeIgnition s) := by
  unfold takeIgnition
  split
  · exact h
  · split
    · exact enterRun_chimeLegal _ _ h
    · exact h
  all_goals
    split
    · split
      · exact h
      · exact takeZeroDelay_chimeLegal (h.of_frame (startParkDelay_frame s))
    · exact h

theorem takeSpeed_chimeLegal (h : ChimeLegal s) : ChimeLegal (takeSpeed s) := by
  unfold takeSpeed
  split
  · exact leaveSweep_chimeLegal _ h
  · exact h

theorem reportChange_chimeLegal (i : Slot) (h : ChimeLegal s) : ChimeLegal (reportChange i s) := by
  unfold reportChange
  split
  · exact h.of_frame (joinUpdates_frame i s)
  · exact h

theorem takeNotification_chimeLegal (i : Slot) (h : ChimeLegal s) : ChimeLegal (takeNotification i s) := by
  unfold takeNotification
  refine reportChange_chimeLegal i ?_
  split
  · exact takeIgnition_chimeLegal h
  · split
    · exact takeSpeed_chimeLegal h
    · exact h

/-! ### Records (R120, R127, R175) -/

/-- A pattern write: in CONFIG no request is held, and elsewhere CHG arbitrates behind it (R120). -/
theorem writePattern_chimeLegal (p : Fin 8) (e : PatternEntry) (h : ChimeLegal s) : ChimeLegal (writePattern p e s) := by
  by_cases config : s.opState = .config
  · obtain ⟨-, -, -, empty, silent, -⟩ := h
    rw [writePattern_config config]
    exact chimeLegal_of_silence (empty config) (silent.2 (empty config))
  · rw [writePattern_acted config]
    exact (patternActed_legal h.requestsLegal).arbitrate_chimeLegal

/-- An accepted record that leaves the chime generator and the operating state. -/
theorem Answer.keepsChime {ps : List Piece} {f : State → State} {data : List Byte} (frame : ∀ u, ChangesOnly ps u (f u))
    (apart : ∀ p ∈ chimePieces, p ∉ ps := by decide) : (accepted data f).Keeps ChimeLegal :=
  fun u h => h.of_frame (frame u) apart

theorem answerTableWrite_keepsChime (body : List Byte) (s : State) : (answerTableWrite body s).Keeps ChimeLegal := by
  unfold answerTableWrite
  split
  · exact Answer.keeps_refuse _
  split
  · exact Answer.keeps_tableWrite _ _ _ _ fun i e _ u h => h.of_frame (writeFrame_frame i e u)
  · exact Answer.keeps_tableWrite _ _ _ _ fun i e _ u h =>
      (h.of_frame (takeEntry_frame i e u)).of_frame (restartReporting_frame i e.report _)
  · exact Answer.keeps_tableWrite _ _ _ _ fun _ e _ u h => h.of_frame (writeLink_frame e u)
  · exact Answer.keeps_tableWrite _ _ _ _ fun l e _ u h => h.of_frame (writeLine_frame l e u)
  · exact Answer.keeps_tableWrite _ _ _ _ fun i e _ u h => h.of_frame (writeCurve_frame i e u)
  · exact Answer.keeps_tableWrite _ _ _ _ fun _ e _ u h => h.of_frame (writeScan_frame e u)
  · exact Answer.keeps_tableWrite _ _ _ _ fun l e _ u h => h.of_frame (writeDoor_frame l e u)
  · exact Answer.keeps_tableWrite _ _ _ _ fun c e _ u h =>
      (h.of_frame (writeGauge_frame c e u)).of_frame (tellChanged_frame 7 c _)
  · exact Answer.keeps_tableWrite _ _ _ _ fun i e _ u h => h.of_frame (writeWarning_frame i e _ u)
  · exact Answer.keeps_tableWrite _ _ _ _ fun p e _ u h =>
      (writePattern_chimeLegal p e h).of_frame (tellChanged_frame 9 p _)
  · exact Answer.keeps_tableWrite _ _ _ _ fun c e _ u h =>
      (h.of_frame (writeClass_frame c e u)).of_frame (tellChanged_frame 10 c _)
  · exact Answer.keeps_withLength _ _ (Answer.keeps_ite (Answer.keeps_ite (Answer.keeps_elim _ _ fun e _ =>
      Answer.keepsChime (writeCalibration_frame e _ _ _)) (Answer.keeps_refuse _)) (Answer.keeps_refuse _))
  · exact Answer.keeps_refuse _

theorem answerStart_keepsChime (body : List Byte) (s : State) : (answerStart body s).Keeps ChimeLegal := by
  refine Answer.keeps_withLength _ _ (Answer.keeps_whenState _ ?_)
  split
  · exact fun _ h => h
  · exact fun u h => enterRun_chimeLegal _ _ (h.of_same (t := { u with flt := { u.flt with firstStart := true } }) rfl rfl)

/-- What carrying a record out does keeps the chime generator legal. -/
theorem answerRecord_keepsChime (r : ClRecord) (s : State) : (answerRecord r s).Keeps ChimeLegal := by
  unfold answerRecord
  split
  · exact answerTableWrite_keepsChime _ s
  · exact answerTableRead_keeps _ s
  · exact Answer.keeps_withLength _ _ (Answer.keeps_read _)
  · exact Answer.keeps_withLength _ _ (Answer.keeps_whenState _ (Answer.keeps_ite (Answer.keeps_read _)
      (Answer.keeps_refuse _)))
  · exact answerStart_keepsChime _ s
  · exact Answer.keeps_withLength _ _ (Answer.keeps_whenState _ (Answer.keeps_ite
      (Answer.keeps_accepted fun _ => enterSweep_chimeLegal) (Answer.keeps_refuse _)))
  · exact Answer.keeps_withLength _ _ (Answer.keeps_whenState _ (Answer.keeps_accepted fun u _ =>
      enterParked_chimeLegal _ u))
  · exact Answer.keeps_withLength _ _ (Answer.keeps_accepted fun u _ => commandedReset_chimeLegal u)
  · exact Answer.keeps_withLength _ _ (Answer.keeps_whenState _ (Answer.keeps_elim _ _ fun entry _ =>
      Answer.keepsChime (acknowledgeNamed_frame entry)))
  · exact Answer.keeps_withLength _ _ (Answer.keeps_ite (Answer.keepsChime (clearObserved_frame _ _))
      (Answer.keeps_refuse _))
  · exact Answer.keeps_withLength _ _ (Answer.keeps_whenState _ (Answer.keeps_elim _ _ fun p _ =>
      Answer.keeps_accepted fun _ => place_chimeLegal _ p))
  · exact Answer.keeps_withLength _ _ (Answer.keeps_whenState _ (Answer.keeps_accepted fun _ => withdraw_chimeLegal _))
  · exact Answer.keeps_withLength _ _ (Answer.keeps_ite (Answer.keepsChime (valueWrite_frame _ _ _))
      (Answer.keeps_ite (Answer.keepsChime (valueWrite_frame _ _ _)) (Answer.keeps_refuse _)))
  · exact Answer.keeps_withLength _ _ (Answer.keeps_ite (Answer.keeps_refuse _) (Answer.keeps_ite
      (Answer.keepsChime (loadOdometer_frame _)) (Answer.keeps_refuse _)))
  · exact Answer.keeps_withLength _ _ (Answer.keepsChime closeWindow_frame)
  · exact Answer.keeps_withLength _ _ (Answer.keeps_ite (Answer.keeps_elim _ _ fun r _ => Answer.keeps_ite
      (Answer.keeps_refuse _) (Answer.keeps_ite (Answer.keepsChime (restoreRecord_frame r))
        (Answer.keeps_refuse _))) (Answer.keeps_refuse _))
  · exact Answer.keeps_withLength _ _ (answerFaultRecord_keeps _ s)
  · exact Answer.keeps_withLength _ _ (Answer.keeps_whenState _ (Answer.keepsChime (clearLatch_frame _)))
  · exact Answer.keeps_withLength _ _ (Answer.keeps_read _)
  · exact Answer.keeps_refuse _

theorem executeRecord_keepsChime (r : ClRecord) (s : State) (h : ChimeLegal s) : ChimeLegal (executeRecord r s) :=
  answerRecord_keepsChime r s _ (respond_chimeLegal h _ _ _)

theorem inbound_keepsChime (s : State) (l : List ClRecord) (h : ChimeLegal s) :
    ChimeLegal { s with cli := { s.cli with inbound := l } } := h.of_same rfl rfl

theorem takeRecord_keepsChime (kind : Byte) (body : List Byte) (h : ChimeLegal s) :
    ChimeLegal (takeRecord kind body s) :=
  takeRecord_keeps executeRecord_keepsChime inbound_keepsChime (fun k u hu => hu.of_frame (respondDiscard_frame k u))
    kind body h

theorem discardRecord_keepsChime (h : ChimeLegal s) : ChimeLegal (discardRecord s) :=
  (h.of_frame (setRx_frame .hunt s)).of_frame (respondDiscard_frame 0 _)

/-- A byte is taken, ends a record that is executed, or discards one (R167). -/
theorem takeByte_keepsChime (byte : Byte) (framingError : Bool) (h : ChimeLegal s) :
    ChimeLegal (takeByte byte framingError s) := by
  have inside (rx : Receiver) : ChimeLegal (takeInside rx s) := h.of_same rfl rfl
  have discarded := discardRecord_keepsChime h
  unfold takeByte
  split
  · split
    · exact inside _
    · exact h
  · split
    · exact discarded
    · split
      · exact inside _
      · exact discarded
  · split
    · exact discarded
    · exact inside _
  · split
    · exact discarded
    · unfold takeCheck
      split
      · exact takeRecord_keepsChime _ _ (h.of_frame (setRx_frame .hunt s))
      · exact discarded

/-! ### Requests (R127, R186, R192) -/

theorem answerTest_keepsChime {test : Option OutputTest} {begin : State → State}
    (begun : ∀ u, ChimeLegal u → ChimeLegal (begin u)) : (answerTest test begin s).Keeps ChimeLegal :=
  Answer.keeps_ite (Answer.keeps_elim _ _ fun t _ => Answer.keeps_ite
    (Answer.keeps_accepted fun u h => begun _ (h.of_frame (startTest_frame t u))) (Answer.keeps_refuse _))
    (Answer.keeps_refuse _)

theorem answerTestChime_keepsChime (b : List Byte) : (answerTestChime b s).Keeps ChimeLegal := by
  refine answerTest_keepsChime fun u h => ?_
  cases toFin? 8 (u8 b 0) with
  | none => exact h
  | some p => exact place_chimeLegal .workshop p h

/-- What each service does keeps the chime generator legal. -/
theorem answerRequest_keepsChime (service : Byte) (params : List Byte) (s : State) :
    (answerRequest service params s).Keeps ChimeLegal := by
  unfold answerRequest
  split
  · exact Answer.keeps_refuse _
  · rename_i n a answer
    refine Answer.keeps_ite (Answer.keeps_refuse _) ?_
    unfold serviceOf at answer
    split at answer
    case h_15 => exact absurd answer nofun
    all_goals obtain ⟨rfl, rfl⟩ := Prod.mk.inj (Option.some.inj answer)
    case h_1 | h_2 | h_5 | h_9 | h_14 => exact fun _ h => h
    case h_3 => exact answerFaultRecord_keeps _ s
    case h_4 => exact Answer.keeps_ite (Answer.keepsChime clearFaults_frame) (Answer.keeps_refuse _)
    case h_6 => exact Answer.keeps_elim _ _ fun _ _ => Answer.keeps_read _
    case h_7 => exact Answer.keeps_elim _ _ fun _ _ => Answer.keeps_read _
    case h_8 =>
      exact Answer.keeps_elim _ _ fun p _ => Answer.keeps_ite (Answer.keepsChime (clearDoorCounters_frame p))
        (Answer.keeps_refuse _)
    case h_10 =>
      exact Answer.keeps_elim _ _ fun _ _ => Answer.keeps_ite (Answer.keeps_elim _ _ fun e _ =>
        Answer.keepsChime (writeCalibration_frame e _ _ _)) (Answer.keeps_refuse _)
    case h_11 => exact answerTest_keepsChime fun _ h => h
    case h_12 => exact answerTest_keepsChime fun _ h => h
    case h_13 => exact answerTestChime_keepsChime params

theorem takeRequest_keepsChime (head : FrameHead) (data : List Byte) (h : ChimeLegal s) :
    ChimeLegal (takeRequest head data s) := by
  unfold takeRequest
  split
  · have idle := (endTest_chimeLegal h).of_frame (abandonResponse_frame _)
    unfold serve
    split
    · exact idle.of_frame (startResponse_frame _ _ _ _)
    · exact (answerRequest_keepsChime _ _ _ _ idle).of_frame (startResponse_frame _ _ _ _)
  · exact h

end

end Sys2Proof.Machine
end

section
/-! PROOFS. Every step keeps one chime request for a requester and the winner playing (R121, R122, R124): the commands that
leave the chime generator and the operating state, and the few that do not. -/

namespace Sys2Proof.Machine

/- One proof after the other: together they need more threads than the memory of a check has room for. -/
set_option Elab.async false

section
variable {s t u : State} {ps : List Piece}

theorem Leads.mono {P Q : State → Prop} {o : Host.Outcome State Fault Refusal} (h : Leads P o) (k : ∀ t, P t → Q t) :
    Leads Q o := by
  cases o with
  | next t => exact k t h
  | fault _ => trivial
  | refused _ => trivial

/-! ### Commands that leave the chime generator and the operating state -/

/-- The chime generator and the operating state are left as they are. -/
def LeavesChime (s t : State) : Prop := t.chg = s.chg ∧ t.opState = s.opState

theorem LeavesChime.refl (s : State) : LeavesChime s s := ⟨rfl, rfl⟩

theorem LeavesChime.of_frame (frame : ChangesOnly ps s t) (apart : ∀ p ∈ chimePieces, p ∉ ps := by decide) :
    LeavesChime s t :=
  ⟨frame.chg (apart _ (by decide)) (apart _ (by decide)) (apart _ (by decide)), frame .opState (apart _ (by decide))⟩

theorem LeavesChime.trans (h : LeavesChime s t) (k : LeavesChime t u) : LeavesChime s u :=
  ⟨k.1.trans h.1, k.2.trans h.2⟩

theorem ChimeLegal.of_leaves (h : ChimeLegal s) (left : LeavesChime s t) : ChimeLegal t := h.of_same left.1 left.2

/-- An arrival taken, and what the block it is addressed to does. -/
theorem LeavesChime.of_arrival (c : Instr) (frame : ChangesOnly ps (takeArrival c s) t)
    (apart : ∀ p ∈ chimePieces, p ∉ ps := by decide) : LeavesChime s t :=
  (LeavesChime.of_frame (takeArrival_frame c s)).trans (.of_frame frame apart)

theorem discardRecord_leavesChime (s : State) : LeavesChime s (discardRecord s) :=
  (LeavesChime.of_frame (setRx_frame .hunt s)).trans (.of_frame (respondDiscard_frame 0 _))

/-- The transmitter chooses, behind a change of its own registers. -/
theorem transmit_leavesChime (h : LeavesChime s t) : LeavesChime s (transmit t) := h.trans (.of_frame (transmit_frame t))

theorem execFrameReceived_leavesChime (port : VehiclePort) (extended : Bool) (ident : BitVec 29) (dlc : BitVec 4)
    (data : List Byte) (s : State) :
    Leads (LeavesChime s) (execFrameReceived port extended ident dlc data s) := by
  unfold execFrameReceived
  split
  · exact .refl s
  · split
    · exact .refl s
    · exact .of_frame (takeFrame_frame _ _ _ s)

theorem execScanSlotExpiry_leavesChime (code : BitVec 10) (s : State) :
    Leads (LeavesChime s) (execScanSlotExpiry code s) := by
  unfold execScanSlotExpiry
  split
  · exact .refl s
  · refine .ite (fun _ => LeavesChime.trans ?_ (.of_frame (nextScanSlot_frame _ _))) (.refl s)
    split
    · exact .of_frame (sampleLine_frame _ _ s)
    · exact .refl s

theorem execParkedPassStart_leavesChime (s : State) : Leads (LeavesChime s) (execParkedPassStart s) := by
  unfold execParkedPassStart
  split
  · exact .refl s
  · exact .ite (fun _ => .of_frame (startPass_frame _ s)) (.refl s)

theorem execBoundCheck_leavesChime (s : State) : Leads (LeavesChime s) (execBoundCheck s) := by
  unfold execBoundCheck
  split
  · rename_i due _
    have timed : LeavesChime s { s with sdu := { s.sdu with boundDue := some (due + 10000) } } := ⟨rfl, rfl⟩
    exact .ite (fun _ => timed.trans (.of_frame (checkBound_frame _))) (.refl s)
  · exact .refl s

theorem execGaugeInterval_leavesChime (s : State) : Leads (LeavesChime s) (execGaugeInterval s) := by
  have timed : LeavesChime s { s with gdr := { s.gdr with intervalDue := s.gdr.intervalDue + 10000 } } := ⟨rfl, rfl⟩
  exact .ite (fun _ => timed.trans (.of_frame (runInterval_frame _))) (.refl s)

theorem execWarningTimerExpiry_leavesChime (i : Fin 96) (s : State) :
    Leads (LeavesChime s) (execWarningTimerExpiry i s) := by
  unfold execWarningTimerExpiry
  split
  · exact .refl s
  · exact .ite (fun _ => .of_frame (changeState_frame _ _ _ s)) (.refl s)

theorem execPortRateTakesEffect_leavesChime (port : CanPort) (s : State) :
    Leads (LeavesChime s) (execPortRateTakesEffect port s) := by
  cases port with
  | va => exact ⟨rfl, rfl⟩
  | vb => exact ⟨rfl, rfl⟩
  | ws =>
    unfold execPortRateTakesEffect
    simp only
    split
    · exact .refl s
    · exact .of_frame (applyWsSettings_frame s)

/-- The WS port's own commands change registers of WSP alone. -/
theorem execSegmentSent_leavesChime (s : State) : Leads (LeavesChime s) (execSegmentSent s) := by
  unfold execSegmentSent
  split
  · exact .refl s
  · split
    · exact ⟨rfl, rfl⟩
    · split <;> exact ⟨rfl, rfl⟩

theorem execSegmentFailed_leavesChime (s : State) : Leads (LeavesChime s) (execSegmentFailed s) := by
  unfold execSegmentFailed
  split
  · exact .refl s
  · simp only
    split <;> exact ⟨rfl, rfl⟩

theorem execPacingExpiry_leavesChime (s : State) : Leads (LeavesChime s) (execPacingExpiry s) := by
  unfold execPacingExpiry
  split
  · exact .ite (fun _ => ⟨rfl, rfl⟩) (.refl s)
  · exact .refl s

/-- The commands that act on the chime generator or on the operating state, or run what waits to do so. -/
def actsOnChime : Instr → Bool
  | .powerOnReset | .receivedByte _ _ | .homingEnd | .sweepComplete | .requestPlacing _ _ | .requestWithdrawal _
  | .onTimeEnd | .burstEnd | .cliNotification _ | .parkDelayExpiry | .wspSpeedNotification | .testTimerExpiry => true
  | _ => false

/-- Every other command that is no record and no request leaves the two as they are. -/
theorem exec_leavesChime {c : Instr} (record : managementRecord c = none) (request : requestData c = none)
    (apart : actsOnChime c = false) (s : State) : Leads (LeavesChime s) (exec c s) := by
  cases c
  case clRecordDiscard => exact discardRecord_leavesChime s
  case receiveGapExpiry => exact .ite (fun _ => discardRecord_leavesChime s) (.refl s)
  case lrdyAsserted => exact transmit_leavesChime (t := { s with cli := { s.cli with lrdy := true } }) ⟨rfl, rfl⟩
  case lrdyDeasserted => exact ⟨rfl, rfl⟩
  case recordTransmitEnd =>
    exact .ite (fun _ => transmit_leavesChime (t := { s with cli := { s.cli with tx := none } }) ⟨rfl, rfl⟩) (.refl s)
  case heartbeat i => exact .ite (fun _ => .of_frame (joinUpdates_frame i s)) (.refl s)
  case minimumIntervalReached i => exact .ite (fun _ => .of_frame (transmit_frame s)) (.refl s)
  case portRateTakesEffect port => exact execPortRateTakesEffect_leavesChime port s
  case frameReceived port extended ident dlc data => exact execFrameReceived_leavesChime port extended ident dlc data s
  case frameTimerExpiry i => exact .ite (fun _ => .of_frame (lapse_frame i s)) (.refl s)
  case scanSlotExpiry code => exact execScanSlotExpiry_leavesChime code s
  case parkedPassStart => exact execParkedPassStart_leavesChime s
  case piEdge => exact .ite (fun _ => .of_frame (acceptEdge_frame s)) (.refl s)
  case boundCheck => exact execBoundCheck_leavesChime s
  case standstillTimerExpiry => exact .ite (fun _ => .of_frame (takeStandstill_frame s)) (.refl s)
  case plausibilityTimerExpiry => exact .ite (fun _ => ⟨rfl, rfl⟩) (.refl s)
  case frameSpeedNotification => exact .of_arrival _ (reform_frame _)
  case gaugeInterval => exact execGaugeInterval_leavesChime s
  case evaluation i => exact .of_arrival _ (evaluateWhere_frame _ _ _)
  case warningTimerExpiry i => exact execWarningTimerExpiry_leavesChime i s
  case doorInputNotification i => exact .of_arrival _ (notifyDoors_frame i _)
  case transitTimerExpiry l => exact .ite (fun _ => .of_frame (expireTransit_frame l s)) (.refl s)
  case faultConditionStart code cls => exact .of_arrival _ (startCondition_frame code cls _)
  case faultConditionEnd code cls => exact .of_arrival _ (endCondition_frame code _)
  case agingPass => exact .of_arrival _ (ageRecords_frame _)
  case pacingExpiry => exact execPacingExpiry_leavesChime s
  case segmentSent => exact execSegmentSent_leavesChime s
  case segmentFailed => exact execSegmentFailed_leavesChime s
  case busOffRecovery => exact .ite (fun _ => ⟨rfl, rfl⟩) (.refl s)
  case flashClock => exact .ite (fun _ => ⟨rfl, rfl⟩) (.refl s)
  all_goals simp [managementRecord, requestData] at record request
  all_goals exact absurd apart.symm Bool.false_ne_true

/-! ### Commands that act on the chime generator or the operating state -/

/-- The burst goes on in its off-time, and its requester stays the winner (R121). -/
theorem execOnTimeEnd_keepsChime (h : ChimeLegal s) : Leads ChimeLegal (execOnTimeEnd s) := by
  unfold execOnTimeEnd
  split
  · rename_i who due plays
    refine .ite (fun _ => ?_) h
    obtain ⟨r, held, -⟩ := h.player_holds plays
    obtain ⟨distinct, ordered, stamped, config, -, winnerOf⟩ := h
    refine ⟨distinct, ordered, stamped, config, ⟨nofun, fun none => absurd none (List.ne_nil_of_mem held)⟩,
      fun b playing => ?_⟩
    obtain rfl := Option.some.inj playing
    exact winnerOf ⟨who, true, due⟩ plays
  · exact h

theorem execBurstEnd_keepsChime (h : ChimeLegal s) : Leads ChimeLegal (execBurstEnd s) := by
  unfold execBurstEnd
  split
  · exact .ite (fun _ => endBurst_chimeLegal _ h.requestsLegal) h
  · exact h

/-- The records behind a held START are executed as homing ends (R92, R168). -/
theorem execHomingEnd_keepsChime (h : ChimeLegal s) : Leads ChimeLegal (execHomingEnd s) := by
  have taken := h.of_frame (takeArrival_frame .homingEnd s)
  exact .ite (fun _ => drainInbound_keeps executeRecord_keepsChime inbound_keepsChime _
    (taken.of_frame (endHoming_frame _))) taken

theorem execSweepComplete_keepsChime (h : ChimeLegal s) : Leads ChimeLegal (execSweepComplete s) := by
  have taken := h.of_frame (takeArrival_frame .sweepComplete s)
  exact .ite (fun _ => leaveSweep_chimeLegal _ taken) taken

theorem execWspSpeedNotification_keepsChime (h : ChimeLegal s) : Leads ChimeLegal (execWspSpeedNotification s) := by
  have taken := h.of_frame (takeArrival_frame .wspSpeedNotification s)
  unfold execWspSpeedNotification
  simp only
  split
  · exact endTest_chimeLegal taken
  · exact taken

theorem exec_actsOnChime {c : Instr} (acts : actsOnChime c = true) (h : ChimeLegal s) : Leads ChimeLegal (exec c s) := by
  cases c
  case powerOnReset => exact powerOn_chimeLegal s
  case receivedByte byte framingError => exact takeByte_keepsChime byte framingError h
  case homingEnd => exact execHomingEnd_keepsChime h
  case sweepComplete => exact execSweepComplete_keepsChime h
  case requestPlacing who p => exact place_chimeLegal who p (h.of_frame (takeArrival_frame _ s))
  case requestWithdrawal who =>
    exact (withdraw_chimeLegal who (h.of_frame (takeArrival_frame _ s))).of_frame (markHeld_frame who false _)
  case onTimeEnd => exact execOnTimeEnd_keepsChime h
  case burstEnd => exact execBurstEnd_keepsChime h
  case cliNotification i => exact takeNotification_chimeLegal i (h.of_frame (takeArrival_frame _ s))
  case parkDelayExpiry => exact .ite (fun _ => enterParked_chimeLegal _ s) h
  case wspSpeedNotification => exact execWspSpeedNotification_keepsChime h
  case testTimerExpiry => exact .ite (fun _ => endTest_chimeLegal h) h
  all_goals exact absurd acts Bool.false_ne_true

/-! ### Every command and every step -/

theorem exec_keepsChime (c : Instr) (h : ChimeLegal s) : Leads ChimeLegal (exec c s) := by
  cases record : managementRecord c with
  | some r =>
    rw [exec_record record]
    exact takeRecord_keepsChime _ _ h
  | none =>
    cases request : requestData c with
    | some d =>
      rw [exec_request (head := d.1) (data := d.2) request]
      exact takeRequest_keepsChime _ _ h
    | none =>
      cases acts : actsOnChime c with
      | true => exact exec_actsOnChime acts h
      | false => exact (exec_leavesChime record request acts s).mono fun _ => h.of_leaves

theorem idle_leavesChime (s : State) : LeavesChime s (idle s) := by
  unfold idle
  split
  · exact .of_frame (putInFront_frame _ s)
  · exact .of_frame (tick_frame s)

end

/-- Settles O57: a command on the queue keeps the chime generator legal, and the part by itself leaves it as it is. -/
theorem stepKeepsChime : Obligations.StepKeepsChime := by
  intro s t legal next
  refine Leads.next (o := step s) ?_ next
  unfold step
  split
  · rename_i c rest _
    exact exec_keepsChime c (legal.of_same (t := { s with pending := rest }) rfl rfl)
  · exact legal.of_leaves (idle_leavesChime s)

end Sys2Proof.Machine
end

section
/-! PROOFS. The door monitor's events and the stop-request latch (R141, R144), and with them STOP_REQUEST_CLEAR. -/

namespace Sys2Proof.Machine

section
variable {s t u : State} {es fs : List Event} {ps : List Piece}

/-! ### Door events (R141, R172) -/

/-- Between two states these events were told of, and no others: where nothing can be sent they stand in the queue, and in
PARKED they have asserted WAKE. -/
def Woken (es : List Event) (s t : State) : Prop :=
  t.opState = s.opState
    ∧ (sendingHeld s = true → sendingHeld t = true ∧ Queued es s t
      ∧ t.cli.wake = (s.cli.wake || (decide (s.opState = .parked) && !es.isEmpty)))

namespace Woken

theorem of_same (cli : t.cli = s.cli) (op : t.opState = s.opState) : Woken [] s t := by
  refine ⟨op, fun held => ⟨?_, ?_, ?_⟩⟩
  · rw [sendingHeld, cli]
    exact held
  · exact (Queued.nil s).of_same (by rw [cli]) (by rw [cli])
  · rw [cli, List.isEmpty_nil, Bool.not_true, Bool.and_false, Bool.or_false]

theorem refl (s : State) : Woken [] s s := of_same rfl rfl

theorem trans (h : Woken es s t) (k : Woken fs t u) : Woken (es ++ fs) s u := by
  obtain ⟨opT, wokenT⟩ := h
  obtain ⟨opU, wokenU⟩ := k
  refine ⟨opU.trans opT, fun held => ?_⟩
  obtain ⟨heldT, queuedT, wakeT⟩ := wokenT held
  obtain ⟨heldU, queuedU, wakeU⟩ := wokenU heldT
  refine ⟨heldU, queuedT.append queuedU, ?_⟩
  rw [wakeU, wakeT, opT]
  cases es <;> cases fs <;> cases s.cli.wake <;> simp

/-- Events behind a part that told of none. -/
theorem after (h : Woken [] s t) (k : Woken es t u) : Woken es s u := h.trans k

/-- Events before a part that tells of none. -/
theorem before (h : Woken es s t) (k : Woken [] t u) : Woken es s u := List.append_nil es ▸ h.trans k

end Woken

theorem doorEvent_woken (e : Event) (s : State) : Woken [e] s (doorEvent e s) := by
  have frame := doorEvent_frame e s
  refine ⟨frame .opState (by decide), fun held => ⟨(frame .queues (by decide)).held held, ?_⟩⟩
  have heldW : sendingHeld (if s.opState = .parked then assertWake s else s) = true := by
    split <;> exact held
  have eventsW : (if s.opState = .parked then assertWake s else s).cli.events = s.cli.events := by split <;> rfl
  have overrunW : (if s.opState = .parked then assertWake s else s).cli.overrun = s.cli.overrun := by split <;> rfl
  have wakeW : (if s.opState = .parked then assertWake s else s).cli.wake
      = (s.cli.wake || (decide (s.opState = .parked) && !([e] : List Event).isEmpty)) := by
    by_cases parked : s.opState = .parked <;> simp [parked]
  rw [doorEvent, queueEvent_held e heldW, eventsW, ← wakeW]
  unfold Queued
  split
  · rename_i room
    refine ⟨⟨?_, ?_⟩, rfl⟩
    · rw [List.take_of_length_le (by rw [List.length_singleton]; omega)]
    · rw [decide_eq_false (by rw [List.length_singleton]; omega), Bool.or_false]
      exact overrunW
  · rename_i full
    have none : 64 - s.cli.events.length = 0 := by omega
    refine ⟨⟨?_, ?_⟩, rfl⟩
    · rw [none, List.take_zero, List.append_nil]
      exact eventsW
    · rw [none, decide_eq_true (by rw [List.length_singleton]; omega), Bool.or_true]

theorem valueWrite_woken (i : Slot) (v : Int) (q : Quality) (s : State) : Woken [] s (valueWrite i v q s) := by
  refine .of_same ?_ (valueWrite_frame i v q s .opState (by decide))
  rw [valueWrite, putRecord_eq]

/-! ### The latch cleared (R144) -/

/-- STOP_REQUEST written 0, with the latch and every requested flag cleared, before the event. -/
def unlatched (s : State) : State :=
  let s' := valueWrite stopRequest 0 .valid s
  { s' with drm := { s'.drm with
      latch := false, portals := mapTable (fun r => { r with requested := false }) s'.drm.portals } }

theorem clearLatch_set (source : Option (Fin 4)) (set : s.drm.latch = true) :
    clearLatch source s = doorEvent (.stopRequest false source) (unlatched s) := by
  rw [clearLatch, if_pos set, unlatched]

theorem clearLatch_clear (source : Option (Fin 4)) (clear : s.drm.latch = false) : clearLatch source s = s := by
  rw [clearLatch, if_neg (by rw [clear]; decide)]

theorem unlatched_portalRun (p : Fin 4) (s : State) :
    portalRun p (unlatched s) = { portalRun p s with requested := false } := by
  have portals : (valueWrite stopRequest 0 .valid s).drm.portals = s.drm.portals :=
    valueWrite_frame _ _ _ s .portals (by decide)
  show (mapTable _ (valueWrite stopRequest 0 .valid s).drm.portals)[p] = _
  rw [mapTable_getElem, portals, portalRun]

theorem unlatched_slot (k : Slot) (s : State) :
    (unlatched s).slot k = if k = stopRequest then ⟨0, .valid, some s.now⟩ else s.slot k :=
  valueWrite_internal_slot (i := stopRequest) rfl 0 .valid s k

/-- What is left behind a cleared latch. -/
theorem clearLatch_cleared (source : Option (Fin 4)) (set : s.drm.latch = true) :
    (clearLatch source s).drm.latch = false
      ∧ (∀ p, portalRun p (clearLatch source s) = { portalRun p s with requested := false })
      ∧ (∀ k, (clearLatch source s).slot k = if k = stopRequest then ⟨0, .valid, some s.now⟩ else s.slot k) := by
  have told := doorEvent_frame (.stopRequest false source) (unlatched s)
  rw [clearLatch_set source set]
  refine ⟨told .latch (by decide), fun p => ?_, fun k => ?_⟩
  · rw [portalRun_doorEvent, unlatched_portalRun]
  · rw [told.slot (by decide), unlatched_slot]

theorem clearLatch_leaves (source : Option (Fin 4)) (s : State) :
    (clearLatch source s).drm.leaves = s.drm.leaves := by
  cases set : s.drm.latch with
  | false => rw [clearLatch_clear source set]
  | true =>
    rw [clearLatch_set source set, doorEvent_frame _ (unlatched s) .leaves (by decide)]
    exact valueWrite_frame stopRequest 0 .valid s .leaves (by decide)

theorem clearLatch_woken (source : Option (Fin 4)) (s : State) :
    Woken (if s.drm.latch then [.stopRequest false source] else []) s (clearLatch source s) := by
  cases set : s.drm.latch with
  | false =>
    rw [clearLatch_clear source set]
    exact .refl s
  | true =>
    have written := valueWrite_woken stopRequest 0 .valid s
    have dropped : Woken [] (valueWrite stopRequest 0 .valid s) (unlatched s) := .of_same rfl rfl
    rw [clearLatch_set source set]
    exact (written.after dropped).after (doorEvent_woken _ _)

/-! ### STOP_REQUEST_CLEAR (R144, R175) -/

theorem answerStopClear_config (config : s.opState = .config) : answerRecord ⟨0x12, []⟩ s = refuse .state := by
  show whenState outsideConfig s _ = _
  rw [whenState, outsideConfig, config]
  rfl

theorem answerStopClear_taken (outside : s.opState ≠ .config) :
    answerRecord ⟨0x12, []⟩ s = accepted [] (clearLatch none) := by
  show whenState outsideConfig s _ = _
  rw [whenState, outsideConfig, decide_eq_true outside, if_pos rfl]

/-- What a cleared latch may change, apart from the run-time states of the leaves. -/
theorem clearLatch_noLeaves (source : Option (Fin 4)) (s : State) :
    ChangesOnly (.portals :: .latch :: .wake :: writing ++ sending) s (clearLatch source s) := by
  intro p other
  by_cases leaves : p = .leaves
  · rw [leaves]
    exact clearLatch_leaves source s
  · refine clearLatch_frame source s p fun member => ?_
    simp only [doors, List.cons_append, List.mem_cons] at member other
    tauto

end

/-- Settles O27: refused in CONFIG, silent while the latch is 0, and the latch cleared. -/
theorem stopRequestClearClearsLatch : Obligations.StopRequestClearClearsLatch := by
  intro s ready
  have free := heldRecord_of_kind (kind := 0x12) (by decide) [] s
  have taken (outside : s.opState ≠ .config) :
      exec (.stopRequestClear []) s = .next (clearLatch none (respond 0x12 .ok [] s)) :=
    exec_accepted rfl ready free (answerStopClear_taken outside)
  obtain ⟨-, drm, now, -⟩ := respond_parts 0x12 .ok [] s
  refine ⟨fun config => exec_refused rfl ready free (answerStopClear_config config), fun outside clear => ?_,
    fun outside set => ?_⟩
  · rw [taken outside, clearLatch_clear none (by rw [drm, clear])]
  · have setR : (respond 0x12 .ok [] s).drm.latch = true := by rw [drm, set]
    have frame := clearLatch_noLeaves none (respond 0x12 .ok [] s)
    have slotR (k : Slot) : (respond 0x12 .ok [] s).slot k = s.slot k := (respond_frame 0x12 .ok [] s).slot (by decide) k
    obtain ⟨latch, portals, slots⟩ := clearLatch_cleared none setR
    obtain ⟨-, woken⟩ := clearLatch_woken none (respond 0x12 .ok [] s)
    obtain ⟨-, queued, -⟩ := woken (respond_held 0x12 .ok [] s)
    rw [if_pos setR] at queued
    refine ⟨_, taken outside, (answered_after frame (by decide)).1, latch, fun p => ?_, ?_, ?_, fun k other => ?_,
      (respond_queued 0x12 .ok [] s).append queued, (answered_frame frame).mono (by decide)⟩
    · rw [portals, portalRun, portalRun, drm]
    · rw [clearLatch_leaves, drm]
    · rw [slots, if_pos rfl, now]
    · rw [slots, if_neg other, slotR]

end Sys2Proof.Machine
end

section
/-! PROOFS. A portal re-formed once (R139 to R142, R144): its run-time state, the latch, the closing chime, the door slots and
the events, each told of the state before. -/

namespace Sys2Proof.Machine

section
variable {s t u : State} {cs ds : List Instr} {ps : List Piece} {p q : Fin 4}

/-! ### Arrivals made, apart from the notices of slots -/

/-- Between two states these arrivals were made, apart from notices: each is in flight so many times more. -/
def Adds (cs : List Instr) (s t : State) : Prop :=
  ∀ c, isNotice c = false → t.inFlight.count c = s.inFlight.count c + cs.count c

namespace Adds

theorem of_same (same : t.inFlight = s.inFlight) : Adds [] s t := fun c _ => by rw [same, List.count_nil, Nat.add_zero]

theorem refl (s : State) : Adds [] s s := of_same rfl

theorem trans (h : Adds cs s t) (k : Adds ds t u) : Adds (cs ++ ds) s u := fun c other => by
  rw [k c other, h c other, List.count_append, Nat.add_assoc]

/-- Arrivals behind a part that makes none. -/
theorem after (h : Adds [] s t) (k : Adds cs t u) : Adds cs s u := h.trans k

/-- Arrivals before a part that makes none. -/
theorem before (h : Adds cs s t) (k : Adds [] t u) : Adds cs s u := List.append_nil cs ▸ h.trans k

theorem post (cs : List Instr) (s : State) : Adds cs s (Machine.post cs s) := fun _ _ => List.count_append

theorem valueWrite (i : Slot) (v : Int) (q : Quality) (s : State) : Adds [] s (Machine.valueWrite i v q s) :=
  fun _ other => (valueWrite_posts i v q s).count other

theorem doorEvent (e : Event) (s : State) : Adds [] s (Machine.doorEvent e s) :=
  of_same (doorEvent_frame e s .inFlight (by decide))

/-- An arrival that none of those made is stands in flight as often as before. -/
theorem absent (h : Adds cs s t) {c : Instr} (other : isNotice c = false) (k : c ∉ cs) :
    t.inFlight.count c = s.inFlight.count c := by
  rw [h c other, List.count_eq_zero.2 k, Nat.add_zero]

end Adds

/-! ### Inputs that the door monitor does not write (R132) -/

theorem apartFromDoors_eq (signals : t.sst.table = s.sst.table) : (ApartFromDoors · t) = (ApartFromDoors · s) := by
  funext i
  simp only [ApartFromDoors, fallbackOf_eq signals]

theorem readInput_apart {i : Slot} (apart : ApartFromDoors i s) (frame : ChangesOnly doors s t)
    (slots : Spares doorSlots s t) : readInput i t = readInput i s := by
  have other {k : Slot} (h : k ≠ doorsAllClosed ∧ k ≠ stopRequest ∧ k ≠ openPortals) : k ∉ doorSlots := by
    simpa [doorSlots] using h
  have read : effRead i t = effRead i s :=
    effRead_kept (frame .signalTable (by decide)) (slots i (other apart.1)) fun f back => slots f (other (apart.2 f back))
  simp only [readInput, read, show t.opState = s.opState from frame .opState (by decide)]

/-! ### The state and the released flag (R139, R141) -/

theorem portalRun_eq (same : t.drm.portals = s.drm.portals) (p : Fin 4) : portalRun p t = portalRun p s := by
  rw [portalRun, portalRun, same]

theorem leafRun_eq (same : t.drm.leaves = s.drm.leaves) (l : Fin 8) : leafRun l t = leafRun l s := by
  rw [leafRun, leafRun, same]

theorem putPortal_portaling (p : Fin 4) (st : PortalState) (b : Bool) (s : State) :
    ChangesOnly portaling s (putPortal p st b s) := by
  unfold putPortal
  exact .ite (fun _ => .refl _ s) fun _ => (setPortalRun_frame _ _ s).comp (doorEvent_frame _ _) (by decide) (by decide)

theorem putPortal_run (p q : Fin 4) (st : PortalState) (b : Bool) (s : State) : portalRun q (putPortal p st b s)
    = if q = p then { portalRun p s with state := st, released := b } else portalRun q s := by
  unfold putPortal
  simp only
  split
  · rename_i same
    obtain ⟨rfl, rfl⟩ := same
    split
    · rename_i here
      rw [here]
    · rfl
  · rw [portalRun_doorEvent, portalRun_setPortalRun]

theorem putPortal_woken (p : Fin 4) (st : PortalState) (b : Bool) (s : State) :
    Woken (if st = (portalRun p s).state ∧ b = (portalRun p s).released then [] else [.doorPortal p st b]) s
      (putPortal p st b s) := by
  unfold putPortal
  simp only [eq_comm (a := st), eq_comm (a := b)]
  split
  · exact .refl s
  · exact Woken.after (.of_same rfl rfl) (doorEvent_woken _ _)

/-- A portal put in the state and the released flag that its leaves and its release slot form. -/
def portalPut (p : Fin 4) (s : State) : State := putPortal p (formPortal p s) (formReleased p s) s

/-! ### The clearing test (R144) -/

theorem effRead_internal {i : Slot} (inner : isInternal i = true) (s : State) :
    effRead i s = ((s.slot i).value, (s.slot i).quality) := effRead_of_noFallback (if_pos inner)

theorem openingClears_eq (s : State) :
    openingClears s = ((s.slot vehicleSpeed).quality.usable && decide ((s.slot vehicleSpeed).value < 300)) := by
  rw [openingClears, effRead_internal rfl]

/-- A re-forming of the portal clears the latch, told of the state before. -/
def clearsAt (p : Fin 4) (s : State) : Bool :=
  decide ((portalRun p s).state ≠ .opened) && decide (formPortal p s = .opened)
    && (s.slot vehicleSpeed).quality.usable && decide ((s.slot vehicleSpeed).value < 300) && s.drm.latch

theorem clearsLatch_eq (state : (portalRun p t).state = formPortal p s) : clearsLatch p s t = clearsAt p s := by
  rw [clearsLatch, clearsAt, state]

theorem latch_of_clearsAt (clears : clearsAt p s = true) : s.drm.latch = true := by
  simp only [clearsAt, Bool.and_eq_true] at clears
  exact clears.2

/-- The portal as put, and the latch cleared where it opens. -/
def portalCleared (p : Fin 4) (s : State) : State :=
  if clearsAt p s then clearLatch (some p) (portalPut p s) else portalPut p s

theorem portalPut_state (p : Fin 4) (s : State) : (portalRun p (portalPut p s)).state = formPortal p s := by
  rw [portalPut, putPortal_run, if_pos rfl]

theorem portalPut_latch (p : Fin 4) (s : State) : (portalPut p s).drm.latch = s.drm.latch :=
  putPortal_portaling p _ _ s .latch (by decide)

theorem portalPut_slot (p : Fin 4) (s : State) (k : Slot) : (portalPut p s).slot k = s.slot k :=
  (putPortal_portaling p _ _ s).slot (by decide) k

/-- A re-forming as its stages, with the clearing test told of the state before. -/
theorem reformPortal_eq (exists_ : portalExists p s = true) :
    reformPortal p s = writeDoorSlots (withdrawChime p (portalCleared p s)) := by
  have test : (decide ((portalRun p s).state ≠ .opened) && decide ((portalRun p (portalPut p s)).state = .opened)
      && openingClears (portalPut p s) && s.drm.latch) = clearsAt p s := by
    rw [portalPut_state, openingClears_eq, portalPut_slot, clearsAt, ← Bool.and_assoc]
  have cleared : (if decide ((portalRun p s).state ≠ .opened) && decide ((portalRun p (portalPut p s)).state = .opened)
      && openingClears (portalPut p s) then clearLatch (some p) (portalPut p s) else portalPut p s)
      = portalCleared p s := by
    rw [portalCleared, ← test]
    cases set : s.drm.latch with
    | false => rw [clearLatch_clear (some p) ((portalPut_latch p s).trans set), ite_self, ite_self]
    | true => rw [Bool.and_true]
  rw [reformPortal, if_pos exists_, ← cleared]
  rfl

theorem portalCleared_run (p q : Fin 4) (s : State) : portalRun q (portalCleared p s)
    = { portalRun q (portalPut p s) with requested := !clearsAt p s && (portalRun q s).requested } := by
  have kept : (portalRun q (portalPut p s)).requested = (portalRun q s).requested := by
    rw [portalPut, putPortal_run]
    split
    · rename_i here
      rw [here]
    · rfl
  rw [portalCleared]
  cases clears : clearsAt p s with
  | false =>
    rw [if_neg (by decide), ← kept]
    rfl
  | true =>
    have set : (portalPut p s).drm.latch = true := (portalPut_latch p s).trans (latch_of_clearsAt clears)
    rw [if_pos rfl, (clearLatch_cleared (some p) set).2.1]
    rfl

theorem portalCleared_latch (p : Fin 4) (s : State) :
    (portalCleared p s).drm.latch = (!clearsAt p s && s.drm.latch) := by
  rw [portalCleared]
  cases clears : clearsAt p s with
  | false => exact portalPut_latch p s
  | true =>
    rw [if_pos rfl]
    exact (clearLatch_cleared (some p) ((portalPut_latch p s).trans (latch_of_clearsAt clears))).1

theorem portalCleared_slot (p : Fin 4) (s : State) (k : Slot) : (portalCleared p s).slot k
    = if clearsAt p s = true ∧ k = stopRequest then ⟨0, .valid, some s.now⟩ else s.slot k := by
  rw [portalCleared]
  cases clears : clearsAt p s with
  | false =>
    rw [if_neg (by decide), if_neg fun h => Bool.false_ne_true h.1]
    exact portalPut_slot p s k
  | true =>
    have now : (portalPut p s).now = s.now := putPortal_portaling p _ _ s .now (by decide)
    rw [if_pos rfl, (clearLatch_cleared (some p) ((portalPut_latch p s).trans (latch_of_clearsAt clears))).2.2, now,
      portalPut_slot]
    simp only [true_and]

theorem portalCleared_frame (p : Fin 4) (s : State) : ChangesOnly doors s (portalCleared p s) :=
  .ite (fun _ => (putPortal_frame p _ _ s).trans (clearLatch_frame _ _)) fun _ => putPortal_frame p _ _ s

theorem portalCleared_leaves (p : Fin 4) (s : State) : (portalCleared p s).drm.leaves = s.drm.leaves := by
  have put : (portalPut p s).drm.leaves = s.drm.leaves := putPortal_portaling p _ _ s .leaves (by decide)
  unfold portalCleared
  split
  · rw [clearLatch_leaves, put]
  · exact put

theorem clearLatch_adds (source : Option (Fin 4)) (s : State) : Adds [] s (clearLatch source s) := by
  cases set : s.drm.latch with
  | false =>
    rw [clearLatch_clear source set]
    exact .refl s
  | true =>
    have written : Adds [] s (unlatched s) := Adds.valueWrite stopRequest 0 .valid s
    rw [clearLatch_set source set]
    exact written.after (.doorEvent _ _)

theorem portalCleared_adds (p : Fin 4) (s : State) : Adds [] s (portalCleared p s) := by
  have put : Adds [] s (portalPut p s) := .of_same (putPortal_portaling p _ _ s .inFlight (by decide))
  unfold portalCleared
  split
  · exact put.after (clearLatch_adds _ _)
  · exact put

/-- The events of a portal re-formed in the state `s` (R141). -/
def eventsAt (p : Fin 4) (s : State) : List Event :=
  (if formPortal p s = (portalRun p s).state ∧ formReleased p s = (portalRun p s).released then []
    else [.doorPortal p (formPortal p s) (formReleased p s)])
  ++ if clearsAt p s then [.stopRequest false (some p)] else []

theorem portalCleared_woken (p : Fin 4) (s : State) : Woken (eventsAt p s) s (portalCleared p s) := by
  have put : Woken _ s (portalPut p s) := putPortal_woken p (formPortal p s) (formReleased p s) s
  rw [portalCleared, eventsAt]
  cases clears : clearsAt p s with
  | false =>
    simp only [Bool.false_eq_true, if_false, List.append_nil]
    exact put
  | true =>
    have cleared := clearLatch_woken (some p) (portalPut p s)
    rw [if_pos ((portalPut_latch p s).trans (latch_of_clearsAt clears))] at cleared
    rw [if_pos rfl, if_pos rfl]
    exact put.trans cleared

/-! ### The closing chime withdrawn (R142) -/

/-- A portal with a closing chime has no leaf CLOSING. -/
def chimeEnds (p : Fin 4) (s : State) : Bool := (leader p s).chime.isSome && !anyClosing p s

theorem withdrawChime_run (p q : Fin 4) (s : State) : portalRun q (withdrawChime p s)
    = { portalRun q s with held := !(decide (q = p) && chimeEnds p s) && (portalRun q s).held } := by
  rw [withdrawChime, ← chimeEnds]
  cases ends : chimeEnds p s with
  | false =>
    rw [if_neg (by decide), Bool.and_false]
    rfl
  | true =>
    rw [if_pos rfl]
    show portalRun q (setPortalRun p { portalRun p s with held := false } s) = _
    rw [portalRun_setPortalRun]
    by_cases here : q = p
    · subst here
      rw [if_pos rfl, decide_eq_true rfl]
      rfl
    · rw [if_neg here, decide_eq_false here]
      rfl

theorem withdrawChime_adds (p : Fin 4) (s : State) :
    Adds (if chimeEnds p s then [.requestWithdrawal (.portal p)] else []) s (withdrawChime p s) := by
  rw [withdrawChime, ← chimeEnds]
  split
  · exact Adds.after (.of_same rfl) (.post _ _)
  · exact .refl s

theorem withdrawChime_woken (p : Fin 4) (s : State) : Woken [] s (withdrawChime p s) := by
  unfold withdrawChime
  split
  · exact .of_same rfl rfl
  · exact .refl s

theorem chimeEnds_eq (table : t.drm.table = s.drm.table) (leaves : t.drm.leaves = s.drm.leaves) (p : Fin 4) :
    chimeEnds p t = chimeEnds p s := by
  simp only [chimeEnds, anyClosing, fittedLeaves, leader_eq table, leafFitted_eq table, leafRun_eq leaves]

theorem chimeEnds_iff (p : Fin 4) (s : State) : chimeEnds p s = true ↔ (leader p s).chime.isSome = true
    ∧ ∀ l, portalOf l = p → leafFitted l s = true → (leafRun l s).state ≠ .closing := by
  rw [chimeEnds, Bool.and_eq_true, Bool.not_eq_true', anyClosing, List.any_eq_false]
  simp only [mem_fittedLeaves, decide_eq_true_eq, and_imp, ne_eq]

theorem portalCleared_chimeEnds (p : Fin 4) (s : State) : chimeEnds p (portalCleared p s) = chimeEnds p s :=
  chimeEnds_eq (portalCleared_frame p s .doorTable (by decide)) (portalCleared_leaves p s) p

/-! ### The whole re-forming -/

variable (exists_ : portalExists p s = true)
include exists_

theorem reformPortal_leaves : (reformPortal p s).drm.leaves = s.drm.leaves := by
  rw [reformPortal_eq exists_, writeDoorSlots_frame _ .leaves (by decide), withdrawChime_frame p _ .leaves (by decide),
    portalCleared_leaves]

theorem reformPortal_run (q : Fin 4) : portalRun q (reformPortal p s) = { portalRun q s with
    state := if q = p then formPortal p s else (portalRun q s).state
    released := if q = p then formReleased p s else (portalRun q s).released
    requested := !clearsAt p s && (portalRun q s).requested
    held := !(decide (q = p) && chimeEnds p s) && (portalRun q s).held } := by
  rw [reformPortal_eq exists_, portalRun_eq (writeDoorSlots_frame _ .portals (by decide)), withdrawChime_run,
    portalCleared_chimeEnds, portalCleared_run, portalPut, putPortal_run]
  by_cases here : q = p
  · rw [if_pos here, if_pos here, if_pos here, here]
  · rw [if_neg here, if_neg here, if_neg here]

theorem reformPortal_latch : (reformPortal p s).drm.latch = (!clearsAt p s && s.drm.latch) := by
  rw [reformPortal_eq exists_, writeDoorSlots_frame _ .latch (by decide), withdrawChime_frame p _ .latch (by decide),
    portalCleared_latch]

theorem reformPortal_stopRequest : (reformPortal p s).slot stopRequest
    = if clearsAt p s then ⟨0, .valid, some s.now⟩ else s.slot stopRequest := by
  rw [reformPortal_eq exists_, writeDoorSlots_slot _ _ (by decide) (by decide),
    (withdrawChime_frame p _).slot (by decide), portalCleared_slot]
  simp only [and_true]

theorem reformPortal_formed : PortalFormed p (ApartFromDoors · s) (reformPortal p s) := by
  have table : (reformPortal p s).drm.table = s.drm.table := reformPortal_frame p s .doorTable (by decide)
  have run := reformPortal_run exists_ p
  refine portalFormed_of (u := s) ?_ ?_ table fun i apart =>
    readInput_apart apart (reformPortal_frame p s) (reformPortal_spares p s)
  · rw [run, if_pos rfl, formPortal_eq table (reformPortal_leaves exists_)]
  · rw [run]
    exact if_pos rfl

theorem reformPortal_doorSlots : DoorSlotsFormed s (reformPortal p s) := by
  have frame := reformPortal_frame p s
  rw [reformPortal_eq exists_] at frame ⊢
  refine (writeDoorSlots_formed _).of_outer ?_ rfl rfl rfl rfl
  rw [withdrawChime_frame p _ .now (by decide), portalCleared_frame p s .now (by decide)]

theorem reformPortal_adds : Adds (if chimeEnds p s then [.requestWithdrawal (.portal p)] else []) s (reformPortal p s) := by
  have withdrawn := withdrawChime_adds p (portalCleared p s)
  rw [portalCleared_chimeEnds] at withdrawn
  rw [reformPortal_eq exists_]
  exact ((portalCleared_adds p s).after withdrawn).before ((Adds.valueWrite _ _ _ _).after (.valueWrite _ _ _ _))

theorem reformPortal_woken : Woken (portalEvents p s (reformPortal p s)) s (reformPortal p s) := by
  have run := reformPortal_run exists_ p
  rw [if_pos rfl, if_pos rfl] at run
  have events : portalEvents p s (reformPortal p s) = eventsAt p s := by
    rw [portalEvents, eventsAt, clearsLatch_eq (by rw [run]), run]
  rw [events, reformPortal_eq exists_]
  exact ((portalCleared_woken p s).before (withdrawChime_woken p _)).before
    ((valueWrite_woken _ _ _ _).after (valueWrite_woken _ _ _ _))

/-- What one re-forming brings with it. -/
theorem reformPortal_followed : PortalFollowed p s (reformPortal p s) := by
  have table : (reformPortal p s).drm.table = s.drm.table := reformPortal_frame p s .doorTable (by decide)
  have run := reformPortal_run exists_
  have leaves := reformPortal_leaves exists_
  have clears : clearsLatch p s (reformPortal p s) = clearsAt p s := clearsLatch_eq (by rw [run, if_pos rfl])
  have idle := chimeEnds_iff p s
  unfold PortalFollowed
  simp only [clears, leafFitted_eq table, leafRun_eq leaves, ← idle]
  refine ⟨reformPortal_formed exists_, reformPortal_doorSlots exists_, fun set => ⟨?_, fun q => ?_, ?_⟩,
    fun clear => ⟨?_, fun q => ?_, ?_⟩, ?_, fun q => ?_⟩
  · rw [reformPortal_latch exists_, set]
    rfl
  · rw [run, set]
    rfl
  · rw [reformPortal_stopRequest exists_, if_pos set]
  · rw [reformPortal_latch exists_, clear]
    rfl
  · rw [run, clear]
    rfl
  · rw [reformPortal_stopRequest exists_, if_neg (by rw [clear]; decide)]
  · rw [reformPortal_adds exists_ _ rfl]
    split <;> simp
  · rw [run]
    by_cases here : q = p <;> cases chimeEnds p s <;> simp [here]

end

end Sys2Proof.Machine
end

section
/-! PROOFS. One leaf in a notification of a slot (R133 to R138): its edge reading, the state it derives, what follows the
change of its state, and what of it is told. -/

namespace Sys2Proof.Machine

section
variable {s t u w : State} {k l : Fin 8} {i : Slot} {new : LeafState} {c : Instr}

/-! ### The reports of the condition flags (R135, R136) -/

/-- The report of a flag that was `before` and is `after`. -/
def doorReport (l : Fin 8) (f : DoorFailure) (cls : Fin 16) (before after : Bool) : List Instr :=
  if before = after then []
  else if after then [.faultConditionStart (.door l f) cls] else [.faultConditionEnd (.door l f) cls]

theorem flagReports_eq (l : Fin 8) (cls : Fin 16) (old new : LeafRun) : flagReports l cls old new
    = doorReport l .inconsistent cls old.inconsistent new.inconsistent
      ++ doorReport l .transit cls old.transitFlag new.transitFlag := rfl

theorem count_doorReport_start (l : Fin 8) (f g : DoorFailure) (cls : Fin 16) (b a : Bool) :
    (doorReport l f cls b a).count (.faultConditionStart (.door l g) cls)
      = if f = g ∧ b = false ∧ a = true then 1 else 0 := by
  cases b <;> cases a <;> simp [doorReport, List.count_singleton]

theorem count_doorReport_end (l : Fin 8) (f g : DoorFailure) (cls : Fin 16) (b a : Bool) :
    (doorReport l f cls b a).count (.faultConditionEnd (.door l g) cls)
      = if f = g ∧ b = true ∧ a = false then 1 else 0 := by
  cases b <;> cases a <;> simp [doorReport, List.count_singleton]

/-- A report of one of the leaf's conditions. -/
def ofLeaf (l : Fin 8) : Instr → Bool
  | .faultConditionStart (.door k _) _ | .faultConditionEnd (.door k _) _ => decide (k = l)
  | _ => false

theorem ofLeaf_of_mem_flagReports {cls : Fin 16} {old new : LeafRun} (h : c ∈ flagReports l cls old new) :
    ofLeaf l c = true := by
  have one (f : DoorFailure) (b a : Bool) (m : c ∈ doorReport l f cls b a) : ofLeaf l c = true := by
    unfold doorReport at m
    split at m
    · exact absurd m List.not_mem_nil
    · split at m <;> rw [List.mem_singleton.1 m] <;> exact decide_eq_true rfl
  rw [flagReports_eq, List.mem_append] at h
  exact h.elim (one _ _ _) (one _ _ _)

theorem isNotice_of_ofLeaf (h : ofLeaf l c = true) : isNotice c = false := by
  unfold ofLeaf at h
  split at h
  · rfl
  · rfl
  · exact absurd h Bool.false_ne_true

theorem ofLeaf_start (l : Fin 8) (f : DoorFailure) (cls : Fin 16) :
    ofLeaf l (.faultConditionStart (.door l f) cls) = true := decide_eq_true rfl

theorem ofLeaf_end (l : Fin 8) (f : DoorFailure) (cls : Fin 16) :
    ofLeaf l (.faultConditionEnd (.door l f) cls) = true := decide_eq_true rfl

theorem ofLeaf_unique (h : ofLeaf l c = true) (other : ofLeaf k c = true) : k = l := by
  unfold ofLeaf at h other
  split at h
  · exact (of_decide_eq_true other).symm.trans (of_decide_eq_true h)
  · exact (of_decide_eq_true other).symm.trans (of_decide_eq_true h)
  · exact absurd h Bool.false_ne_true

theorem flagReports_same (l : Fin 8) (cls : Fin 16) (r : LeafRun) : flagReports l cls r r = [] := by
  rw [flagReports_eq, doorReport, doorReport, if_pos rfl, if_pos rfl, List.append_nil]

/-! ### A change of state (R133, R134, R136, R138) -/

/-- The run-time state of a leaf behind its change to a state. -/
def changedRun (l : Fin 8) (new : LeafState) (s : State) : LeafRun :=
  { flagsAfter new (cyclesAfter new (transitAfter l new (leafRun l s) s)) with state := new }

theorem changeLeaf_run (k l : Fin 8) (new : LeafState) (s : State) :
    leafRun k (changeLeaf l new s) = if k = l then changedRun l new s else leafRun k s := leafRun_changeLeaf k new

theorem cyclesAfter_eq (new : LeafState) (r : LeafRun) : cyclesAfter new r = { r with
    cycles := if new = .opened ∧ r.state ≠ .fault ∧ r.state ≠ .notEvaluated then satSucc 4294967295 r.cycles
      else r.cycles } := by
  unfold cyclesAfter
  split <;> rfl

/-- The transit of a leaf that ends now, in milliseconds; 0 where no transit runs. -/
def transitTime (r : LeafRun) (s : State) : Nat := r.transitStart.elim 0 fun t => min 65535 ((s.now - t) / 1000)

theorem changedRun_eq (l : Fin 8) (new : LeafState) (s : State) : changedRun l new s = { leafRun l s with
    state := new
    transitDue := if new.moving then some (s.now + 10000 * (leader (portalOf l) s).transitLimit) else none
    transitStart := if new.moving then some s.now
      else if new.atEnd || decide (new = .fault) then none else (leafRun l s).transitStart
    maxTransit := if new.atEnd then max (leafRun l s).maxTransit (transitTime (leafRun l s) s)
      else (leafRun l s).maxTransit
    inconsistent := decide (new = .fault)
    transitFlag := (leafRun l s).transitFlag && !new.atEnd
    cycles := if new = .opened ∧ (leafRun l s).state ≠ .fault ∧ (leafRun l s).state ≠ .notEvaluated then
      satSucc 4294967295 (leafRun l s).cycles else (leafRun l s).cycles } := by
  rw [changedRun, cyclesAfter_eq]
  cases new <;> rfl

/-- One event, and others behind it. -/
theorem Woken.cons {e : Event} {fs : List Event} (h : Woken [e] s t) (k : Woken fs t u) : Woken (e :: fs) s u := h.trans k

/-- A run-time state put, and arrivals made, behind events. -/
theorem Woken.posted {es : List Event} (h : Woken es s t) (cs : List Instr) (l : Fin 8) (r : LeafRun) :
    Woken es s (post cs (setLeafRun l r t)) := h.before (.of_same rfl rfl)

/-- A run-time state put, and the first arrivals made. -/
theorem Adds.posted (h : Adds [] s t) (cs : List Instr) (l : Fin 8) (r : LeafRun) :
    Adds cs s (Machine.post cs (setLeafRun l r t)) := h.after (Adds.after (.of_same rfl) (.post cs _))

theorem changeLeaf_woken (l : Fin 8) (new : LeafState) (s : State) :
    Woken [.doorLeaf l new] s (changeLeaf l new s) := (doorEvent_woken _ s).posted _ l _

theorem changeLeaf_adds (l : Fin 8) (new : LeafState) (s : State) :
    Adds (flagReports l (doorEntry l s).faultClass (leafRun l s) (changedRun l new s) ++ chimeAtClosing l new s) s
      (changeLeaf l new s) :=
  (Adds.doorEvent _ s).posted _ l _

/-! ### What follows a leaf (R134 to R136, R138) -/

/-- A run-time state without its edge reading and its count of obstructions, which no derivation changes. -/
def unedged (r : LeafRun) : LeafRun := { r with edge := false, obstructions := 0 }

theorem fields_of_unedged {r r' : LeafRun} (h : unedged r = unedged r') : r.state = r'.state
    ∧ r.transitDue = r'.transitDue ∧ r.transitStart = r'.transitStart ∧ r.maxTransit = r'.maxTransit
    ∧ r.cycles = r'.cycles ∧ r.inconsistent = r'.inconsistent ∧ r.transitFlag = r'.transitFlag := by
  simp only [unedged, LeafRun.mk.injEq] at h
  obtain ⟨state, due, start, inconsistent, transit, -, cycles, -, time⟩ := h
  exact ⟨state, due, start, time, cycles, inconsistent, transit⟩

/-- The run-time state behind the derivation of a leaf. -/
def derivedRun (l : Fin 8) (new : LeafState) (s : State) : LeafRun :=
  if new = (leafRun l s).state then leafRun l s else changedRun l new s

theorem derivedRun_state (l : Fin 8) (new : LeafState) (s : State) : (derivedRun l new s).state = new := by
  unfold derivedRun
  split
  · rename_i same
    exact same.symm
  · rfl

theorem derivedRun_edge (l : Fin 8) (new : LeafState) (s : State) : (derivedRun l new s).edge = (leafRun l s).edge
    ∧ (derivedRun l new s).obstructions = (leafRun l s).obstructions := by
  unfold derivedRun
  split
  · exact ⟨rfl, rfl⟩
  · rw [changedRun_eq]
    exact ⟨rfl, rfl⟩

/-- A leaf derived in a state `w` in which only its edge reading may be later than in `s`. -/
theorem leafFollowed_of (before : unedged (leafRun l w) = unedged (leafRun l s)) (now : w.now = s.now)
    (table : w.drm.table = s.drm.table) (run : leafRun l t = derivedRun l new w)
    (reports : ∀ c, ofLeaf l c = true → t.inFlight.count c
      = s.inFlight.count c + (flagReports l (doorEntry l s).faultClass (leafRun l s) (leafRun l t)).count c) :
    LeafFollowed l s t := by
  obtain ⟨state, due, start, time, cycles, inconsistent, transit⟩ := fields_of_unedged before
  have count (c : Instr) (h : ofLeaf l c = true) := reports c h
  simp only [flagReports_eq, List.count_append] at count
  refine ⟨fun same => ?_, fun moved => ?_, ?_, ?_, ?_, ?_⟩
  · have still : new = (leafRun l w).state := by
      rw [state, ← same, run, derivedRun_state]
    rw [run, derivedRun, if_pos still]
    exact ⟨due, start, time, cycles, inconsistent, transit⟩
  · have moves : ¬new = (leafRun l w).state := by
      rw [state]
      rwa [run, derivedRun_state] at moved
    rw [run, derivedRun, if_neg moves, changedRun_eq, transitTime, state, start, time, cycles, transit, now,
      leader_eq table]
    cases new <;> cases (leafRun l s).transitStart <;> simp [LeafState.moving, LeafState.atEnd]
  · refine (count _ (ofLeaf_start l _ _)).trans ?_
    simp [count_doorReport_start]
  · refine (count _ (ofLeaf_end l _ _)).trans ?_
    simp [count_doorReport_end]
  · refine (count _ (ofLeaf_start l _ _)).trans ?_
    simp [count_doorReport_start]
  · refine (count _ (ofLeaf_end l _ _)).trans ?_
    simp [count_doorReport_end]

/-! ### The edge reading (R137) -/

/-- The slot is the leaf's edge slot, and turns its edge active. -/
def edgeTurns (i : Slot) (l : Fin 8) (s : State) : Bool :=
  decide ((doorEntry l s).edgeSlot = i) && decide (readInput i s = some true) && !(leafRun l s).edge

theorem edgeTurns_iff (i : Slot) (l : Fin 8) (s : State) : edgeTurns i l s = true
    ↔ (doorEntry l s).edgeSlot = i ∧ readInput i s = some true ∧ (leafRun l s).edge = false := by
  simp only [edgeTurns, Bool.and_eq_true, decide_eq_true_eq, Bool.not_eq_true', and_assoc]

/-- A leaf notified of its edge slot, before it is derived. -/
def edged (i : Slot) (l : Fin 8) (s : State) : State := if (doorEntry l s).edgeSlot = i then takeEdge l s else s

/-- Its run-time state. -/
def edgedRun (i : Slot) (l : Fin 8) (s : State) : LeafRun := { leafRun l s with
  edge := if (doorEntry l s).edgeSlot = i then (readInput i s).getD (leafRun l s).edge else (leafRun l s).edge
  obstructions := if edgeTurns i l s && decide ((leafRun l s).state = .closing) then
    satSucc 65535 (leafRun l s).obstructions else (leafRun l s).obstructions }

theorem leafRun_doorEvent (k : Fin 8) (e : Event) (s : State) : leafRun k (doorEvent e s) = leafRun k s :=
  leafRun_eq (doorEvent_frame e s .leaves (by decide)) k

/-- What a notification of an edge slot does: the run-time state, and the event of an edge that turns active. -/
theorem edged_cases (i : Slot) (l : Fin 8) (s : State) :
    (edgeTurns i l s = true ∧ edged i l s = doorEvent (.obstruction l) (setLeafRun l (edgedRun i l s) s))
    ∨ (edgeTurns i l s = false ∧ edged i l s = setLeafRun l (edgedRun i l s) s)
    ∨ (edgeTurns i l s = false ∧ edged i l s = s ∧ edgedRun i l s = leafRun l s) := by
  by_cases here : (doorEntry l s).edgeSlot = i
  · rw [edged, if_pos here, takeEdge, here, edgedRun, edgeTurns, here]
    cases read : readInput i s with
    | none => exact .inr (.inr ⟨by simp, rfl, by simp⟩)
    | some b =>
      cases b with
      | false => exact .inr (.inl ⟨by simp, by simp⟩)
      | true =>
        cases edge : (leafRun l s).edge with
        | true =>
          have active : { leafRun l s with edge := true } = leafRun l s := by rw [← edge]
          exact .inr (.inr ⟨by simp, rfl, by simpa using active⟩)
        | false => exact .inl ⟨by simp, by simp⟩
  · refine .inr (.inr ⟨by rw [edgeTurns, decide_eq_false here]; rfl, if_neg here, ?_⟩)
    rw [edgedRun, edgeTurns, decide_eq_false here, if_neg here]
    rfl

theorem edged_run (i : Slot) (k l : Fin 8) (s : State) :
    leafRun k (edged i l s) = if k = l then edgedRun i l s else leafRun k s := by
  rcases edged_cases i l s with ⟨-, eq⟩ | ⟨-, eq⟩ | ⟨-, eq, same⟩
  · rw [eq, leafRun_doorEvent, leafRun_setLeafRun]
  · rw [eq, leafRun_setLeafRun]
  · rw [eq, same]
    split
    · rename_i here
      rw [here]
    · rfl

theorem unedged_edgedRun (i : Slot) (l : Fin 8) (s : State) : unedged (edgedRun i l s) = unedged (leafRun l s) := rfl

/-- What a notification of an edge slot changes. -/
def edging : List Piece := .leaves :: sending

theorem edged_frame (i : Slot) (l : Fin 8) (s : State) : ChangesOnly edging s (edged i l s) := by
  rcases edged_cases i l s with ⟨-, eq⟩ | ⟨-, eq⟩ | ⟨-, eq, -⟩ <;> rw [eq]
  · exact (setLeafRun_frame _ _ s).comp (doorEvent_frame _ _) (by decide) (by decide)
  · exact (setLeafRun_frame _ _ s).mono (by decide)
  · exact .refl _ s

theorem edged_woken (i : Slot) (l : Fin 8) (s : State) :
    Woken (if edgeTurns i l s then [.obstruction l] else []) s (edged i l s) := by
  rcases edged_cases i l s with ⟨turns, eq⟩ | ⟨turns, eq⟩ | ⟨turns, eq, -⟩ <;> rw [eq, turns]
  · exact Woken.after (.of_same rfl rfl) (doorEvent_woken _ _)
  · exact .of_same rfl rfl
  · exact .refl s

theorem edged_adds (i : Slot) (l : Fin 8) (s : State) : Adds [] s (edged i l s) :=
  .of_same (edged_frame i l s .inFlight (by decide))

/-! ### The derivation (R133) -/

/-- The state that a leaf derives now. -/
def nextLeaf (l : Fin 8) (s : State) : LeafState := deriveState l (leafRun l s).state s

theorem deriveLeaf_still (still : nextLeaf l s = (leafRun l s).state) : deriveLeaf l s = s := if_pos still

theorem deriveLeaf_moved (moves : nextLeaf l s ≠ (leafRun l s).state) :
    deriveLeaf l s = reformPortal (portalOf l) (changeLeaf l (nextLeaf l s) s) := if_neg moves

theorem portalExists_eq (table : t.drm.table = s.drm.table) (p : Fin 4) : portalExists p t = portalExists p s := by
  rw [portalExists, portalExists, leader_eq table]

theorem portalExists_of_fitted (fitted : leafFitted l s = true) : portalExists (portalOf l) s = true :=
  (Bool.and_eq_true_iff.1 fitted).2

theorem changeLeaf_exists (l : Fin 8) (new : LeafState) (p : Fin 4) (s : State) :
    portalExists p (changeLeaf l new s) = portalExists p s :=
  portalExists_eq (changeLeaf_leafing new s .doorTable (by decide)) p

theorem deriveLeaf_run (fitted : leafFitted l s = true) (k : Fin 8) :
    leafRun k (deriveLeaf l s) = if k = l then derivedRun l (nextLeaf l s) s else leafRun k s := by
  by_cases still : nextLeaf l s = (leafRun l s).state
  · rw [deriveLeaf_still still, derivedRun, if_pos still]
    split
    · rename_i here
      rw [here]
    · rfl
  · have exists_ := (changeLeaf_exists l (nextLeaf l s) (portalOf l) s).trans (portalExists_of_fitted fitted)
    rw [deriveLeaf_moved still, leafRun_eq (reformPortal_leaves exists_), changeLeaf_run, derivedRun, if_neg still]

theorem mem_chimeAtClosing (h : c ∈ chimeAtClosing l new s) : ∃ p x, c = .requestPlacing (.portal p) x := by
  unfold chimeAtClosing at h
  simp only at h
  split at h
  · rw [Option.mem_toList, Option.map_eq_some_iff] at h
    obtain ⟨x, -, rfl⟩ := h
    exact ⟨_, x, rfl⟩
  · exact absurd h List.not_mem_nil

/-- The conditions of a leaf are reported at its own derivation alone. -/
theorem deriveLeaf_reports (fitted : leafFitted l s = true) (report : ofLeaf k c = true) :
    (deriveLeaf l s).inFlight.count c = s.inFlight.count c
      + (flagReports l (doorEntry l s).faultClass (leafRun l s) (derivedRun l (nextLeaf l s) s)).count c := by
  by_cases still : nextLeaf l s = (leafRun l s).state
  · rw [deriveLeaf_still still, derivedRun, if_pos still, flagReports_same, List.count_nil, Nat.add_zero]
  · have exists_ := (changeLeaf_exists l (nextLeaf l s) (portalOf l) s).trans (portalExists_of_fitted fitted)
    have notice := isNotice_of_ofLeaf report
    have placing : c ∉ chimeAtClosing l (nextLeaf l s) s := fun member => by
      obtain ⟨p, x, rfl⟩ := mem_chimeAtClosing member
      exact Bool.false_ne_true report
    have withdrawal : c ∉ if chimeEnds (portalOf l) (changeLeaf l (nextLeaf l s) s) then
        [Instr.requestWithdrawal (.portal (portalOf l))] else [] := fun member => by
      split at member
      · rw [List.mem_singleton.1 member] at report
        exact Bool.false_ne_true report
      · exact List.not_mem_nil member
    rw [deriveLeaf_moved still, (reformPortal_adds exists_).absent notice withdrawal, changeLeaf_adds l _ s c notice,
      List.count_append, List.count_eq_zero.2 placing, Nat.add_zero, derivedRun, if_neg still]

end

end Sys2Proof.Machine
end

section
/-! PROOFS. A press at a portal (R143), and what every part of a notification leaves in order: a portal whose leaf changed is
re-formed behind it, and the door slots with it (R139, R140). -/

namespace Sys2Proof.Machine

section
variable {s t u v : State} {p q : Fin 4} {k l : Fin 8} {i : Slot} {c : Instr}

/-! ### A request slot that is notified (R143) -/

/-- The read of a portal's request slot; none where the slot is absent. -/
def requestRead (p : Fin 4) (s : State) : Option Bool := readOptional (leader p s).requestSlot s

/-- The reading turns active while the portal's flag is clear. -/
def presses (p : Fin 4) (s : State) : Bool :=
  decide (requestRead p s = some true) && !(portalRun p s).reading && !(portalRun p s).requested

/-- The run-time state of a portal behind a notification of its request slot. -/
def requestRun (p : Fin 4) (s : State) : PortalRun := { portalRun p s with
  reading := (requestRead p s).getD (portalRun p s).reading
  requested := (portalRun p s).requested || presses p s }

/-- The portal's run-time state put, STOP_REQUEST written 1 and the latch set, before the event. -/
def latched (p : Fin 4) (r : PortalRun) (s : State) : State :=
  let s' := valueWrite stopRequest 1 .valid (setPortalRun p r s)
  { s' with drm := { s'.drm with latch := true } }

theorem setPortalRun_self (p : Fin 4) (s : State) : setPortalRun p (portalRun p s) s = s := by
  have same : s.drm.portals.set p (portalRun p s) = s.drm.portals := Vector.set_getElem_self p.isLt
  rw [setPortalRun, same]

theorem setPortalRun_setPortalRun (p : Fin 4) (r r' : PortalRun) (s : State) :
    setPortalRun p r (setPortalRun p r' s) = setPortalRun p r s := by
  simp [setPortalRun]

/-- A press behind the reading of the request slot. -/
theorem press_setPortalRun (p : Fin 4) (r : PortalRun) (s : State) : press p (setPortalRun p r s)
    = if r.requested then setPortalRun p r s
      else doorEvent (.stopRequest true (some p)) (latched p { r with requested := true } s) := by
  rw [press, portalRun_setPortalRun, if_pos rfl, setPortalRun_setPortalRun]
  rfl

theorem requestRun_read {b flag : Bool} (read : requestRead p s = some b)
    (requested : ((portalRun p s).requested || presses p s) = flag) :
    requestRun p s = { portalRun p s with reading := b, requested := flag } := by
  rw [requestRun, requested, read]
  rfl

theorem requestRun_unread (read : requestRead p s = none) : requestRun p s = portalRun p s := by
  rw [requestRun, presses, read]
  simp

theorem takeRequestReading_read {b : Bool} (read : requestRead p s = some b) : takeRequestReading p s
    = if b && !(portalRun p s).reading then press p (setPortalRun p { portalRun p s with reading := b } s)
      else setPortalRun p { portalRun p s with reading := b } s := by
  rw [requestRead] at read
  rw [takeRequestReading, read]

/-- What a notification of a request slot does: a press, or the reading alone. -/
theorem takeRequestReading_cases (p : Fin 4) (s : State) :
    (presses p s = true ∧ takeRequestReading p s
        = doorEvent (.stopRequest true (some p)) (latched p (requestRun p s) s))
    ∨ (presses p s = false ∧ takeRequestReading p s = setPortalRun p (requestRun p s) s) := by
  cases read : requestRead p s with
  | none =>
    refine .inr ⟨by rw [presses, read]; rfl, ?_⟩
    rw [requestRun_unread read, setPortalRun_self, takeRequestReading, show readOptional _ s = none from read]
  | some b =>
    rw [takeRequestReading_read read]
    by_cases turns : (b && !(portalRun p s).reading) = true
    · rw [if_pos turns, press_setPortalRun]
      obtain ⟨rfl, inactive⟩ := Bool.and_eq_true_iff.1 turns
      have pressed : presses p s = !(portalRun p s).requested := by
        rw [presses, read, inactive]
        rfl
      cases requested : (portalRun p s).requested with
      | false =>
        refine .inl ⟨by rw [pressed, requested]; rfl, ?_⟩
        rw [requestRun_read read (flag := true) (by rw [pressed, requested]; rfl)]
        exact if_neg Bool.false_ne_true
      | true =>
        refine .inr ⟨by rw [pressed, requested]; rfl, ?_⟩
        rw [requestRun_read read (flag := (portalRun p s).requested) (by rw [requested, Bool.true_or])]
        exact if_pos rfl
    · have quiet : presses p s = false := by
        rw [presses, read]
        cases b
        · rfl
        · rw [Bool.true_and, Bool.not_eq_true] at turns
          rw [turns, Bool.and_false, Bool.false_and]
      refine .inr ⟨quiet, ?_⟩
      rw [if_neg turns, requestRun_read read (flag := (portalRun p s).requested) (by rw [quiet, Bool.or_false])]

theorem takeRequestReading_run (p q : Fin 4) (s : State) :
    portalRun q (takeRequestReading p s) = if q = p then requestRun p s else portalRun q s := by
  rcases takeRequestReading_cases p s with ⟨-, eq⟩ | ⟨-, eq⟩
  · have written : portalRun q (latched p (requestRun p s) s) = portalRun q (setPortalRun p (requestRun p s) s) :=
      portalRun_eq (valueWrite_frame stopRequest 1 .valid (setPortalRun p (requestRun p s) s) .portals (by decide)) q
    rw [eq, portalRun_doorEvent, written, portalRun_setPortalRun]
  · rw [eq, portalRun_setPortalRun]

theorem takeRequestReading_slot (p : Fin 4) (s : State) (j : Slot) : (takeRequestReading p s).slot j
    = if presses p s = true ∧ j = stopRequest then ⟨1, .valid, some s.now⟩ else s.slot j := by
  rcases takeRequestReading_cases p s with ⟨set, eq⟩ | ⟨set, eq⟩
  · have written := valueWrite_internal_slot (i := stopRequest) rfl 1 .valid (setPortalRun p (requestRun p s) s) j
    rw [eq, (doorEvent_frame _ _).slot (by decide), set]
    simp only [true_and]
    exact written
  · rw [eq, set, if_neg fun h => Bool.false_ne_true h.1]
    rfl

theorem takeRequestReading_latch (p : Fin 4) (s : State) :
    (takeRequestReading p s).drm.latch = (s.drm.latch || presses p s) := by
  rcases takeRequestReading_cases p s with ⟨set, eq⟩ | ⟨set, eq⟩
  · rw [eq, doorEvent_frame _ _ .latch (by decide), set, Bool.or_true]
    rfl
  · rw [eq, set, Bool.or_false]
    rfl

theorem takeRequestReading_leaves (p : Fin 4) (s : State) : (takeRequestReading p s).drm.leaves = s.drm.leaves := by
  rcases takeRequestReading_cases p s with ⟨-, eq⟩ | ⟨-, eq⟩
  · rw [eq, doorEvent_frame _ _ .leaves (by decide)]
    exact valueWrite_frame stopRequest 1 .valid (setPortalRun p (requestRun p s) s) .leaves (by decide)
  · rw [eq]
    rfl

theorem takeRequestReading_adds (p : Fin 4) (s : State) : Adds [] s (takeRequestReading p s) := by
  rcases takeRequestReading_cases p s with ⟨-, eq⟩ | ⟨-, eq⟩ <;> rw [eq]
  · have written : Adds [] s (latched p (requestRun p s) s) :=
      Adds.valueWrite stopRequest 1 .valid (setPortalRun p (requestRun p s) s)
    exact written.after (.doorEvent _ _)
  · exact .of_same rfl

theorem takeRequestReading_woken (p : Fin 4) (s : State) :
    Woken (if presses p s then [.stopRequest true (some p)] else []) s (takeRequestReading p s) := by
  rcases takeRequestReading_cases p s with ⟨set, eq⟩ | ⟨set, eq⟩ <;> rw [eq, set]
  · have put : Woken [] s (setPortalRun p (requestRun p s) s) := .of_same rfl rfl
    have written := put.after (valueWrite_woken stopRequest 1 .valid (setPortalRun p (requestRun p s) s))
    have marked : Woken [] s (latched p (requestRun p s) s) := written.after (.of_same rfl rfl)
    exact marked.after (doorEvent_woken _ _)
  · exact .of_same rfl rfl

/-! ### What stays formed (R139, R140) -/

/-- The portal keeps its state and its released flag. -/
def PortalKept (p : Fin 4) (s t : State) : Prop :=
  (portalRun p t).state = (portalRun p s).state ∧ (portalRun p t).released = (portalRun p s).released

theorem PortalKept.refl (p : Fin 4) (s : State) : PortalKept p s s := ⟨rfl, rfl⟩

theorem PortalKept.trans (h : PortalKept p s t) (k : PortalKept p t u) : PortalKept p s u :=
  ⟨k.1.trans h.1, k.2.trans h.2⟩

theorem PortalKept.of_same (portals : t.drm.portals = s.drm.portals) (p : Fin 4) : PortalKept p s t := by
  rw [PortalKept, portalRun_eq portals]
  exact ⟨rfl, rfl⟩

/-- The leaves of the portal keep their states. -/
def LeavesKept (p : Fin 4) (s t : State) : Prop := ∀ l, portalOf l = p → (leafRun l t).state = (leafRun l s).state

theorem LeavesKept.trans (h : LeavesKept p s t) (k : LeavesKept p t u) : LeavesKept p s u := fun l here =>
  (k l here).trans (h l here)

theorem LeavesKept.of_same (leaves : t.drm.leaves = s.drm.leaves) (p : Fin 4) : LeavesKept p s t := fun l _ => by
  rw [leafRun_eq leaves]

theorem PortalFormed.of_kept {steady : Slot → Prop} (h : PortalFormed p steady t) (kept : PortalKept p t u)
    (leaves : LeavesKept p t u) (table : u.drm.table = t.drm.table)
    (read : ∀ i, steady i → readInput i u = readInput i t) : PortalFormed p steady u := by
  have lock (l : Fin 8) : lockFitted l u = lockFitted l t := by rw [lockFitted, lockFitted, leader_eq table]
  have faulted : (∃ l, (portalOf l = p ∧ leafFitted l u = true) ∧ (leafRun l u).state = .fault)
      ↔ ∃ l, (portalOf l = p ∧ leafFitted l t = true) ∧ (leafRun l t).state = .fault :=
    exists_congr fun l => by
      rw [leafFitted_eq table]
      exact and_congr_right fun fitted => by rw [leaves l fitted.1]
  have secured : (∀ l, portalOf l = p ∧ leafFitted l u = true →
        (leafRun l u).state = .locked ∨ ((leafRun l u).state = .closed ∧ lockFitted l u = false))
      ↔ ∀ l, portalOf l = p ∧ leafFitted l t = true →
        (leafRun l t).state = .locked ∨ ((leafRun l t).state = .closed ∧ lockFitted l t = false) :=
    forall_congr' fun l => by
      rw [leafFitted_eq table, lock]
      exact imp_congr_right fun fitted => by rw [leaves l fitted.1]
  obtain ⟨state, absent, present⟩ := h
  refine ⟨?_, fun none => ?_, fun i here same => ?_⟩
  · simp only [faulted, secured]
    exact kept.1.trans state
  · rw [leader_eq table] at none
    exact kept.2.trans (absent none)
  · rw [leader_eq table] at here
    rw [kept.2, read i same]
    exact present i here same

theorem DoorSlotsFormed.of_kept (h : DoorSlotsFormed s t) (kept : ∀ p, PortalKept p t u)
    (table : u.drm.table = t.drm.table) (closed : u.slot doorsAllClosed = t.slot doorsAllClosed)
    (opened : u.slot openPortals = t.slot openPortals) : DoorSlotsFormed s u := by
  have state (p : Fin 4) : (portalRun p u).state = (portalRun p t).state := (kept p).1
  have released (p : Fin 4) : (portalRun p u).released = (portalRun p t).released := (kept p).2
  unfold DoorSlotsFormed at h ⊢
  simp only [state, released, portalExists_eq table, closed, opened]
  exact h

theorem DoorSlotsFormed.of_now (h : DoorSlotsFormed t u) (now : t.now = s.now) : DoorSlotsFormed s u :=
  h.of_outer now rfl rfl rfl rfl

/-- The portal is formed, told of the inputs in `s`, and the door slots with it. -/
def Reformed (p : Fin 4) (s t : State) : Prop := PortalFormed p (ApartFromDoors · s) t ∧ DoorSlotsFormed s t

/-- Between two states a portal whose leaf changed was re-formed behind the change, and the door slots behind every change
of a portal. -/
structure DoorsSettle (s t : State) : Prop where
  frame : ChangesOnly doors s t
  spares : Spares doorSlots s t
  portals : ∀ p, (PortalKept p s t ∧ LeavesKept p s t) ∨ Reformed p s t
  slots : ((∀ p, PortalKept p s t) ∧ t.slot doorsAllClosed = s.slot doorsAllClosed
    ∧ t.slot openPortals = s.slot openPortals) ∨ DoorSlotsFormed s t

theorem Reformed.of_before (h : Reformed p t u) (signals : t.sst.table = s.sst.table) (now : t.now = s.now) :
    Reformed p s u := by
  obtain ⟨formed, slots⟩ := h
  rw [apartFromDoors_eq signals] at formed
  exact ⟨formed, slots.of_now now⟩

namespace DoorsSettle

theorem now (h : DoorsSettle s t) : t.now = s.now := h.frame .now (by decide)

theorem table (h : DoorsSettle s t) : t.drm.table = s.drm.table := h.frame .doorTable (by decide)

theorem signals (h : DoorsSettle s t) : t.sst.table = s.sst.table := h.frame .signalTable (by decide)

theorem doorSlots (h : DoorSlotsFormed s t) (k : DoorsSettle t u) (now : t.now = s.now) : DoorSlotsFormed s u := by
  rcases k.slots with ⟨kept, closed, opened⟩ | formed
  · exact h.of_kept kept k.table closed opened
  · exact formed.of_now now

/-- A portal formed stays formed. -/
theorem reformed (h : Reformed p s t) (k : DoorsSettle t u) (signals : t.sst.table = s.sst.table)
    (now : t.now = s.now) : Reformed p s u := by
  obtain ⟨formed, slots⟩ := h
  rcases k.portals p with ⟨kept, leaves⟩ | later
  · refine ⟨formed.of_kept kept leaves k.table fun i apart => ?_, doorSlots slots k now⟩
    exact readInput_apart (Eq.mpr (congrFun (apartFromDoors_eq signals) i) apart) k.frame k.spares
  · exact later.of_before signals now

theorem trans (h : DoorsSettle s t) (k : DoorsSettle t u) : DoorsSettle s u := by
  refine ⟨h.frame.trans k.frame, h.spares.trans k.spares, fun p => ?_, ?_⟩
  · rcases h.portals p with ⟨kept, leaves⟩ | formed
    · rcases k.portals p with ⟨keptU, leavesU⟩ | formed
      · exact .inl ⟨kept.trans keptU, leaves.trans leavesU⟩
      · exact .inr (formed.of_before h.signals h.now)
    · exact .inr (reformed formed k h.signals h.now)
  · rcases h.slots with ⟨kept, closed, opened⟩ | formed
    · rcases k.slots with ⟨keptU, closedU, openedU⟩ | formed
      · exact .inl ⟨fun p => (kept p).trans (keptU p), closedU.trans closed, openedU.trans opened⟩
      · exact .inr (formed.of_now h.now)
    · exact .inr (doorSlots formed k h.now)

/-- Nothing of leaves' states, portals' states and door slots changed. -/
theorem of_kept (frame : ChangesOnly doors s t) (spares : Spares [stopRequest] s t) (portals : ∀ p, PortalKept p s t)
    (leaves : ∀ p, LeavesKept p s t) : DoorsSettle s t :=
  ⟨frame, spares.mono (by decide), fun p => .inl ⟨portals p, leaves p⟩,
    .inl ⟨portals, spares _ (by decide), spares _ (by decide)⟩⟩

theorem refl (s : State) : DoorsSettle s s := of_kept (.refl _ s) (.refl _ s) (fun p => .refl p s) fun _ _ _ => rfl

end DoorsSettle

/-! ### The parts of a notification -/

theorem edged_settles (i : Slot) (l : Fin 8) (s : State) : DoorsSettle s (edged i l s) := by
  have frame := edged_frame i l s
  refine .of_kept (frame.mono (by decide)) (.of_frame frame (by decide))
    (fun p => .of_same (frame .portals (by decide)) p) fun p k _ => ?_
  rw [edged_run]
  split
  · rename_i here
    rw [here]
    rfl
  · rfl

theorem reformPortal_kept (exists_ : portalExists p s = true) (other : q ≠ p) : PortalKept q s (reformPortal p s) := by
  rw [PortalKept, reformPortal_run exists_]
  exact ⟨if_neg other, if_neg other⟩

theorem reformPortal_reformed (exists_ : portalExists p s = true) : Reformed p s (reformPortal p s) :=
  ⟨reformPortal_formed exists_, reformPortal_doorSlots exists_⟩

theorem reformPortal_settles (exists_ : portalExists p s = true) : DoorsSettle s (reformPortal p s) := by
  refine ⟨reformPortal_frame p s, reformPortal_spares p s, fun q => ?_, .inr (reformPortal_doorSlots exists_)⟩
  by_cases here : q = p
  · rw [here]
    exact .inr (reformPortal_reformed exists_)
  · exact .inl ⟨reformPortal_kept exists_ here, .of_same (reformPortal_leaves exists_) q⟩

/-- A leaf that changes, and its portal re-formed behind it. -/
theorem changed_settles (exists_ : portalExists (portalOf l) s = true) (new : LeafState) :
    Reformed (portalOf l) s (reformPortal (portalOf l) (changeLeaf l new s))
      ∧ DoorsSettle s (reformPortal (portalOf l) (changeLeaf l new s)) := by
  have frame := changeLeaf_leafing (l := l) new s
  have signals : (changeLeaf l new s).sst.table = s.sst.table := frame .signalTable (by decide)
  have now : (changeLeaf l new s).now = s.now := frame .now (by decide)
  have there := (changeLeaf_exists l new (portalOf l) s).trans exists_
  have reformed := (reformPortal_reformed there).of_before signals now
  refine ⟨reformed, (changeLeaf_frame l new s).trans (reformPortal_frame _ _),
    (changeLeaf_spares _ l new s).trans (reformPortal_spares _ _), fun q => ?_, .inr reformed.2⟩
  by_cases here : q = portalOf l
  · rw [here]
    exact .inr reformed
  · refine .inl ⟨(PortalKept.of_same (frame .portals (by decide)) q).trans (reformPortal_kept there here), fun k of => ?_⟩
    have other : k ≠ l := fun same => here (by rw [← of, same])
    rw [leafRun_eq (reformPortal_leaves there), changeLeaf_run, if_neg other]

theorem takeRequestReading_settles (p : Fin 4) (s : State) : DoorsSettle s (takeRequestReading p s) := by
  refine .of_kept (takeRequestReading_frame p s) (fun j other => ?_) (fun q => ?_)
    fun q => .of_same (takeRequestReading_leaves p s) q
  · rw [takeRequestReading_slot, if_neg fun h => other (by rw [h.2]; exact List.mem_cons_self)]
  · rw [PortalKept, takeRequestReading_run]
    split
    · rename_i here
      rw [here]
      exact ⟨rfl, rfl⟩
    · exact ⟨rfl, rfl⟩

end

end Sys2Proof.Machine
end

section
/-! PROOFS. A notification of a slot (R132 to R145): the leaves in ascending order, then the portals, each part told of the
state it meets, and what the walk leaves of one leaf and one portal. -/

namespace Sys2Proof.Machine

/-! ### Parts one behind the other -/

section
variable {α : Type} {n : Nat} {I : State → Prop} {R : State → State → Prop} {s : State}

theorem foldl_idle {f : State → α → State} (l : List α) (idle : ∀ a ∈ l, f s a = s) : l.foldl f s = s := by
  induction l with
  | nil => rfl
  | cons a l ih =>
    rw [List.foldl_cons, idle a List.mem_cons_self]
    exact ih fun b member => idle b (List.mem_cons_of_mem a member)

/-- A relation that each part keeps, where an invariant of the walk holds. -/
theorem foldl_between (refl : ∀ s, R s s) (trans : ∀ {s t u}, R s t → R t u → R s u) {f : State → α → State}
    (keep : ∀ u a, I u → I (f u a)) (l : List α) (step : ∀ u, ∀ a ∈ l, I u → R u (f u a)) (start : I s) :
    I (l.foldl f s) ∧ R s (l.foldl f s) := by
  induction l generalizing s with
  | nil => exact ⟨start, refl s⟩
  | cons a l ih =>
    obtain ⟨kept, rest⟩ := ih (fun u b member => step u b (List.mem_cons_of_mem a member)) (keep s a start)
    exact ⟨kept, trans (step s a List.mem_cons_self start) rest⟩

/-- An index with the others before and behind it. -/
theorem indices_split (j : Fin n) : ∃ before after, indices n = before ++ j :: after ∧ j ∉ before ∧ j ∉ after := by
  obtain ⟨before, after, eq⟩ := List.append_of_mem (mem_indices n j)
  have distinct := indices_nodup n
  rw [eq] at distinct
  obtain ⟨-, tail, apart⟩ := List.nodup_append.1 distinct
  exact ⟨before, after, eq, fun member => apart j member j List.mem_cons_self rfl, (List.nodup_cons.1 tail).1⟩

/-- The part of one index, with a relation that the parts of all others keep before it and behind it. -/
theorem foldl_around (refl : ∀ s, R s s) (trans : ∀ {s t u}, R s t → R t u → R s u) {f : State → Fin n → State}
    (keep : ∀ u i, I u → I (f u i)) (j : Fin n) (step : ∀ u i, i ≠ j → I u → R u (f u i)) (start : I s) :
    ∃ u, I u ∧ R s u ∧ R (f u j) ((indices n).foldl f s) := by
  obtain ⟨before, after, eq, absent, behind⟩ := indices_split j
  have others (l : List (Fin n)) (h : j ∉ l) (u : State) (i : Fin n) (member : i ∈ l) : I u → R u (f u i) :=
    step u i fun same => h (same ▸ member)
  obtain ⟨kept, first⟩ := foldl_between refl trans keep before (others before absent) start
  obtain ⟨-, last⟩ := foldl_between refl trans keep after (others after behind) (keep _ j kept)
  refine ⟨before.foldl f s, kept, first, ?_⟩
  rw [eq, List.foldl_append, List.foldl_cons]
  exact last

/-- The part of one index alone. -/
theorem foldl_single {f : State → Fin n → State} (j : Fin n) (before : ∀ i ≠ j, f s i = s)
    (after : ∀ i ≠ j, f (f s j) i = f s j) : (indices n).foldl f s = f s j := by
  obtain ⟨first, last, eq, absent, behind⟩ := indices_split j
  rw [eq, List.foldl_append, List.foldl_cons, foldl_idle first fun i member => before i fun same => absent (same ▸ member),
    foldl_idle last fun i member => after i fun same => behind (same ▸ member)]

end

section
variable {s t u : State} {p : Fin 4} {k l : Fin 8} {i : Slot} {c : Instr}

/-! ### The part of a leaf -/

/-- The slot is an input of a fitted leaf. -/
def leafTakes (i : Slot) (l : Fin 8) (s : State) : Bool := leafFitted l s && (leafInputs l s).contains i

theorem leafTakes_iff (i : Slot) (l : Fin 8) (s : State) :
    leafTakes i l s = true ↔ leafFitted l s = true ∧ i ∈ leafInputs l s := by
  rw [leafTakes, Bool.and_eq_true, List.contains_iff_mem]

theorem leafTakes_false (i : Slot) (l : Fin 8) (s : State) :
    leafTakes i l s = false ↔ leafFitted l s = false ∨ i ∉ leafInputs l s := by
  rw [← Bool.not_eq_true, leafTakes_iff, not_and_or, Bool.not_eq_true]

theorem leafInputs_eq (table : t.drm.table = s.drm.table) (l : Fin 8) : leafInputs l t = leafInputs l s := by
  rw [leafInputs, leafInputs, doorEntry_eq table, leader_eq table]

theorem leafTakes_eq (table : t.drm.table = s.drm.table) (i : Slot) (l : Fin 8) : leafTakes i l t = leafTakes i l s := by
  rw [leafTakes, leafTakes, leafFitted_eq table, leafInputs_eq table]

theorem notifyLeaf_idle (idle : leafTakes i l s = false) : notifyLeaf i s l = s :=
  if_neg fun h => Bool.false_ne_true (idle.symm.trans h)

theorem notifyLeaf_taken (takes : leafTakes i l s = true) : notifyLeaf i s l = deriveLeaf l (edged i l s) := if_pos takes

theorem edged_table (i : Slot) (l : Fin 8) (s : State) : (edged i l s).drm.table = s.drm.table :=
  edged_frame i l s .doorTable (by decide)

theorem edged_fitted (fitted : leafFitted l s = true) : leafFitted l (edged i l s) = true :=
  (leafFitted_eq (edged_table i l s) l).trans fitted

theorem notifyLeaf_run (takes : leafTakes i l s = true) :
    leafRun l (notifyLeaf i s l) = derivedRun l (nextLeaf l (edged i l s)) (edged i l s) := by
  obtain ⟨fitted, -⟩ := (leafTakes_iff i l s).1 takes
  rw [notifyLeaf_taken takes, deriveLeaf_run (edged_fitted fitted), if_pos rfl]

theorem notifyLeaf_other (other : k ≠ l) : leafRun k (notifyLeaf i s l) = leafRun k s := by
  cases takes : leafTakes i l s with
  | false => rw [notifyLeaf_idle takes]
  | true =>
    obtain ⟨fitted, -⟩ := (leafTakes_iff i l s).1 takes
    rw [notifyLeaf_taken takes, deriveLeaf_run (edged_fitted fitted), if_neg other, edged_run, if_neg other]

/-- What the part of a leaf that has the slot can do: an edge reading, or a change behind which its portal is re-formed. -/
theorem notifyLeaf_taken_cases (takes : leafTakes i l s = true) :
    ((leafRun l (notifyLeaf i s l)).state = (leafRun l s).state ∧ notifyLeaf i s l = edged i l s)
    ∨ ((leafRun l (notifyLeaf i s l)).state ≠ (leafRun l s).state
      ∧ portalExists (portalOf l) (edged i l s) = true
      ∧ notifyLeaf i s l = reformPortal (portalOf l) (changeLeaf l (nextLeaf l (edged i l s)) (edged i l s))) := by
  obtain ⟨fitted, -⟩ := (leafTakes_iff i l s).1 takes
  have state : (leafRun l (edged i l s)).state = (leafRun l s).state := by
    rw [edged_run, if_pos rfl]
    rfl
  rw [notifyLeaf_run takes, derivedRun_state, notifyLeaf_taken takes, ← state]
  by_cases still : nextLeaf l (edged i l s) = (leafRun l (edged i l s)).state
  · exact .inl ⟨still, deriveLeaf_still still⟩
  · exact .inr ⟨still, portalExists_of_fitted (edged_fitted fitted), deriveLeaf_moved still⟩

/-- What a leaf's part can do at all. -/
theorem notifyLeaf_cases (i : Slot) (l : Fin 8) (s : State) : notifyLeaf i s l = s
    ∨ ((leafRun l (notifyLeaf i s l)).state = (leafRun l s).state ∧ notifyLeaf i s l = edged i l s)
    ∨ ((leafRun l (notifyLeaf i s l)).state ≠ (leafRun l s).state
      ∧ portalExists (portalOf l) (edged i l s) = true
      ∧ notifyLeaf i s l = reformPortal (portalOf l) (changeLeaf l (nextLeaf l (edged i l s)) (edged i l s))) := by
  cases takes : leafTakes i l s with
  | false => exact .inl (notifyLeaf_idle takes)
  | true => exact .inr (notifyLeaf_taken_cases takes)

theorem notifyLeaf_settles (i : Slot) (l : Fin 8) (s : State) : DoorsSettle s (notifyLeaf i s l) := by
  rcases notifyLeaf_cases i l s with eq | ⟨-, eq⟩ | ⟨-, exists_, eq⟩ <;> rw [eq]
  · exact .refl s
  · exact edged_settles i l s
  · exact (edged_settles i l s).trans (changed_settles exists_ _).2

/-- The conditions of other leaves are not reported. -/
theorem notifyLeaf_reports (other : k ≠ l) (report : ofLeaf k c = true) :
    (notifyLeaf i s l).inFlight.count c = s.inFlight.count c := by
  cases takes : leafTakes i l s with
  | false => rw [notifyLeaf_idle takes]
  | true =>
    obtain ⟨fitted, -⟩ := (leafTakes_iff i l s).1 takes
    have absent : c ∉ flagReports l (doorEntry l (edged i l s)).faultClass (leafRun l (edged i l s))
        (derivedRun l (nextLeaf l (edged i l s)) (edged i l s)) := fun member =>
      other (ofLeaf_unique (ofLeaf_of_mem_flagReports member) report)
    rw [notifyLeaf_taken takes, deriveLeaf_reports (edged_fitted fitted) report, List.count_eq_zero.2 absent,
      Nat.add_zero, (edged_adds i l s).absent (isNotice_of_ofLeaf report) List.not_mem_nil]

/-! ### The part of a portal -/

/-- What a portal's part can do, step by step: its re-forming at its release slot, and its request reading. -/
theorem notifyPortal_between {R : State → State → Prop} (refl : ∀ s, R s s) (trans : ∀ {s t u}, R s t → R t u → R s u)
    (reform : portalExists p s = true → (leader p s).releaseSlot = some i → R s (reformPortal p s))
    (read : ∀ u, u.drm.table = s.drm.table → portalExists p s = true → (leader p s).requestSlot = some i →
      R u (takeRequestReading p u)) : R s (notifyPortal i s p) := by
  unfold notifyPortal
  split
  · rename_i exists_
    have released : R s (if (leader p s).releaseSlot = some i then reformPortal p s else s)
        ∧ (if (leader p s).releaseSlot = some i then reformPortal p s else s).drm.table = s.drm.table := by
      split
      · rename_i here
        exact ⟨reform exists_ here, reformPortal_frame p s .doorTable (by decide)⟩
      · exact ⟨refl s, rfl⟩
    obtain ⟨before, table⟩ := released
    simp only
    split
    · rename_i here
      exact trans before (read _ table exists_ here)
    · exact before
  · exact refl s

theorem notifyPortal_settles (i : Slot) (p : Fin 4) (s : State) : DoorsSettle s (notifyPortal i s p) :=
  notifyPortal_between .refl .trans (fun exists_ _ => reformPortal_settles exists_)
    fun u _ _ _ => takeRequestReading_settles p u

theorem notifyPortal_leaves (i : Slot) (p : Fin 4) (s : State) : (notifyPortal i s p).drm.leaves = s.drm.leaves :=
  notifyPortal_between (R := fun s t => t.drm.leaves = s.drm.leaves) (fun _ => rfl) (fun h k => k.trans h)
    (fun exists_ _ => reformPortal_leaves exists_) fun u _ _ _ => takeRequestReading_leaves p u

theorem notifyPortal_reports (report : ofLeaf k c = true) :
    (notifyPortal i s p).inFlight.count c = s.inFlight.count c := by
  have notice := isNotice_of_ofLeaf report
  refine notifyPortal_between (R := fun s t => t.inFlight.count c = s.inFlight.count c) (fun _ => rfl)
    (fun h k => k.trans h) (fun exists_ _ => (reformPortal_adds exists_).absent notice fun member => ?_)
    fun u _ _ _ => (takeRequestReading_adds p u).absent notice List.not_mem_nil
  split at member
  · rw [List.mem_singleton.1 member] at report
    exact Bool.false_ne_true report
  · exact List.not_mem_nil member

/-! ### The walk -/

/-- The leaves notified, in ascending order. -/
def leavesNotified (i : Slot) (s : State) : State := (indices 8).foldl (notifyLeaf i) s

theorem notifyDoors_awake (awake : s.opState ≠ .config) :
    notifyDoors i s = (indices 4).foldl (notifyPortal i) (leavesNotified i s) := if_neg awake

theorem foldl_settles {α : Type} {f : State → α → State} (step : ∀ s a, DoorsSettle s (f s a)) (l : List α) (s : State) :
    DoorsSettle s (l.foldl f s) :=
  (foldl_between (I := fun _ => True) .refl .trans (fun _ _ _ => trivial) l (fun u a _ _ => step u a) trivial).2

theorem leavesNotified_settles (i : Slot) (s : State) : DoorsSettle s (leavesNotified i s) :=
  foldl_settles (fun s l => notifyLeaf_settles i l s) _ s

theorem notifyPortals_settles (i : Slot) (s : State) : DoorsSettle s ((indices 4).foldl (notifyPortal i) s) :=
  foldl_settles (fun s p => notifyPortal_settles i p s) _ s

theorem notifyDoors_settles (awake : s.opState ≠ .config) (i : Slot) : DoorsSettle s (notifyDoors i s) := by
  rw [notifyDoors_awake awake]
  exact (leavesNotified_settles i s).trans (notifyPortals_settles i _)

/-- Between two states the leaf was not reached. -/
structure LeafPassed (l : Fin 8) (s t : State) : Prop where
  settles : DoorsSettle s t
  run : leafRun l t = leafRun l s
  reports : ∀ c, ofLeaf l c = true → t.inFlight.count c = s.inFlight.count c

theorem LeafPassed.refl (l : Fin 8) (s : State) : LeafPassed l s s := ⟨.refl s, rfl, fun _ _ => rfl⟩

theorem LeafPassed.trans (h : LeafPassed l s t) (k : LeafPassed l t u) : LeafPassed l s u :=
  ⟨h.settles.trans k.settles, k.run.trans h.run, fun c report => (k.reports c report).trans (h.reports c report)⟩

theorem notifyLeaf_passed (other : k ≠ l) : LeafPassed l s (notifyLeaf i s k) :=
  ⟨notifyLeaf_settles i k s, notifyLeaf_other other.symm, fun _ => notifyLeaf_reports other.symm⟩

theorem notifyPortal_passed : LeafPassed l s (notifyPortal i s p) :=
  ⟨notifyPortal_settles i p s, leafRun_eq (notifyPortal_leaves i p s) l, fun _ => notifyPortal_reports⟩

theorem notifyPortals_passed (i : Slot) (l : Fin 8) (s : State) :
    LeafPassed l s ((indices 4).foldl (notifyPortal i) s) :=
  (foldl_between (I := fun _ => True) (.refl l) .trans (fun _ _ h => h) (indices 4)
    (fun u p _ _ => notifyPortal_passed (i := i) (s := u) (p := p)) trivial).2

/-- A leaf is reached once. -/
theorem notifyDoors_leaf (awake : s.opState ≠ .config) (i : Slot) (l : Fin 8) :
    ∃ u, LeafPassed l s u ∧ LeafPassed l (notifyLeaf i u l) (notifyDoors i s) := by
  obtain ⟨u, -, before, after⟩ := foldl_around (I := fun _ => True) (R := LeafPassed l) (.refl l) .trans
    (fun _ _ h => h) l (fun u k other _ => notifyLeaf_passed (i := i) (s := u) other) (s := s) trivial
  rw [notifyDoors_awake awake]
  exact ⟨u, before, after.trans (notifyPortals_passed i l _)⟩

/-- Leaves notified one behind the other, where each part that leaves of its run-time state what is asked keeps a relation:
each leaf is reached once, so what it is left with at the end is what its own part left. -/
theorem leaves_between {R : State → State → Prop} (refl : ∀ s, R s s) (trans : ∀ {s t u}, R s t → R t u → R s u)
    {left : Fin 8 → LeafRun → LeafRun → Prop}
    (step : ∀ u l, left l (leafRun l u) (leafRun l (notifyLeaf i u l)) → R u (notifyLeaf i u l)) (ls : List (Fin 8))
    (distinct : ls.Nodup) (s : State)
    (asked : ∀ l ∈ ls, left l (leafRun l s) (leafRun l (ls.foldl (notifyLeaf i) s))) :
    R s (ls.foldl (notifyLeaf i) s) := by
  induction ls generalizing s with
  | nil => exact refl s
  | cons l ls ih =>
    obtain ⟨absent, distinct⟩ := List.nodup_cons.1 distinct
    have reached : leafRun l (ls.foldl (notifyLeaf i) (notifyLeaf i s l)) = leafRun l (notifyLeaf i s l) :=
      (foldl_between (I := fun _ => True) (R := LeafPassed l) (.refl l) .trans (fun _ _ h => h) ls
        (fun u k member _ => notifyLeaf_passed (ne_of_mem_of_not_mem member absent)) trivial).2.run
    rw [List.foldl_cons] at asked ⊢
    refine trans (step s l ?_) (ih distinct _ fun k member => ?_)
    · rw [← reached]
      exact asked l List.mem_cons_self
    · rw [notifyLeaf_other (ne_of_mem_of_not_mem member absent)]
      exact asked k (List.mem_cons_of_mem l member)

end

end Sys2Proof.Machine
end

section
/-! PROOFS. DOOR_INPUT_NOTIFICATION as it is taken: each leaf that has the slot (R133 to R138), each portal (R139, R140), and
the request slots (R143). -/

namespace Sys2Proof.Machine

section
variable {s t u w : State} {p q : Fin 4} {k l : Fin 8} {i slot : Slot} {c : Instr}

/-! ### The arrival taken -/

/-- The part with the notification of the slot taken. -/
def slotTaken (slot : Slot) (s : State) : State := takeArrival (.doorInputNotification slot) s

/-- The part behind the notification. -/
def slotNotified (slot : Slot) (s : State) : State := notifyDoors slot (slotTaken slot s)

theorem exec_doorInputNotification (slot : Slot) (s : State) :
    exec (.doorInputNotification slot) s = .next (slotNotified slot s) := rfl

theorem slotNotified_config (config : s.opState = .config) : slotNotified slot s = slotTaken slot s := if_pos config

theorem slotTaken_adds (slot : Slot) (s : State) : Adds [] s (slotTaken slot s) := fun c other => by
  have apart : c ≠ .doorInputNotification slot := fun same => by
    rw [same] at other
    exact absurd other.symm Bool.false_ne_true
  rw [List.count_nil, Nat.add_zero]
  exact List.count_erase_of_ne apart

/-- The leaves in ascending order, then the portals. -/
theorem slotNotified_walk (awake : s.opState ≠ .config) (slot : Slot) : slotNotified slot s
    = (indices 4).foldl (notifyPortal slot) (leavesNotified slot (slotTaken slot s)) :=
  notifyDoors_awake (s := slotTaken slot s) awake

theorem slotNotified_reached (awake : s.opState ≠ .config) (slot : Slot) (l : Fin 8) :
    leafRun l (slotNotified slot s) = leafRun l (leavesNotified slot (slotTaken slot s)) := by
  rw [slotNotified_walk awake]
  exact (notifyPortals_passed slot l _).run

theorem slotNotified_settles (awake : s.opState ≠ .config) (slot : Slot) :
    DoorsSettle (slotTaken slot s) (slotNotified slot s) :=
  notifyDoors_settles (s := slotTaken slot s) awake slot

/-! ### A leaf (R133 to R138) -/

/-- A leaf that does not have the slot. -/
theorem slotNotified_idle (awake : s.opState ≠ .config) (idle : leafTakes slot l s = false) :
    leafRun l (slotNotified slot s) = leafRun l s := by
  obtain ⟨u, before, after⟩ := notifyDoors_leaf (s := slotTaken slot s) awake slot l
  have quiet : leafTakes slot l u = false := (leafTakes_eq before.settles.table slot l).trans idle
  rw [notifyLeaf_idle quiet] at after
  exact after.run.trans before.run

theorem edgeTurns_same (table : t.drm.table = s.drm.table) (run : leafRun l t = leafRun l s)
    (read : readInput i t = readInput i s) : edgeTurns i l t = edgeTurns i l s := by
  rw [edgeTurns, edgeTurns, doorEntry_eq table, run, read]

theorem edgedRun_same (table : t.drm.table = s.drm.table) (run : leafRun l t = leafRun l s)
    (read : readInput i t = readInput i s) : edgedRun i l t = edgedRun i l s := by
  rw [edgedRun, edgedRun, edgeTurns_same table run read, doorEntry_eq table, run, read]

theorem flagReports_unedged {cls : Fin 16} {r r' : LeafRun} (same : unedged r = unedged r') (new : LeafRun) :
    flagReports l cls r new = flagReports l cls r' new := by
  obtain ⟨-, -, -, -, -, inconsistent, transit⟩ := fields_of_unedged same
  rw [flagReports_eq, flagReports_eq, inconsistent, transit]

/-- A leaf that has the slot: it is derived in a state `w`, in which only its edge reading and the doors before it are
later than in `s`. -/
theorem slotNotified_derived (awake : s.opState ≠ .config) (takes : leafTakes slot l s = true) :
    ∃ w, ChangesOnly doors (slotTaken slot s) w ∧ Spares doorSlots (slotTaken slot s) w
      ∧ unedged (leafRun l w) = unedged (leafRun l s)
      ∧ (ApartFromDoors slot s → leafRun l w = edgedRun slot l s)
      ∧ leafRun l (slotNotified slot s) = derivedRun l (nextLeaf l w) w
      ∧ ∀ c, ofLeaf l c = true → (slotNotified slot s).inFlight.count c = s.inFlight.count c
        + (flagReports l (doorEntry l s).faultClass (leafRun l s) (leafRun l (slotNotified slot s))).count c := by
  obtain ⟨u, before, after⟩ := notifyDoors_leaf (s := slotTaken slot s) awake slot l
  have here : leafTakes slot l u = true := (leafTakes_eq before.settles.table slot l).trans takes
  obtain ⟨fitted, -⟩ := (leafTakes_iff slot l u).1 here
  have own : leafRun l (edged slot l u) = edgedRun slot l u := by rw [edged_run, if_pos rfl]
  have run : leafRun l (slotNotified slot s) = derivedRun l (nextLeaf l (edged slot l u)) (edged slot l u) :=
    after.run.trans (notifyLeaf_run here)
  have same : unedged (leafRun l (edged slot l u)) = unedged (leafRun l s) := by
    rw [own, unedged_edgedRun, before.run]
    rfl
  have settled := before.settles.trans (edged_settles slot l u)
  refine ⟨edged slot l u, settled.frame, settled.spares, same, fun apart => ?_, run, fun c report => ?_⟩
  · rw [own]
    exact edgedRun_same before.settles.table before.run
      (readInput_apart (s := slotTaken slot s) apart before.settles.frame before.settles.spares)
  · have notice := isNotice_of_ofLeaf report
    have entry : doorEntry l (edged slot l u) = doorEntry l s :=
      (doorEntry_eq (edged_table slot l u) l).trans (doorEntry_eq before.settles.table l)
    have derived := deriveLeaf_reports (edged_fitted (i := slot) fitted) report
    rw [← notifyLeaf_taken here, ← run, entry, flagReports_unedged same] at derived
    calc (slotNotified slot s).inFlight.count c = (notifyLeaf slot u l).inFlight.count c := after.reports c report
      _ = (edged slot l u).inFlight.count c + _ := derived
      _ = s.inFlight.count c + _ := by
        rw [(edged_adds slot l u).absent notice List.not_mem_nil, before.reports c report,
          (slotTaken_adds slot s).absent notice List.not_mem_nil]

theorem slotNotified_followed (awake : s.opState ≠ .config) (takes : leafTakes slot l s = true) :
    LeafFollowed l s (slotNotified slot s) := by
  obtain ⟨w, frame, -, same, -, run, reports⟩ := slotNotified_derived awake takes
  have now : w.now = (slotTaken slot s).now := frame .now (by decide)
  have table : w.drm.table = (slotTaken slot s).drm.table := frame .doorTable (by decide)
  exact leafFollowed_of same now table run reports

/-- The state of a leaf whose inputs the door monitor does not write, with its edge reading and its obstructions. -/
theorem slotNotified_state (awake : s.opState ≠ .config) (takes : leafTakes slot l s = true)
    (apart : ∀ i ∈ leafInputs l s, ApartFromDoors i s) :
    LeafDerived l (leafRun l s).state (leafRun l (slotNotified slot s)).state s
      ∧ (leafRun l (slotNotified slot s)).edge = (edgedRun slot l s).edge
      ∧ (leafRun l (slotNotified slot s)).obstructions = (edgedRun slot l s).obstructions := by
  obtain ⟨w, frame, spares, same, edge, run, -⟩ := slotNotified_derived awake takes
  obtain ⟨-, member⟩ := (leafTakes_iff slot l s).1 takes
  obtain ⟨edgeT, obstructionsT⟩ := derivedRun_edge l (nextLeaf l w) w
  obtain ⟨state, -⟩ := fields_of_unedged same
  have derived : nextLeaf l w = deriveState l (leafRun l s).state s := by
    rw [nextLeaf, state]
    exact deriveState_same (s := slotTaken slot s) (frame .doorTable (by decide)) fun i input =>
      readInput_apart (s := slotTaken slot s) (apart i input) frame spares
  rw [run, edgeT, obstructionsT, derivedRun_state, edge (apart slot member), derived]
  exact ⟨deriveState_derived l _ s, rfl, rfl⟩

/-- The edge reading and the obstructions of a leaf notified (R137). -/
theorem edgedRun_follows (i : Slot) (l : Fin 8) (s : State) :
    let turns := (doorEntry l s).edgeSlot = i ∧ readInput i s = some true ∧ (leafRun l s).edge = false
    (turns → (edgedRun i l s).edge = true ∧ (edgedRun i l s).obstructions
        = if (leafRun l s).state = .closing then satSucc 65535 (leafRun l s).obstructions else (leafRun l s).obstructions)
      ∧ (¬turns → (edgedRun i l s).obstructions = (leafRun l s).obstructions)
      ∧ ((doorEntry l s).edgeSlot = i → ∀ b, readInput i s = some b → (edgedRun i l s).edge = b)
      ∧ ((doorEntry l s).edgeSlot ≠ i ∨ readInput i s = none → (edgedRun i l s).edge = (leafRun l s).edge) := by
  have reads (here : (doorEntry l s).edgeSlot = i) (b : Bool) (read : readInput i s = some b) :
      (edgedRun i l s).edge = b := by
    rw [edgedRun, if_pos here, read]
    rfl
  refine ⟨fun turns => ⟨reads turns.1 true turns.2.1, ?_⟩, fun still => ?_, reads, fun quiet => ?_⟩
  · rw [edgedRun, (edgeTurns_iff i l s).2 turns]
    simp only [Bool.true_and, decide_eq_true_eq]
  · have none : edgeTurns i l s = false := by rwa [← Bool.not_eq_true, edgeTurns_iff]
    rw [edgedRun, none]
    rfl
  · rw [edgedRun]
    by_cases here : (doorEntry l s).edgeSlot = i
    · rw [if_pos here, quiet.resolve_left (not_not_intro here)]
      rfl
    · exact if_neg here

/-! ### A portal (R139, R140) -/

/-- A portal whose leaf changed, or whose release slot it is. -/
theorem slotNotified_reformed (awake : s.opState ≠ .config) (exists_ : portalExists p s = true)
    (cause : (∃ l, portalOf l = p ∧ (leafRun l (slotNotified slot s)).state ≠ (leafRun l s).state)
      ∨ (leader p s).releaseSlot = some slot) : Reformed p s (slotNotified slot s) := by
  have whole := slotNotified_settles awake slot
  have reformed : Reformed p (slotTaken slot s) (slotNotified slot s) := by
    rcases cause with ⟨l, of, changed⟩ | release
    · exact (whole.portals p).resolve_left fun kept => changed (kept.2 l of)
    · obtain ⟨u, -, before, after⟩ := foldl_around (I := fun _ => True) .refl .trans (fun _ _ h => h) p
        (fun u q _ _ => notifyPortal_settles slot q u) (s := leavesNotified slot (slotTaken slot s)) trivial
      have start := (leavesNotified_settles slot (slotTaken slot s)).trans before
      have there : portalExists p u = true := (portalExists_eq start.table p).trans exists_
      have releases : (leader p u).releaseSlot = some slot := by
        rw [leader_eq start.table]
        exact release
      have own : Reformed p u (notifyPortal slot u p) := by
        have formed := reformPortal_reformed there
        have settled := reformPortal_settles there
        unfold notifyPortal
        rw [if_pos there, if_pos releases]
        simp only
        split
        · exact DoorsSettle.reformed formed (takeRequestReading_settles p _) settled.signals settled.now
        · exact formed
      have later := DoorsSettle.reformed own after (notifyPortal_settles slot p u).signals (notifyPortal_settles slot p u).now
      rw [← slotNotified_walk awake] at later
      exact later.of_before start.signals start.now
  exact reformed.of_before rfl rfl

/-- A leaf's part keeps a portal that is not the leaf's, and each portal where the leaf keeps its state. -/
theorem notifyLeaf_kept (h : portalOf l = p → (leafRun l (notifyLeaf i s l)).state = (leafRun l s).state) :
    PortalKept p s (notifyLeaf i s l) := by
  have edge : PortalKept p s (edged i l s) := .of_same (edged_frame i l s .portals (by decide)) p
  rcases notifyLeaf_cases i l s with eq | ⟨-, eq⟩ | ⟨changed, exists_, eq⟩
  · rw [eq]
    exact .refl p s
  · rw [eq]
    exact edge
  · have other : p ≠ portalOf l := fun same => changed (h same.symm)
    have put : PortalKept p (edged i l s) (changeLeaf l (nextLeaf l (edged i l s)) (edged i l s)) :=
      .of_same (changeLeaf_leafing _ _ .portals (by decide)) p
    rw [eq]
    exact (edge.trans put).trans (reformPortal_kept ((changeLeaf_exists _ _ _ _).trans exists_) other)

theorem takeRequestReading_kept (p q : Fin 4) (s : State) : PortalKept p s (takeRequestReading q s) := by
  rw [PortalKept, takeRequestReading_run]
  split
  · rename_i here
    rw [here]
    exact ⟨rfl, rfl⟩
  · exact ⟨rfl, rfl⟩

/-- A portal that does not exist has no leaf that is derived. -/
theorem leavesNotified_absent (absent : portalExists p s = false) (i : Slot) : PortalKept p s (leavesNotified i s) := by
  have step (u : State) (l : Fin 8) (table : u.drm.table = s.drm.table) : PortalKept p u (notifyLeaf i u l) := by
    refine notifyLeaf_kept fun of => ?_
    cases takes : leafTakes i l u with
    | false => rw [notifyLeaf_idle takes]
    | true =>
      obtain ⟨fitted, -⟩ := (leafTakes_iff i l u).1 takes
      have there := portalExists_of_fitted fitted
      rw [of, portalExists_eq table, absent] at there
      exact absurd there Bool.false_ne_true
  have walked := foldl_between (I := fun u => u.drm.table = s.drm.table) (.refl p) .trans (f := notifyLeaf i) (s := s)
    (fun u l table => (notifyLeaf_settles i l u).table.trans table) (indices 8) (fun u l _ => step u l) rfl
  exact walked.2

/-- A portal that is not re-formed keeps its state and its released flag. -/
theorem slotNotified_kept (awake : s.opState ≠ .config)
    (quiet : ¬(portalExists p s = true
      ∧ ((∃ l, portalOf l = p ∧ (leafRun l (slotNotified slot s)).state ≠ (leafRun l s).state)
        ∨ (leader p s).releaseSlot = some slot))) : PortalKept p s (slotNotified slot s) := by
  have first := leavesNotified_settles slot (slotTaken slot s)
  have reached := slotNotified_reached awake slot
  have leaves : PortalKept p (slotTaken slot s) (leavesNotified slot (slotTaken slot s)) := by
    by_cases exists_ : portalExists p s = true
    · refine leaves_between (left := fun l r r' => portalOf l = p → r'.state = r.state) (.refl p) .trans
        (fun u l => notifyLeaf_kept) (indices 8) (indices_nodup 8) _ fun l _ of => ?_
      by_contra changed
      exact quiet ⟨exists_, .inl ⟨l, of, by rw [reached]; exact changed⟩⟩
    · exact leavesNotified_absent (s := slotTaken slot s) (by rwa [Bool.not_eq_true] at exists_) slot
  have portals : PortalKept p (leavesNotified slot (slotTaken slot s))
      ((indices 4).foldl (notifyPortal slot) (leavesNotified slot (slotTaken slot s))) := by
    refine (foldl_between (I := fun u => u.drm.table = s.drm.table) (R := PortalKept p) (.refl p) .trans
      (fun u q table => (notifyPortal_settles slot q u).table.trans table) (indices 4) (fun u q _ table => ?_)
      first.table).2
    refine notifyPortal_between (.refl p) .trans (fun exists_ release => reformPortal_kept exists_ fun same => ?_)
      fun v _ _ _ => takeRequestReading_kept p q v
    rw [portalExists_eq table, ← same] at exists_
    rw [leader_eq table, ← same] at release
    exact quiet ⟨exists_, .inr release⟩
  rw [slotNotified_walk awake]
  exact leaves.trans portals

/-- Where no leaf changes and no portal is released, the door slots are not written. -/
theorem slotNotified_doorSlots (awake : s.opState ≠ .config)
    (still : ∀ l, (leafRun l (slotNotified slot s)).state = (leafRun l s).state)
    (unreleased : ∀ q, portalExists q s = true → (leader q s).releaseSlot ≠ some slot) :
    Spares [stopRequest] s (slotNotified slot s) := by
  have first := leavesNotified_settles slot (slotTaken slot s)
  have reached := slotNotified_reached awake slot
  have leaves : Spares [stopRequest] (slotTaken slot s) (leavesNotified slot (slotTaken slot s)) := by
    refine leaves_between (left := fun _ r r' => r'.state = r.state) (.refl _) .trans (fun u l same => ?_) (indices 8)
      (indices_nodup 8) _ fun l _ => (congrArg LeafRun.state (reached l)).symm.trans (still l)
    rcases notifyLeaf_cases slot l u with eq | ⟨-, eq⟩ | ⟨changed, -, -⟩
    · rw [eq]
      exact .refl _ u
    · rw [eq]
      exact .of_frame (edged_frame slot l u) (by decide)
    · exact absurd same changed
  have portals : Spares [stopRequest] (leavesNotified slot (slotTaken slot s))
      ((indices 4).foldl (notifyPortal slot) (leavesNotified slot (slotTaken slot s))) := by
    refine (foldl_between (I := fun u => u.drm.table = s.drm.table) (R := Spares [stopRequest]) (.refl _) .trans
      (fun u q table => (notifyPortal_settles slot q u).table.trans table) (indices 4) (fun u q _ table => ?_)
      first.table).2
    refine notifyPortal_between (.refl _) .trans (fun exists_ release => ?_) fun v _ _ _ j other => ?_
    · rw [portalExists_eq table] at exists_
      rw [leader_eq table] at release
      exact absurd release (unreleased q exists_)
    · rw [takeRequestReading_slot, if_neg fun h => other (by rw [h.2]; exact List.mem_cons_self)]
  rw [slotNotified_walk awake]
  exact leaves.trans portals

end

end Sys2Proof.Machine
end

section
/-! PROOFS. DOOR_INPUT_NOTIFICATION at the request slots (R143), and where one leaf alone has the slot (R141, R142, R144). -/

namespace Sys2Proof.Machine

section
variable {s t u w : State} {p q : Fin 4} {k l : Fin 8} {i slot : Slot} {c : Instr}

/-! ### A request slot (R143) -/

theorem notifyPortal_unreleased (unreleased : portalExists p s = true → (leader p s).releaseSlot ≠ some i) :
    notifyPortal i s p
      = if portalExists p s = true ∧ (leader p s).requestSlot = some i then takeRequestReading p s else s := by
  unfold notifyPortal
  by_cases exists_ : portalExists p s = true
  · rw [if_pos exists_, if_neg (unreleased exists_)]
    simp only [exists_, true_and]
  · rw [if_neg exists_, if_neg fun h => exists_ h.1]

theorem notifyPortal_idle
    (idle : ¬(portalExists p s = true ∧ ((leader p s).releaseSlot = some i ∨ (leader p s).requestSlot = some i))) :
    notifyPortal i s p = s := by
  rw [notifyPortal_unreleased fun exists_ release => idle ⟨exists_, .inl release⟩]
  exact if_neg fun h => idle ⟨h.1, .inr h.2⟩

/-- STOP_REQUEST stands as a press of this moment leaves it. -/
def PressStands (s : State) : Prop := s.drm.latch = true ∧ s.slot stopRequest = ⟨1, .valid, some s.now⟩

/-- Between two states no request slot of the portal was taken, and no portal was re-formed. -/
structure RequestPassed (p : Fin 4) (s t : State) : Prop where
  settles : DoorsSettle s t
  run : portalRun p t = portalRun p s
  press : PressStands s → PressStands t

theorem RequestPassed.refl (p : Fin 4) (s : State) : RequestPassed p s s := ⟨.refl s, rfl, id⟩

theorem RequestPassed.trans (h : RequestPassed p s t) (k : RequestPassed p t u) : RequestPassed p s u :=
  ⟨h.settles.trans k.settles, k.run.trans h.run, fun press => k.press (h.press press)⟩

theorem takeRequestReading_passed (other : q ≠ p) : RequestPassed p s (takeRequestReading q s) := by
  have now := (takeRequestReading_settles q s).now
  refine ⟨takeRequestReading_settles q s, by rw [takeRequestReading_run, if_neg other.symm], fun ⟨latch, slot⟩ => ⟨?_, ?_⟩⟩
  · rw [takeRequestReading_latch, latch, Bool.true_or]
  · rw [takeRequestReading_slot, now]
    split
    · rfl
    · exact slot

theorem takeRequestReading_stands (pressed : presses p s = true) : PressStands (takeRequestReading p s) := by
  refine ⟨by rw [takeRequestReading_latch, pressed, Bool.or_true], ?_⟩
  rw [takeRequestReading_slot, if_pos ⟨pressed, rfl⟩, (takeRequestReading_settles p s).now]

theorem leavesNotified_idle (idle : ∀ l, leafTakes i l s = false) : leavesNotified i s = s :=
  foldl_idle _ fun l _ => notifyLeaf_idle (idle l)

/-- A slot that is a request slot alone: the portal is reached once, and what its press leaves stays. -/
theorem slotNotified_request (awake : s.opState ≠ .config) (exists_ : portalExists p s = true)
    (request : (leader p s).requestSlot = some slot) (apart : ApartFromDoors slot s)
    (idle : ∀ l, leafTakes slot l s = false)
    (unreleased : ∀ q, portalExists q s = true → (leader q s).releaseSlot ≠ some slot) :
    portalRun p (slotNotified slot s) = requestRun p s
      ∧ (presses p s = true → PressStands (slotNotified slot s)) := by
  have walk : slotNotified slot s = (indices 4).foldl (notifyPortal slot) (slotTaken slot s) := by
    rw [slotNotified_walk awake, leavesNotified_idle (s := slotTaken slot s) idle]
  have part (u : State) (q : Fin 4) (table : u.drm.table = s.drm.table) : notifyPortal slot u q
      = if portalExists q u = true ∧ (leader q u).requestSlot = some slot then takeRequestReading q u else u := by
    refine notifyPortal_unreleased fun there => ?_
    rw [portalExists_eq table] at there
    rw [leader_eq table]
    exact unreleased q there
  have others (u : State) (q : Fin 4) (other : q ≠ p) (table : u.drm.table = s.drm.table) :
      RequestPassed p u (notifyPortal slot u q) := by
    rw [part u q table]
    split
    · exact takeRequestReading_passed other
    · exact .refl p u
  obtain ⟨u, table, before, after⟩ := foldl_around (I := fun u => u.drm.table = s.drm.table) (RequestPassed.refl p) .trans
    (fun u q table => (notifyPortal_settles slot q u).table.trans table) p others (s := slotTaken slot s) rfl
  rw [part u p table, if_pos ⟨(portalExists_eq table p).trans exists_, by rw [leader_eq table]; exact request⟩,
    ← walk] at after
  have readU : requestRead p u = requestRead p s := by
    rw [requestRead, requestRead, leader_eq table, request]
    exact readInput_apart (s := slotTaken slot s) apart before.settles.frame before.settles.spares
  have runU : portalRun p u = portalRun p s := before.run
  have same : presses p u = presses p s := by rw [presses, presses, readU, runU]
  refine ⟨?_, fun pressed => after.press (takeRequestReading_stands (same.trans pressed))⟩
  rw [after.run, takeRequestReading_run, if_pos rfl, requestRun, requestRun, readU, runU, same]

/-- Where one portal alone has the slot, its press is all that is told. -/
theorem slotNotified_press_woken (awake : s.opState ≠ .config) (exists_ : portalExists p s = true)
    (request : (leader p s).requestSlot = some slot) (idle : ∀ l, leafTakes slot l s = false)
    (unreleased : ∀ q, portalExists q s = true → (leader q s).releaseSlot ≠ some slot)
    (alone : ∀ q, q ≠ p → ¬(portalExists q s = true
      ∧ ((leader q s).releaseSlot = some slot ∨ (leader q s).requestSlot = some slot)))
    (pressed : presses p s = true) : Woken [.stopRequest true (some p)] s (slotNotified slot s) := by
  have own : notifyPortal slot (slotTaken slot s) p = takeRequestReading p (slotTaken slot s) := by
    rw [notifyPortal_unreleased (s := slotTaken slot s) (unreleased p)]
    exact if_pos ⟨exists_, request⟩
  have single : slotNotified slot s = takeRequestReading p (slotTaken slot s) := by
    have table := (takeRequestReading_settles p (slotTaken slot s)).table
    rw [slotNotified_walk awake, leavesNotified_idle (s := slotTaken slot s) idle, ← own]
    refine foldl_single p (fun q other => notifyPortal_idle (alone q other)) fun q other => notifyPortal_idle ?_
    rw [own, portalExists_eq table, leader_eq table]
    exact alone q other
  have told := takeRequestReading_woken p (slotTaken slot s)
  rw [if_pos (show presses p (slotTaken slot s) = true from pressed)] at told
  rw [single]
  exact Woken.after (.of_same rfl rfl) told

/-! ### A portal re-formed behind other changes of a leaf -/

/-- What a leaf may change before its portal is re-formed. -/
def beforeReforming : List Piece := .arrivals :: leafing

theorem clearsLatch_same (frame : ChangesOnly beforeReforming s u) : clearsLatch p u t = clearsLatch p s t := by
  have latch : u.drm.latch = s.drm.latch := frame .latch (by decide)
  rw [clearsLatch, clearsLatch, portalRun_eq (frame .portals (by decide)), frame.slot (by decide), latch]

theorem portalEvents_same (frame : ChangesOnly beforeReforming s u) : portalEvents p u t = portalEvents p s t := by
  rw [portalEvents, portalEvents, clearsLatch_same frame, portalRun_eq (frame .portals (by decide))]

theorem PortalFollowed.of_before (h : PortalFollowed p u t) (frame : ChangesOnly beforeReforming s u)
    (withdrawals : u.inFlight.count (.requestWithdrawal (.portal p)) = s.inFlight.count (.requestWithdrawal (.portal p))) :
    PortalFollowed p s t := by
  have now : u.now = s.now := frame .now (by decide)
  have latch : u.drm.latch = s.drm.latch := frame .latch (by decide)
  have run (q : Fin 4) : portalRun q u = portalRun q s := portalRun_eq (frame .portals (by decide)) q
  obtain ⟨formed, slots, rest⟩ := h
  rw [apartFromDoors_eq (frame .signalTable (by decide))] at formed
  refine ⟨formed, slots.of_now now, ?_⟩
  simp only [clearsLatch_same frame, latch, run, now, frame.slot (by decide) stopRequest, withdrawals,
    leader_eq (frame .doorTable (by decide))] at rest
  exact rest

/-! ### One leaf alone (R141, R142, R144) -/

/-- One leaf alone has the slot, and no portal. -/
theorem slotNotified_single (awake : s.opState ≠ .config)
    (alone : ∀ k, leafTakes slot k s = true → k = l)
    (idle : ∀ q, ¬(portalExists q s = true
      ∧ ((leader q s).releaseSlot = some slot ∨ (leader q s).requestSlot = some slot))) :
    slotNotified slot s = notifyLeaf slot (slotTaken slot s) l := by
  have others (u : State) (table : u.drm.table = s.drm.table) (k : Fin 8) (other : k ≠ l) : notifyLeaf slot u k = u := by
    refine notifyLeaf_idle ?_
    rw [leafTakes_eq table, ← Bool.not_eq_true]
    exact fun takes => other (alone k takes)
  have table : (notifyLeaf slot (slotTaken slot s) l).drm.table = s.drm.table :=
    (notifyLeaf_settles slot l (slotTaken slot s)).table
  have leaves : leavesNotified slot (slotTaken slot s) = notifyLeaf slot (slotTaken slot s) l :=
    foldl_single l (others _ rfl) (others _ table)
  rw [slotNotified_walk awake, leaves]
  refine foldl_idle _ fun q _ => notifyPortal_idle ?_
  rw [portalExists_eq table, leader_eq table]
  exact idle q

theorem changeEdged_frame (slot : Slot) (l : Fin 8) (new : LeafState) (s : State) :
    ChangesOnly beforeReforming s (changeLeaf l new (edged slot l s)) :=
  ((edged_frame slot l s).mono (by decide)).trans ((changeLeaf_leafing new _).mono (by decide))

/-- The events of a leaf's part (R141). -/
theorem notifyLeaf_woken (takes : leafTakes slot l s = true) :
    Woken ((if edgeTurns slot l s then [.obstruction l] else [])
      ++ if (leafRun l (notifyLeaf slot s l)).state ≠ (leafRun l s).state then
          .doorLeaf l (leafRun l (notifyLeaf slot s l)).state :: portalEvents (portalOf l) s (notifyLeaf slot s l)
        else []) s (notifyLeaf slot s l) := by
  have edge := edged_woken slot l s
  have after : (leafRun l (notifyLeaf slot s l)).state = nextLeaf l (edged slot l s) := by
    rw [notifyLeaf_run takes, derivedRun_state]
  rcases notifyLeaf_taken_cases takes with ⟨same, eq⟩ | ⟨changed, exists_, eq⟩
  · rw [if_neg (not_not_intro same), List.append_nil, eq]
    exact edge
  · have reformed := reformPortal_woken ((changeLeaf_exists l (nextLeaf l (edged slot l s)) _ _).trans exists_)
    rw [← eq, portalEvents_same (changeEdged_frame slot l _ s)] at reformed
    rw [if_pos changed, after]
    exact edge.trans ((changeLeaf_woken l _ _).cons reformed)

theorem withdrawal_absent (who : Requester) (cls : Fin 16) (r r' : LeafRun) (new : LeafState) :
    Instr.requestWithdrawal who ∉ flagReports l cls r r' ++ chimeAtClosing l new s := fun member => by
  rcases List.mem_append.1 member with report | placing
  · exact Bool.false_ne_true (ofLeaf_of_mem_flagReports report)
  · obtain ⟨p, x, same⟩ := mem_chimeAtClosing placing
    cases same

/-- What the change of a leaf brings with it at its portal. -/
theorem notifyLeaf_portal (takes : leafTakes slot l s = true)
    (changed : (leafRun l (notifyLeaf slot s l)).state ≠ (leafRun l s).state) :
    PortalFollowed (portalOf l) s (notifyLeaf slot s l) := by
  rcases notifyLeaf_taken_cases takes with ⟨same, -⟩ | ⟨-, exists_, eq⟩
  · exact absurd same changed
  · have followed := reformPortal_followed ((changeLeaf_exists l (nextLeaf l (edged slot l s)) _ _).trans exists_)
    rw [← eq] at followed
    exact followed.of_before (changeEdged_frame slot l _ s)
      (((edged_adds slot l s).after (changeLeaf_adds l _ _)).absent rfl (withdrawal_absent _ _ _ _ _))

/-- A leaf that keeps its state leaves portals, latch and slots. -/
theorem notifyLeaf_still (takes : leafTakes slot l s = true)
    (still : (leafRun l (notifyLeaf slot s l)).state = (leafRun l s).state) :
    (notifyLeaf slot s l).drm.latch = s.drm.latch ∧ (notifyLeaf slot s l).drm.portals = s.drm.portals
      ∧ (notifyLeaf slot s l).sst = s.sst := by
  rcases notifyLeaf_taken_cases takes with ⟨-, eq⟩ | ⟨changed, -, -⟩
  · have frame := edged_frame slot l s
    have slots : (edged slot l s).sst.slots = s.sst.slots := frame .slots (by decide)
    have table : (edged slot l s).sst.table = s.sst.table := frame .signalTable (by decide)
    rw [eq]
    refine ⟨frame .latch (by decide), frame .portals (by decide), ?_⟩
    calc (edged slot l s).sst = ⟨(edged slot l s).sst.slots, (edged slot l s).sst.table⟩ := rfl
      _ = ⟨s.sst.slots, s.sst.table⟩ := by rw [slots, table]
  · exact absurd still changed

/-! ### The closing chime placed (R142) -/

/-- Another fitted leaf of the portal is CLOSING. -/
def otherClosing (l : Fin 8) (s : State) : Bool :=
  (fittedLeaves (portalOf l) s).any fun k => decide (k ≠ l) && decide ((leafRun k s).state = .closing)

theorem otherClosing_false (l : Fin 8) (s : State) : otherClosing l s = false
    ↔ ∀ k, portalOf k = portalOf l → leafFitted k s = true → k ≠ l → (leafRun k s).state ≠ .closing := by
  rw [otherClosing, List.any_eq_false]
  simp only [mem_fittedLeaves, Bool.and_eq_true, decide_eq_true_eq, and_imp, not_and, ne_eq]

theorem otherClosing_edged (slot : Slot) (l : Fin 8) (s : State) : otherClosing l (edged slot l s) = otherClosing l s := by
  rw [Bool.eq_iff_iff, ← not_iff_not, Bool.not_eq_true, Bool.not_eq_true, otherClosing_false, otherClosing_false]
  refine forall_congr' fun k => imp_congr_right fun _ => ?_
  rw [leafFitted_eq (edged_table slot l s)]
  exact imp_congr_right fun _ => imp_congr_right fun other => by rw [edged_run, if_neg other]

theorem chimeAtClosing_eq (l : Fin 8) (new : LeafState) (s : State) : chimeAtClosing l new s
    = if new = .closing ∧ otherClosing l s = false then
        ((leader (portalOf l) s).chime.map fun x => Instr.requestPlacing (.portal (portalOf l)) x).toList
      else [] := rfl

theorem chimeAtClosing_count {x : Fin 8} (chime : (leader (portalOf l) s).chime = some x) (new : LeafState) :
    (chimeAtClosing l new s).count (.requestPlacing (.portal (portalOf l)) x)
      = if new = .closing ∧ otherClosing l s = false then 1 else 0 := by
  rw [chimeAtClosing_eq, chime]
  split
  · exact List.count_singleton_self
  · exact List.count_nil

/-- The closing chime is placed where the leaf alone enters CLOSING. -/
theorem notifyLeaf_placings (takes : leafTakes slot l s = true) {x : Fin 8}
    (chime : (leader (portalOf l) s).chime = some x) :
    (notifyLeaf slot s l).inFlight.count (.requestPlacing (.portal (portalOf l)) x)
      = s.inFlight.count (.requestPlacing (.portal (portalOf l)) x)
        + if (leafRun l (notifyLeaf slot s l)).state ≠ (leafRun l s).state
            ∧ (leafRun l (notifyLeaf slot s l)).state = .closing ∧ otherClosing l s = false then 1 else 0 := by
  have edge := (edged_adds slot l s).absent (c := .requestPlacing (.portal (portalOf l)) x) rfl List.not_mem_nil
  have after : (leafRun l (notifyLeaf slot s l)).state = nextLeaf l (edged slot l s) := by
    rw [notifyLeaf_run takes, derivedRun_state]
  rcases notifyLeaf_taken_cases takes with ⟨same, eq⟩ | ⟨changed, exists_, eq⟩
  · rw [if_neg fun h => h.1 same, Nat.add_zero, eq, edge]
  · have there := (changeLeaf_exists l (nextLeaf l (edged slot l s)) (portalOf l) (edged slot l s)).trans exists_
    have report : Instr.requestPlacing (.portal (portalOf l)) x ∉ flagReports l (doorEntry l (edged slot l s)).faultClass
        (leafRun l (edged slot l s)) (changedRun l (nextLeaf l (edged slot l s)) (edged slot l s)) := fun member =>
      Bool.false_ne_true (ofLeaf_of_mem_flagReports member)
    have chimeE : (leader (portalOf l) (edged slot l s)).chime = some x := by rw [leader_eq (edged_table slot l s), chime]
    simp only [after] at changed ⊢
    rw [eq, (reformPortal_adds there).absent rfl (by split <;> simp), changeLeaf_adds l _ _ _ rfl, List.count_append,
      List.count_eq_zero.2 report, Nat.zero_add, chimeAtClosing_count chimeE, otherClosing_edged, edge]
    simp only [changed, not_false_eq_true, ne_eq, true_and]

end

end Sys2Proof.Machine
end

section
/-! PROOFS. TRANSIT_TIMER_EXPIRY (R134), and the doors as they follow their inputs. -/

namespace Sys2Proof.Machine

section
variable {s t u : State} {p q : Fin 4} {k l : Fin 8} {slot : Slot} {c : Instr}

/-! ### The expiry of a transit timer (R134, R136) -/

/-- A leaf whose transit timer expired, before its portal is re-formed. -/
def transitExpired (l : Fin 8) (s : State) : State :=
  let s' := changeLeaf l .ajar s
  let r' := { leafRun l s' with transitFlag := true }
  post (flagReports l (doorEntry l s').faultClass (leafRun l s') r') (setLeafRun l r' s')

theorem expireTransit_eq (l : Fin 8) (s : State) :
    expireTransit l s = reformPortal (portalOf l) (transitExpired l s) := rfl

theorem transitExpired_frame (l : Fin 8) (s : State) : ChangesOnly beforeReforming s (transitExpired l s) :=
  ((changeLeaf_leafing .ajar s).mono (by decide)).trans
    (((setLeafRun_frame _ _ _).mono (by decide)).trans ((post_frame _ _).mono (by decide)))

theorem leafRun_posted (k l : Fin 8) (cs : List Instr) (r : LeafRun) (s : State) :
    leafRun k (post cs (setLeafRun l r s)) = if k = l then r else leafRun k s := leafRun_setLeafRun l k r s

/-- The run-time state of a leaf that goes to AJAR. -/
theorem changeLeaf_ajar (l : Fin 8) (s : State) : leafRun l (changeLeaf l .ajar s) = { leafRun l s with
    state := .ajar, transitDue := none, inconsistent := false, transitFlag := (leafRun l s).transitFlag && true } := by
  rw [changeLeaf_run, if_pos rfl, changedRun_eq]
  rfl

theorem transitExpired_run (k l : Fin 8) (s : State) : leafRun k (transitExpired l s) = if k = l then
    { leafRun l s with state := .ajar, transitDue := none, inconsistent := false, transitFlag := true }
    else leafRun k s := by
  unfold transitExpired
  simp only
  rw [leafRun_posted, changeLeaf_ajar, changeLeaf_run]
  by_cases here : k = l
  · rw [if_pos here, if_pos here]
  · rw [if_neg here, if_neg here, if_neg here]

theorem transitExpired_woken (l : Fin 8) (s : State) : Woken [.doorLeaf l .ajar] s (transitExpired l s) :=
  (changeLeaf_woken l .ajar s).posted _ l _

/-- The reports of an expiry: INCONSISTENT ends where it stood, and TRANSIT starts where it did not. -/
theorem transitExpired_adds (l : Fin 8) (s : State) :
    Adds (doorReport l .inconsistent (doorEntry l s).faultClass (leafRun l s).inconsistent false
      ++ doorReport l .transit (doorEntry l s).faultClass (leafRun l s).transitFlag true) s (transitExpired l s) := by
  have same (f : DoorFailure) (b : Bool) : doorReport l f (doorEntry l s).faultClass b b = [] := if_pos rfl
  have entry : doorEntry l (changeLeaf l .ajar s) = doorEntry l s :=
    doorEntry_eq (changeLeaf_leafing .ajar s .doorTable (by decide)) l
  have left : changedRun l .ajar s = leafRun l (changeLeaf l .ajar s) := by rw [changeLeaf_run, if_pos rfl]
  have first := changeLeaf_adds l .ajar s
  have chime : chimeAtClosing l .ajar s = [] := by rw [chimeAtClosing_eq, if_neg fun h => nomatch h.1]
  have second : Adds _ (changeLeaf l .ajar s) (transitExpired l s) := Adds.posted (.refl _) _ l _
  rw [chime, List.append_nil, left, flagReports_eq, changeLeaf_ajar, Bool.and_true, same, List.append_nil] at first
  rw [flagReports_eq, entry, changeLeaf_ajar, Bool.and_true, same, List.nil_append] at second
  exact first.trans second

theorem reformPortal_absent (absent : portalExists p s = false) : reformPortal p s = s :=
  if_neg fun h => Bool.false_ne_true (absent.symm.trans h)

/-- A re-forming, of a portal that exists or not, leaves the leaves. -/
theorem reformPortal_leafRun (k : Fin 8) (p : Fin 4) (s : State) : leafRun k (reformPortal p s) = leafRun k s := by
  cases exists_ : portalExists p s with
  | false => rw [reformPortal_absent exists_]
  | true => rw [leafRun_eq (reformPortal_leaves exists_)]

/-- A re-forming reports no condition of a leaf. -/
theorem reformPortal_reports (report : ofLeaf k c = true) (p : Fin 4) (s : State) :
    (reformPortal p s).inFlight.count c = s.inFlight.count c := by
  cases exists_ : portalExists p s with
  | false => rw [reformPortal_absent exists_]
  | true =>
    refine (reformPortal_adds exists_).absent (isNotice_of_ofLeaf report) fun member => ?_
    split at member
    · rw [List.mem_singleton.1 member] at report
      exact Bool.false_ne_true report
    · exact List.not_mem_nil member

theorem expireTransit_run (k l : Fin 8) (s : State) : leafRun k (expireTransit l s) = if k = l then
    { leafRun l s with state := .ajar, transitDue := none, inconsistent := false, transitFlag := true }
    else leafRun k s := by
  rw [expireTransit_eq, reformPortal_leafRun, transitExpired_run]

theorem expireTransit_starts (l : Fin 8) (s : State) :
    (expireTransit l s).inFlight.count (.faultConditionStart (.door l .transit) (doorEntry l s).faultClass)
      = s.inFlight.count (.faultConditionStart (.door l .transit) (doorEntry l s).faultClass)
        + if (leafRun l s).transitFlag then 0 else 1 := by
  rw [expireTransit_eq, reformPortal_reports (ofLeaf_start l .transit _), transitExpired_adds l s _ rfl,
    List.count_append, count_doorReport_start, count_doorReport_start]
  cases (leafRun l s).transitFlag <;> simp

/-- The portal of the leaf, where it exists. -/
theorem expireTransit_portal (exists_ : portalExists (portalOf l) s = true) :
    PortalFollowed (portalOf l) s (expireTransit l s)
      ∧ Woken (.doorLeaf l .ajar :: portalEvents (portalOf l) s (expireTransit l s)) s (expireTransit l s) := by
  have frame := transitExpired_frame l s
  have there : portalExists (portalOf l) (transitExpired l s) = true :=
    (portalExists_eq (frame .doorTable (by decide)) _).trans exists_
  have told := reformPortal_woken there
  rw [portalEvents_same frame] at told
  rw [expireTransit_eq]
  refine ⟨(reformPortal_followed there).of_before frame ?_, (transitExpired_woken l s).cons told⟩
  refine (transitExpired_adds l s).absent rfl fun member => ?_
  have report : Instr.requestWithdrawal (.portal (portalOf l)) ∈ flagReports l (doorEntry l s).faultClass (leafRun l s)
      { leafRun l s with inconsistent := false, transitFlag := true } := member
  exact Bool.false_ne_true (ofLeaf_of_mem_flagReports report)

theorem exec_transitTimerExpiry (l : Fin 8) (s : State) : exec (.transitTimerExpiry l) s
    = if isDue (leafRun l s).transitDue s then .next (expireTransit l s) else .next s := rfl

/-! ### The clauses of a notification -/

theorem Woken.told {es : List Event} (h : Woken es s t) (held : sendingHeld s = true) : Queued es s t
    ∧ t.cli.wake = (s.cli.wake || (decide (s.opState = .parked) && !es.isEmpty)) := (h.2 held).2

/-- The reading of a request slot and the flag of its portal (R143). -/
theorem requestRun_follows (p : Fin 4) (s : State) :
    (∀ b, requestRead p s = some b → (requestRun p s).reading = b)
      ∧ (requestRead p s = none → (requestRun p s).reading = (portalRun p s).reading)
      ∧ (requestRead p s = some true → (portalRun p s).reading = false → (portalRun p s).requested = false →
        presses p s = true)
      ∧ (presses p s = true → (requestRun p s).requested = true)
      ∧ (requestRead p s ≠ some true ∨ (portalRun p s).reading = true ∨ (portalRun p s).requested = true →
        (requestRun p s).requested = (portalRun p s).requested) := by
  refine ⟨fun b read => ?_, fun read => ?_, fun read inactive clear => ?_, fun pressed => ?_, fun quiet => ?_⟩
  · rw [requestRun, read]
    rfl
  · rw [requestRun, read]
    rfl
  · rw [presses, read, inactive, clear]
    rfl
  · rw [requestRun, pressed]
    exact Bool.or_true _
  · have none : presses p s = false := by
      rw [presses]
      rcases quiet with read | active | set
      · rw [decide_eq_false read, Bool.false_and, Bool.false_and]
      · rw [active, Bool.not_true, Bool.and_false, Bool.false_and]
      · rw [set, Bool.not_true, Bool.and_false]
    rw [requestRun, none]
    exact Bool.or_false _

/-- One leaf alone has the slot: its events, its portal and its closing chime, told of the part before. -/
theorem slotNotified_alone (awake : s.opState ≠ .config) (takes : leafTakes slot l s = true)
    (alone : ∀ k, leafTakes slot k s = true → k = l)
    (idle : ∀ q, ¬(portalExists q s = true
      ∧ ((leader q s).releaseSlot = some slot ∨ (leader q s).requestSlot = some slot))) :
    let t := slotNotified slot s
    let changed := (leafRun l t).state ≠ (leafRun l s).state
    Woken ((if edgeTurns slot l s then [.obstruction l] else [])
        ++ if changed then .doorLeaf l (leafRun l t).state :: portalEvents (portalOf l) s t else []) s t
      ∧ (changed → PortalFollowed (portalOf l) s t)
      ∧ (¬changed → t.drm.latch = s.drm.latch ∧ t.drm.portals = s.drm.portals ∧ t.sst = s.sst)
      ∧ ∀ x, (leader (portalOf l) s).chime = some x → t.inFlight.count (.requestPlacing (.portal (portalOf l)) x)
        = s.inFlight.count (.requestPlacing (.portal (portalOf l)) x)
          + if changed ∧ (leafRun l t).state = .closing ∧ otherClosing l s = false then 1 else 0 := by
  have taken : ChangesOnly beforeReforming s (slotTaken slot s) := (takeArrival_frame _ s).mono (by decide)
  have adds := slotTaken_adds slot s
  have told := notifyLeaf_woken (s := slotTaken slot s) takes
  rw [← slotNotified_single awake alone idle, portalEvents_same taken] at told
  have portal := notifyLeaf_portal (s := slotTaken slot s) takes
  have still := notifyLeaf_still (s := slotTaken slot s) takes
  rw [← slotNotified_single awake alone idle] at portal still
  refine ⟨Woken.after (.of_same rfl rfl) told, fun changed => ?_, fun unchanged => still (not_not.1 unchanged),
    fun x chime => ?_⟩
  · exact (portal changed).of_before taken (adds.absent rfl List.not_mem_nil)
  · have placings := notifyLeaf_placings (s := slotTaken slot s) takes chime
    rw [← slotNotified_single awake alone idle, adds.absent rfl List.not_mem_nil] at placings
    exact placings

end

/-- Settles O46: the notification taken in CONFIG, and outside it leaf by leaf, portal by portal and request by request; the
expiry of a transit timer. -/
theorem doorsFollowTheirInputs : Obligations.DoorsFollowTheirInputs := by
  intro slot s
  refine ⟨fun config => ?_, fun awake => ⟨slotNotified slot s, exec_doorInputNotification slot s, ?_, fun l idle => ?_,
    fun l input => ?_, fun p => ⟨fun ⟨exists_, cause⟩ => slotNotified_reformed awake exists_ cause, slotNotified_kept awake⟩,
    fun still unreleased => ?_, fun p exists_ request apart idle unreleased => ?_, fun l input alone unasked apart => ?_⟩,
    fun l => ⟨fun later => ?_, fun d due now => ?_⟩⟩
  · rw [exec_doorInputNotification, slotNotified_config config]
    rfl
  · exact ((takeArrival_frame _ s).mono (by decide)).trans ((notifyDoors_frame slot _).mono (by decide))
  · exact slotNotified_idle awake ((leafTakes_false slot l s).2 idle)
  · have takes := (leafTakes_iff slot l s).2 input
    refine ⟨slotNotified_followed awake takes, fun apart => ?_⟩
    obtain ⟨derived, edge, obstructions⟩ := slotNotified_state awake takes apart
    rw [edge, obstructions]
    exact ⟨derived, edgedRun_follows slot l s⟩
  · have spares := slotNotified_doorSlots awake still unreleased
    exact ⟨spares _ (by decide), spares _ (by decide)⟩
  · have quiet (l : Fin 8) : leafTakes slot l s = false := by
      rw [leafTakes_false, ← Bool.not_eq_true, ← not_and_or]
      exact fun h => idle l h.1 h.2
    obtain ⟨run, stands⟩ := slotNotified_request awake exists_ request apart quiet unreleased
    have read : requestRead p s = readInput slot s := by
      rw [requestRead, request]
      rfl
    obtain ⟨reads, unread, turns, sets, keeps⟩ := requestRun_follows p s
    rw [← read, run]
    refine ⟨reads, unread, fun active inactive clear => ?_, keeps⟩
    have pressed := turns active inactive clear
    obtain ⟨latch, written⟩ := stands pressed
    have now : (slotNotified slot s).now = s.now := (slotNotified_settles awake slot).now
    rw [now] at written
    exact ⟨sets pressed, latch, written, fun others held =>
      (slotNotified_press_woken awake exists_ request quiet unreleased others pressed).told held⟩
  · have takes := (leafTakes_iff slot l s).2 input
    obtain ⟨woken, portal, still, placings⟩ :=
      slotNotified_alone awake takes (fun k there => alone k ((leafTakes_iff slot k s).1 there)) unasked
    simp only [edgeTurns_iff] at woken
    simp only [otherClosing_false] at placings
    exact ⟨woken.told, portal, still, placings⟩
  · rw [exec_transitTimerExpiry, if_neg]
    rw [isDue_iff]
    rintro ⟨d, due, now⟩
    exact absurd now (Nat.not_le.2 (later d due))
  · refine ⟨expireTransit l s, ?_, ?_, fun k other => ?_, expireTransit_starts l s, fun exists_ => ?_,
      expireTransit_frame l s⟩
    · rw [exec_transitTimerExpiry, if_pos ((isDue_iff _ s).2 ⟨d, due, now⟩)]
    · rw [expireTransit_run, if_pos rfl]
    · rw [expireTransit_run, if_neg other]
    · obtain ⟨followed, woken⟩ := expireTransit_portal exists_
      exact ⟨followed, woken.told⟩

end Sys2Proof.Machine
end
